-- ==== Sys2Proof/Word.lean ====
section
/-!
DEFINITION. The plain words of the part: bytes, ports, cell clock times, and the one operation by which a
fixed row of like things (eight ports, four slots, 48 buffers, 17 segment bins) has one entry changed.
-/

namespace Sys2Proof

/-- One byte on a link or in the frame DRAM. -/
abbrev Byte := BitVec 8

/-- A camera port, 0 to 7 (00_scope.md, Terms). -/
abbrev Port := Fin 8

/-- A cell clock value or a duration, in microseconds (00_scope.md, Terms). -/
abbrev Time := Nat

/-- The eight ports in number order. -/
def allPorts : List Port := [0, 1, 2, 3, 4, 5, 6, 7]

/-- A row of `n` like things with entry `i` changed by `f`. -/
def upd {α : Type} {n : Nat} (v : Vector α n) (i : Fin n) (f : α → α) : Vector α n :=
  v.set i (f v[i])

/-- A count that saturates at `top`, raised by `k`. -/
def satAdd (top n k : Nat) : Nat := min top (n + k)

/-- A count that saturates at 4,294,967,295, raised by 1. -/
def sat32 (n : Nat) : Nat := satAdd 4294967295 n 1

/-- `a` divided by `b`, rounded up. -/
def ceilDiv (a b : Nat) : Nat := (a + b - 1) / b

end Sys2Proof
end

