-- ==== Sys2Proof/Syntax.lean ====
section
/-!
DEFINITION. The commands of the part: one constructor for each row of spec/opcode_table.json, in the table's order.

A row that is the serving of a request (PORT_CONFIG, PLAN_LOAD, ...) carries no operand: the request it serves, with
its kind, tag and body bytes, stands at the head of the request queue, where CONTROL_FRAME_RECEIVED put it (R172,
R175). A row that is an event carries what the event brings from outside: a port, a measured current, the bytes of a
packet. A row that is the running out of a timer carries the port whose timer it is; the time itself is the cell
clock of the state.
-/

namespace Sys2Proof

/-- One byte as the serial receiver took it, with whether its stop bit was high (R172, FRAMING). -/
structure LineByte where
  value : Byte
  stopHigh : Bool
deriving DecidableEq, Repr

/-- How a hub transaction on a sideband ended (R126, R128, R129). -/
inductive BusOutcome where
  /-- Every byte of the write was acknowledged. -/
  | ack
  /-- The address byte was not acknowledged (R128). -/
  | noAnswer
  /-- A byte of the write after the address byte was not acknowledged (R129). -/
  | rejected
  /-- A REPORT was answered with these bytes (section 6.4). -/
  | report (bytes : List Byte)
deriving DecidableEq, Repr

/-- A hang of a port's sideband (R130), with whether the address byte of the hub's transaction under way had been
acknowledged before it (R128). -/
structure BusHang where
  port : Port
  addressAcked : Bool
deriving DecidableEq, Repr

/-- An edge of TRIG_IN (R60). -/
inductive Edge where
  | rising
  | falling
deriving DecidableEq, Repr

/-- The commands: one constructor for each row of the table of operations and events. -/
inductive Instr where
  /-- POWER_ON_RESET (R183): power is applied to the part. -/
  | powerOnReset
  /-- NRESET (R183): the NRESET pin is held low and released. -/
  | nreset
  /-- CONTROL_FRAME_RECEIVED (R172): a 0xF5 delimiter arrives on CL_RX after these bytes. -/
  | controlFrameReceived (bytes : List LineByte)
  /-- UNKNOWN_REQUEST (R173): the request at the head is served and its kind is not in the catalogue. -/
  | unknownRequest
  /-- TX_FRAME_END (R177): the last byte of the frame being sent on CL_TX has been sent. -/
  | txFrameEnd
  /-- PORT_CONFIG (R3) is served. -/
  | portConfig
  /-- PORT_POWER(ON) (R15) is served. -/
  | portPowerOn
  /-- PORT_POWER(OFF) (R16) is served. -/
  | portPowerOff
  /-- PORT_POWER(PROBE) (R16) is served. -/
  | portPowerProbe
  /-- PORT_UNLOCK (R17) is served. -/
  | portUnlock
  /-- PORT_STATUS (R18) is served. -/
  | portStatus
  /-- SET_CAPACITY (R24) is served. -/
  | setCapacity
  /-- SET_SUPPLY_POLICY (R28) is served. -/
  | setSupplyPolicy
  /-- SUPPLY_STATUS (R24) is served. -/
  | supplyStatus
  /-- PROBE_PULSE_START (R4): the port's probe timer has run out. -/
  | probePulseStart (p : Port)
  /-- PROBE_PULSE_END (R5): the pulse ends with this current flowing, in mA. -/
  | probePulseEnd (p : Port) (milliamps : Nat)
  /-- RAMP_END (R7): the port's ramp has run its 20 ms. -/
  | rampEnd (p : Port)
  /-- CURRENT_SAMPLE (R9): the port's current monitor takes a sample of this current, in mA. -/
  | currentSample (p : Port) (milliamps : Nat)
  /-- THRESHOLD_TRIP (R10, R11): the port's over-threshold run has lasted 2 ms. -/
  | thresholdTrip (p : Port)
  /-- HARD_LIMIT_TRIP (R10, R11): the limit comparator sees this current, in mA. -/
  | hardLimitTrip (p : Port) (milliamps : Nat)
  /-- OPEN_LOAD (R13): the port's underload run has lasted 200 ms. -/
  | openLoad (p : Port)
  /-- COOLDOWN_END (R11): the port's cooldown has run its 400 ms. -/
  | cooldownEnd (p : Port)
  /-- TRIP_DECAY (R12): the port's decay timer has run 45 s. -/
  | tripDecay (p : Port)
  /-- SUPPLY_LOW (R25): CELL_IN is measured at this voltage, having been below 19.0 V for `heldMicros`. -/
  | supplyLow (millivolts : Nat) (heldMicros : Nat)
  /-- SUPPLY_FULL_SHED_CHECK (R26): CELL_IN is looked at 50 ms after the supply became LOW. -/
  | supplyFullShedCheck (millivolts : Nat)
  /-- SUPPLY_RECOVERED (R27): CELL_IN is measured at this voltage, having been above 20.5 V for `heldMicros`. -/
  | supplyRecovered (millivolts : Nat) (heldMicros : Nat)
  /-- LANE_STATUS (R48) is served. -/
  | laneStatus
  /-- LANE_LOCK_ACQUIRED (R33): the lane has recovered the camera's clock and pattern. -/
  | laneLockAcquired (p : Port)
  /-- TRAINING_DEADLINE (R33): 50 ms have passed without lock. -/
  | trainingDeadline (p : Port)
  /-- TRAINING_RETRY (R33): the retry timer has run 250 ms. -/
  | trainingRetry (p : Port)
  /-- LOCK_LOST (R34): the lane loses the camera's clock. -/
  | lockLost (p : Port)
  /-- QUIET_RETRAIN_END (R35): 100 µs after the acquisition ended, with lock or without. -/
  | quietRetrainEnd (p : Port) (hasLock : Bool)
  /-- PACKET_UNKNOWN_TYPE (R38): a camera packet with an unknown type byte. -/
  | packetUnknownType (p : Port)
  /-- FRAME_START (R41) from the camera. -/
  | frameStart (p : Port) (tag : Byte) (width height depth : Nat)
  /-- LINE (R42) from the camera: its number, its pixel bytes as sent and its CRC-32. -/
  | line (p : Port) (number : Nat) (pixels : List Byte) (crc : BitVec 32)
  /-- FRAME_END (R43) from the camera. -/
  | frameEnd (p : Port) (tag : Byte) (lineCount : Nat)
  /-- RECEPTION_DEADLINE (R44): the deadline of the port's reception window. -/
  | receptionDeadline (p : Port)
  /-- EXPOSURE_WINDOW_END (R40): the end time of the port's exposure window. -/
  | exposureWindowEnd (p : Port)
  /-- PLAN_LOAD (R51) is served. -/
  | planLoad
  /-- PLAN_ARM (R55) is served. -/
  | planArm
  /-- PLAN_STOP (R56) is served. -/
  | planStop
  /-- PLAN_ABORT (R57) is served. -/
  | planAbort
  /-- PLAN_CLEAR (R58) is served. -/
  | planClear
  /-- PLAN_FIRE (R66) is served. -/
  | planFire
  /-- PLAN_STATUS (R75) is served. -/
  | planStatus
  /-- SIGNAL_CONFIG (R74) is served. -/
  | signalConfig
  /-- PERIOD_EXPIRY (R60): the FREE_RUN period timer expires. -/
  | periodExpiry
  /-- TRIG_IN_EDGE (R60): an edge of TRIG_IN. -/
  | trigInEdge (edge : Edge)
  /-- HELD_CYCLE_START (R62): no port of the plan is in QUIET any longer. -/
  | heldCycleStart
  /-- SLOT_DISPATCH (R64): the offset of this slot in the current cycle is reached. -/
  | slotDispatch (slot : Fin 4)
  /-- FRAME_HOLD (R94) is served. -/
  | frameHold
  /-- FRAME_RELEASE (R95) is served. -/
  | frameRelease
  /-- STORE_STATUS (R96) is served. -/
  | storeStatus
  /-- COMBINE_COMPLETE (R90): the end time of the combine in progress. -/
  | combineComplete
  /-- REGION_READ (R106) is served. -/
  | regionRead
  /-- UPLINK_STATUS (R112) is served. -/
  | uplinkStatus
  /-- READY (R100, R101): a good READY word with its initial grant. -/
  | ready (grant : BitVec 16)
  /-- GRANT (R102): a good GRANT word. -/
  | grant (grant : BitVec 16)
  /-- IDLE (R101): a good IDLE word. -/
  | idle
  /-- RETURN_ERROR (R99): a return word with a bad check or an unknown type byte. -/
  | returnError
  /-- RETURN_SILENCE (R101): 1,000 µs have passed without a good return word. -/
  | returnSilence
  /-- UPLINK_PACKET_END (R103): the uplink packet under way has been sent. -/
  | uplinkPacketEnd
  /-- LENS_MOVE (R117) is served. -/
  | lensMove
  /-- LENS_PRESET (R117) is served. -/
  | lensPreset
  /-- LENS_PRESET_SET (R116) is served. -/
  | lensPresetSet
  /-- LENS_HOME (R119) is served. -/
  | lensHome
  /-- LENS_HALT (R120) is served. -/
  | lensHalt
  /-- LENS_STATUS (R133) is served. -/
  | lensStatus
  /-- POLL_SLOT (R126): a poll slot of the port's move in flight. -/
  | pollSlot (p : Port)
  /-- SIDEBAND_TRANSACTION_END (R126, R128, R129): the hub transaction under way on the port's sideband ends. -/
  | sidebandTransactionEnd (p : Port) (outcome : BusOutcome)
  /-- SETTLE_END (R126): the settle time of the port's move has run. -/
  | settleEnd (p : Port)
  /-- MOVE_DEADLINE (R127): the deadline of the port's move in flight. -/
  | moveDeadline (p : Port)
  /-- HALT_READ_POLL (R120): 10 ms after the last REPORT of the port's halt read. -/
  | haltReadPoll (p : Port)
  /-- HALT_DEADLINE (R120): 100 ms after the halt. -/
  | haltDeadline (p : Port)
  /-- BUS_TIMEOUT (R130): a line of a port's sideband has been held low for more than 25 ms. -/
  | busTimeout (hang : BusHang)
  /-- ARBITRATION_LOST (R131): the hub reads data low at a bit it left high. -/
  | arbitrationLost (p : Port)
  /-- HEAD_MESSAGE (R132): the camera head's message ends; its bytes from the address byte to the check byte. -/
  | headMessage (p : Port) (bytes : List Byte)
  /-- MOTION_SEGMENT (R136) is served. -/
  | motionSegment
  /-- EVIDENCE_CONFIG (R138) is served. -/
  | evidenceConfig
  /-- BREAK_LIST (R150) is served. -/
  | breakList
  /-- BREAK_CLEAR (R151) is served. -/
  | breakClear
  /-- EVIDENCE_WINDOW_CLOSE (R138): the window end. -/
  | evidenceWindowClose
  /-- CABLE_SET (R154) is served. -/
  | cableSet
  /-- SWEEP_REQUEST (R155) is served. -/
  | sweepRequest
  /-- SWEEP_CANCEL (R157) is served. -/
  | sweepCancel
  /-- SWEEP_RESULT (R170) is served. -/
  | sweepResult
  /-- CALIBRATION_END (R159): the calibration gives this count C. -/
  | calibrationEnd (count : Nat)
  /-- ACQUISITION_END (R160): the 200 µs of the acquisition have run; its deviations from index 0 on. -/
  | acquisitionEnd (deviations : List Int)
  /-- SWEEP_DEADLINE (R163): the deadline of the sweep in progress. -/
  | sweepDeadline
  /-- ANALYSIS_END (R168): the 2 ms of the analysis have run. -/
  | analysisEnd
  /-- IDENTIFY (R178) is served. -/
  | identify
  /-- LINK_STATUS (R178) is served. -/
  | linkStatus
  /-- CELL_RESET (R179) is served. -/
  | cellReset
  /-- PROFILE_SAVE (R181) is served. -/
  | profileSave
  /-- PROFILE_WRITE_END (R181): the 200 ms of the write have run; whether the image read back agrees. -/
  | profileWriteEnd (agrees : Bool)
  /-- PROFILE_RESTORE_DEFAULTS (R182) is served. -/
  | profileRestoreDefaults
  /-- HEAD_START (R125): the camera head begins a message on the port's free sideband bus. -/
  | headStart (p : Port)
  /-- BUS_RECOVERY_END (R130): the recovery clock pulses and the stop condition end. -/
  | busRecoveryEnd (p : Port)
  /-- GATHERED_CONTENT_OVERLONG (R172): the content being gathered passes 1,030 bytes. -/
  | gatheredContentOverlong
deriving DecidableEq, Repr

end Sys2Proof
end

