-- ==== Sys2Proof/Config.lean ====
section
/-!
DEFINITION. What the spec leaves open as a value: one uninterpreted family of free values. The step applies it to
the counter `State.freeCount`, which it then advances, so that every use is a fresh value that nothing constrains.
-/

namespace Sys2Proof

/-- The n-th free value: it has no body, so nothing proved here depends on what it is (notes/assumptions/2.md). -/
opaque Config.freeValue : Nat → Nat

end Sys2Proof
end

