-- ==== Sys2Proof/Machine/State.lean ====
section
/-!
DEFINITION. Everything the spec gives the part to hold, block by block, as plain data, and the state after reset.
Quantities that the spec defines as a function of other state (the committed sum and its parts R19, the effective
threshold R9, the levels of the signal outputs R73, the image state R180, the switch positions of R1) have no field of
their own: Machine/Queries.lean computes them from the fields they are defined by.
-/

namespace Sys2Proof.Machine

/-! ## Settings: the contents of the profile (R180, section 9.5) -/

/-- The ambient limit of a port (section 3.7): OFF, 1, 8 or 32. -/
inductive AmbientLimit where
  | off | one | eight | thirtyTwo
deriving DecidableEq, Repr

/-- The lens kinds (section 6.1). -/
inductive LensKind where
  | none | focus | focusIris | focusIrisZoom
deriving DecidableEq, Repr

/-- The port profile: the tables of sections 1.2, 2.2, 3.7 and 6.1, the configured mark (R54) and the auto-sweep
field (R141). The default of each field is its factory default. -/
structure PortProfile where
  baseReservation : Nat := 600
  overcurrent : Nat := 1200
  underload : Nat := 40
  priority : Nat := 1
  autoPower : Bool := false
  probeEnable : Bool := true
  /-- in ms -/
  probePeriod : Nat := 1000
  lensSurge : Nat := 300
  strobePeak : Nat := 0
  width : Nat := 1024
  height : Nat := 1024
  depth : Nat := 8
  /-- in µs -/
  readout : Nat := 20000
  ambientThreshold : Nat := 64
  ambientLimit : AmbientLimit := .eight
  lensKind : LensKind := .none
  focusSpeed : Nat := 16
  irisSpeed : Nat := 4
  zoomSpeed : Nat := 16
  autoHome : Bool := false
  /-- in kHz -/
  sidebandClock : Nat := 100
  autoSweep : Bool := false
  configured : Bool := false
deriving DecidableEq, Repr

/-- The cable record of a port (R153). -/
structure CableRecord where
  isSet : Bool := false
  length : Option Nat := none
  velocity : Nat := 660
  launch : Option Nat := none
  couplers : List Nat := []
  threshold : Nat := 96
deriving DecidableEq, Repr

/-- One entry of a port's preset table (R116); the settle time is in ms. -/
structure PresetEntry where
  focus : Nat := 0
  iris : Option Nat := none
  zoom : Option Nat := none
  settle : Nat := 0
deriving DecidableEq, Repr

/-- The recovery policy of the supply monitor (R28). -/
inductive RecoveryPolicy where
  | auto | latched
deriving DecidableEq, Repr

/-- The functions of the cell signal outputs (R73). -/
inductive SignalFunction where
  | low | cycleActive | exposing | breakConfirmed | supplyLow
deriving DecidableEq, Repr

/-- The working settings: what PROFILE_SAVE snapshots and the profile image holds (section 9.5). -/
structure Settings where
  ports : Vector PortProfile 8 := Vector.replicate 8 {}
  cables : Vector CableRecord 8 := Vector.replicate 8 {}
  presets : Vector (Vector PresetEntry 8) 8 := Vector.replicate 8 (Vector.replicate 8 {})
  capacity : Nat := 8000
  keepLevel : Nat := 2
  policy : RecoveryPolicy := .auto
  /-- W, in s -/
  windowSeconds : Nat := 10
  /-- E -/
  suspectThreshold : Nat := 16
  /-- N -/
  confirmWindows : Nat := 3
  signalA : SignalFunction := .cycleActive
  signalB : SignalFunction := .low
deriving DecidableEq, Repr

/-! ## Chapter 1: port power and the supply allocator -/

/-- The power states (R1). -/
inductive PowerState where
  | off | probing | waiting | ramping | on | cooldown | locked
deriving DecidableEq, Repr

/-- The last-off reasons (R2). -/
inductive OffReason where
  | host | trip | openLoad | shed | reset | lock
deriving DecidableEq, Repr

/-- The presence of a camera (section 1.1). -/
inductive Presence where
  | unseen | present | absent
deriving DecidableEq, Repr

/-- An over-threshold or underload run: when it began and when its latest sample was taken (R10, R13). -/
structure Run where
  start : Time
  last : Time
deriving DecidableEq, Repr

/-- What a PORT POWER SWITCH holds (section 1.1). A timer holds the cell clock time at which it runs out, or none
while idle. `samples` holds the samples taken since the monitor was cleared, newest first, at most 1,000: those before
the first read 0 mA (R9). DESIGN CHOICE: the first sample after a power-on reset or NRESET falls at cell clock 1,000 µs
(notes/assumptions/50.md). -/
structure PortPower where
  state : PowerState := .off
  reason : OffReason := .reset
  presence : Presence := .unseen
  tripCount : Nat := 0
  decayAt : Option Time := none
  samples : List Nat := []
  nextSampleAt : Time := 1000
  overRun : Option Run := none
  underRun : Option Run := none
  overdrawSent : Bool := false
  shedMark : Bool := false
  probeAt : Option Time := none
  pulseEndAt : Option Time := none
  rampEndAt : Option Time := none
  cooldownEndAt : Option Time := none
  /-- The strobe intervals the lane has given, each from its start to its end (R39). -/
  strobes : List (Time × Time) := []
deriving DecidableEq, Repr

/-- The kinds of claim (R20). -/
inductive ClaimKind where
  | power | lens
deriving DecidableEq, Repr

/-- An entry of the claim list (R20). -/
structure Claim where
  port : Port
  kind : ClaimKind
  need : Nat
  priority : Nat
  arrival : Time
deriving DecidableEq, Repr

/-- The stages of a LOW supply (section 1.8). -/
inductive SupplyStage where
  | first | full
deriving DecidableEq, Repr

/-- What the SUPPLY ALLOCATOR and the supply monitor hold beside their settings: the claim list, the stage when the
supply is LOW (none in NORMAL), when the look of R26 falls due, and the CELL_IN voltage last measured, in mV. -/
structure Supply where
  claims : List Claim := []
  low : Option SupplyStage := none
  fullCheckAt : Option Time := none
  millivolts : Nat := 0
deriving DecidableEq, Repr

/-! ## Frames (R80, R81) -/

/-- The flags of a frame, in the order of the flags table of section 5.2. -/
structure FrameFlags where
  truncated : Bool := false
  lineErrors : Bool := false
  lensUnsettled : Bool := false
  lensMoving : Bool := false
  triggerDelayed : Bool := false
  ambientHigh : Bool := false
  uncombined : Bool := false
  combined : Bool := false
  aborted : Bool := false
  cableSuspect : Bool := false
  notHeld : Bool := false
deriving DecidableEq, Repr

/-! ## Chapter 2: camera lanes -/

/-- The lane states (R31). -/
inductive LaneState where
  | down | training | locked | quiet
deriving DecidableEq, Repr

/-- The reception states of a window (section 2.4). -/
inductive RxState where
  | awaitingStart | receiving | dropped
deriving DecidableEq, Repr

/-- The window record (section 2.4). -/
structure RxWindow where
  tag : Byte
  sendTime : Time
  exposureEnd : Time
  deadline : Time
  slot : Fin 4
  cycle : Nat
  position : Nat
  flags : FrameFlags
  rx : RxState
deriving DecidableEq, Repr

/-- An open exposure window: its end, and the slot and cycle that opened it (R40, R68). -/
structure Exposure where
  endAt : Time
  slot : Fin 4
  cycle : Nat
deriving DecidableEq, Repr

/-- A frame in reception (section 2.5). `stored` is the set of stored lines, latest first. -/
structure RxFrame where
  tag : Byte
  buffer : Fin 48
  id : Nat
  slot : Fin 4
  cycle : Nat
  position : Nat
  triggerTime : Time
  width : Nat
  height : Nat
  depth : Nat
  lastLine : Option Nat := none
  stored : List Nat := []
  pixelSum : Nat := 0
  flags : FrameFlags
deriving DecidableEq, Repr

/-- The counts of a lane, in the order of R48's table. -/
structure LaneCounts where
  attempts : Nat := 0
  lockLosses : Nat := 0
  crcErrors : Nat := 0
  lockTruncations : Nat := 0
  dataErrors : Nat := 0
  protocolErrors : Nat := 0
  strays : Nat := 0
  lostLines : Nat := 0
  noStart : Nat := 0
  deadlineTruncations : Nat := 0
  started : Nat := 0
  dropped : Nat := 0
  closed : Nat := 0
deriving DecidableEq, Repr

/-- What a CAMERA LANE RECEIVER holds (section 2.1). `backChannel` is the packet last sent to the camera. -/
structure Lane where
  state : LaneState := .down
  since : Time := 0
  deadlineAt : Option Time := none
  retryAt : Option Time := none
  /-- When the retrain of a QUIET period is judged (R35); absent until its acquisition has ended. -/
  retrainAt : Option Time := none
  failedRun : Nat := 0
  tag : Byte := 0
  exposure : Option Exposure := none
  window : Option RxWindow := none
  frame : Option RxFrame := none
  counts : LaneCounts := {}
  lastMean : Nat := 0
  backChannel : List Byte := []
deriving DecidableEq, Repr

/-! ## Chapter 3: the capture sequencer -/

/-- The plan states (R50). -/
inductive PlanState where
  | empty | loaded | armed | running | stopping
deriving DecidableEq, Repr

/-- The cycle modes (section 3.2). -/
inductive CycleMode where
  | freeRun | lineTrigger
deriving DecidableEq, Repr

/-- A combine sign (section 3.2). -/
inductive Sign where
  | plus | minus | none
deriving DecidableEq, Repr

/-- A slot of a plan (section 3.2) with the strobe count used (R53). `fire` holds a mark for each position, true for
FIRE. -/
structure Slot where
  ports : Vector Bool 8
  offset : Nat
  exposure : Nat
  pulses : Nat
  firstPulse : Nat
  pulseWidth : Nat
  pulsePeriod : Nat
  fire : List Bool
  signs : List Sign
  preset : Option (Fin 8)
  hold : Bool
  used : Nat
deriving DecidableEq, Repr

/-- The plan record (section 3.2): the period is present in FREE_RUN, the edge in LINE_TRIGGER. -/
structure Plan where
  mode : CycleMode
  period : Option Nat
  edge : Option Edge
  length : Nat
  slots : List Slot
deriving DecidableEq, Repr

/-- The current cycle (section 3.1). -/
structure Cycle where
  number : Nat
  position : Nat
  start : Time
  delayed : Bool
  /-- the slots already dispatched, in the order of their dispatch -/
  dispatched : List (Fin 4)
  /-- the reception windows it has opened that are still open, by slot and port -/
  windows : List (Fin 4 × Port)
deriving DecidableEq, Repr

/-- The sources of a cycle start (R60). -/
inductive StartSource where
  | timer | line | fire
deriving DecidableEq, Repr

/-- The pending trigger (R60, R62). -/
structure PendingTrigger where
  source : StartSource
  arrival : Time
  held : Bool
deriving DecidableEq, Repr

/-- What the CAPTURE SEQUENCER holds (section 3.1); the signal functions stand in the settings. -/
structure Sequencer where
  state : PlanState := .empty
  plan : Option Plan := none
  cycleCounter : Nat := 0
  current : Option Cycle := none
  pending : Option PendingTrigger := none
  nextExpiry : Option Time := none
  begun : Nat := 0
  delayed : Nat := 0
  overruns : Nat := 0
  ignored : Nat := 0
  missed : Vector (Vector Nat 8) 4 := Vector.replicate 4 (Vector.replicate 8 0)
  exceed : Vector Nat 8 := Vector.replicate 8 0
deriving DecidableEq, Repr

/-! ## Chapter 4: the frame store -/

/-- The buffer states (R78). -/
inductive BufferState where
  | free | filling | grouped | combining | queued | sending | held
deriving DecidableEq, Repr

/-- The frame record (R80). -/
structure FrameRecord where
  id : Nat
  buffer : Fin 48
  port : Port
  slot : Fin 4
  cycle : Nat
  position : Nat
  triggerTime : Time
  width : Nat
  height : Nat
  depth : Nat
  mean : Option Nat
  flags : FrameFlags
  hold : Bool
  heldPlace : Bool
  members : Option (List Nat)
deriving DecidableEq, Repr

/-- A combine group (R84): the places hold the member of each position, and the signs are those of its slot. -/
structure Group where
  slot : Fin 4
  port : Port
  pass : Nat
  broken : Bool
  signs : List Sign
  places : Vector (Option Nat) 8
deriving DecidableEq, Repr

/-- The combine in progress (R88): the members, by sign and id in position order, with its start and end. -/
structure Combine where
  slot : Fin 4
  port : Port
  members : List (Sign × Nat)
  startAt : Time
  endAt : Time
deriving DecidableEq, Repr

/-- What the FRAME STORE and the COMBINE ENGINE hold (section 4.1). -/
structure Store where
  buffers : Vector BufferState 48 := Vector.replicate 48 .free
  frames : List FrameRecord := []
  freeList : List (Fin 48) := List.finRange 48
  groups : List Group := []
  combineQueue : List Group := []
  combine : Option Combine := none
  outputQueue : List Nat := []
  heldSet : List Nat := []
  idCounter : Nat := 0
  notified : Vector (Option Nat) 8 := Vector.replicate 8 none
  drops : Vector Nat 8 := Vector.replicate 8 0
  combinesDone : Nat := 0
  abandoned : Nat := 0
  overflows : Nat := 0
deriving DecidableEq, Repr

/-! ## Chapter 5: the image uplink -/

/-- The modes of a region read (R107). -/
inductive RegionMode where
  | linear | group16 | group64
deriving DecidableEq, Repr

/-- A region read entry (section 5.4). -/
structure RegionEntry where
  number : Nat
  frame : Nat
  mode : RegionMode
  start : Nat
  count : Option Nat
  arrival : Time
deriving DecidableEq, Repr

/-- The next packet of an item: its header, the LINE at this place of its line order, or its trailer (R103). -/
inductive ItemNext where
  | header | line (place : Nat) | trailer
deriving DecidableEq, Repr

/-- What the item in flight sends: a frame, or a region of a held frame (R105, R108). -/
inductive ItemKind where
  | frame | region (entry : RegionEntry)
deriving DecidableEq, Repr

/-- The item in flight (R105, R108): `next` is the packet to begin after the one under way; `crc` is the register of the
line CRC-32 so far, before the final inversion. -/
structure Item where
  kind : ItemKind
  frame : Nat
  next : ItemNext
  sent : Nat
  crc : BitVec 32
deriving DecidableEq, Repr

/-- A pending ABORTED trailer (R114). -/
structure PendingTrailer where
  frame : Nat
  flags : FrameFlags
  sent : Nat
  crc : BitVec 32
deriving DecidableEq, Repr

/-- The packet under way on the uplink: what it is, and its bytes from the type byte to the check. -/
inductive PacketKind where
  | header | line | trailer
  /-- the last packet of an item that a cell reset ended, or a pending trailer being sent (R114) -/
  | orphan | pendingTrailer
deriving DecidableEq, Repr

structure Packet where
  kind : PacketKind
  bytes : List Byte
deriving DecidableEq, Repr

/-- The counts of the UPLINK TRANSMITTER, in the order of R112. -/
structure UplinkCounts where
  handshakes : Nat := 0
  downs : Nat := 0
  framesSent : Nat := 0
  regionsSent : Nat := 0
  framesLost : Nat := 0
  regionsLost : Nat := 0
  abortedTrailers : Nat := 0
  creditWaits : Nat := 0
  discardedCredits : Nat := 0
  discardedGrants : Nat := 0
  returnErrors : Nat := 0
deriving DecidableEq, Repr

/-- What the UPLINK TRANSMITTER holds (section 5.1). `waiting` tells that a packet waits for a credit (R102). -/
structure Uplink where
  up : Bool := false
  since : Time := 0
  credits : Nat := 0
  lastGoodWord : Time := 0
  item : Option Item := none
  trailer : Option PendingTrailer := none
  packet : Option Packet := none
  waiting : Bool := false
  regions : List RegionEntry := []
  regionCounter : Nat := 0
  counts : UplinkCounts := {}
deriving DecidableEq, Repr

/-! ## Chapter 6: lenses and their sidebands -/

/-- The lens states (section 6.1). -/
inductive LensState where
  | absent | unknown | homing | idle | moving | stalled | fault
deriving DecidableEq, Repr

/-- The origin of a move (section 6.2). -/
inductive MoveOrigin where
  | host | plan
deriving DecidableEq, Repr

/-- The kinds of move (section 6.2). -/
inductive MoveKind where
  | seek | home
deriving DecidableEq, Repr

/-- A value for each axis of a lens, each of them optional: targets or positions. -/
structure Axes where
  focus : Option Nat := none
  iris : Option Nat := none
  zoom : Option Nat := none
deriving DecidableEq, Repr

/-- A move (section 6.2); the settle time is in ms. -/
structure Move where
  kind : MoveKind
  targets : Axes
  settle : Nat
  origin : MoveOrigin
  preset : Option (Fin 8)
deriving DecidableEq, Repr

/-- The start stages of a pending move (section 6.1). -/
inductive StartStage where
  | none | windowWait | claimWait
deriving DecidableEq, Repr

/-- A lens's claim (section 6.1). -/
inductive LensClaim where
  | none | standing | granted
deriving DecidableEq, Repr

/-- The move in flight (section 6.1, R125, R126): its estimate in ms, its deadline, its next poll slot, whether its SEEK
or FIND_HOME has been acknowledged (R128), and the end of its settle phase once it has entered it. -/
structure Flight where
  move : Move
  estimate : Nat
  deadline : Time
  nextPoll : Time
  acked : Bool
  settleEndAt : Option Time
deriving DecidableEq, Repr

/-- A halt read under way (R120), with the move in flight that the halt ended. -/
structure HaltRead where
  move : Option Move
  deadline : Time
  nextPoll : Time
deriving DecidableEq, Repr

/-- The faults of a lens (section 6.1). -/
inductive LensFault where
  | noAnswer | rejected | busTimeout | arbLimit | stall | limit | overheat
deriving DecidableEq, Repr

/-- The counts of a lens, in the order of R133. -/
structure LensCounts where
  begun : Nat := 0
  done : Nat := 0
  waits : Nat := 0
  stalls : Nat := 0
  noAnswers : Nat := 0
  rejections : Nat := 0
  busTimeouts : Nat := 0
  arbLosses : Nat := 0
  headMessages : Nat := 0
  headErrors : Nat := 0
  reportErrors : Nat := 0
deriving DecidableEq, Repr

/-- The states of a sideband bus (R125). -/
inductive BusState where
  | off | free | hub | head | recovery
deriving DecidableEq, Repr

/-- The transactions the hub makes (section 6.4): the SEEK or FIND_HOME of the move in flight, a STOP, the REPORT of a
poll and the REPORT of a halt read. -/
inductive TxnKind where
  | motion | stop | poll | haltRead
deriving DecidableEq, Repr

/-- A hub transaction with the number of times it has lost the bus (R131) and the bytes the hub sends. -/
structure Txn where
  kind : TxnKind
  losses : Nat
  bytes : List Byte
deriving DecidableEq, Repr

/-- What a LENS SIDEBAND MASTER holds: the bus state, the transaction under way, and those that wait for the bus. -/
structure Bus where
  state : BusState := .off
  txn : Option Txn := none
  waiting : List Txn := []
deriving DecidableEq, Repr

/-- What the LENS CONTROLLER holds for a port (section 6.1), with the port's sideband bus. `toBegin` tells that the
pending move has passed its tests and its grant and waits only for the bus to begin (R125): its start stage is then the
last it reached. -/
structure Lens where
  state : LensState := .absent
  position : Axes := {}
  pending : Option Move := none
  stage : StartStage := .none
  toBegin : Bool := false
  claim : LensClaim := .none
  waits : Nat := 0
  flight : Option Flight := none
  halt : Option HaltRead := none
  noAnswer : Nat := 0
  lastFault : Option LensFault := none
  counts : LensCounts := {}
  bus : Bus := {}
deriving DecidableEq, Repr

/-! ## Chapter 7: cable evidence and the break table -/

/-- A motion segment, or none for NONE (R136). -/
abbrev Segment := Option (Fin 16)

/-- The evidence counts of a port (section 7.2). The bins are those of segments 0 to 15 and then that of NONE. -/
structure Evidence where
  errors : Nat := 0
  bins : Vector Nat 17 := Vector.replicate 17 0
  above : Nat := 0
  quiet : Nat := 0
  saturated : Nat := 0
deriving DecidableEq, Repr

/-- What the CABLE EVIDENCE MONITOR holds (section 7.2); W, E and N stand in the settings. -/
structure Monitor where
  segment : Segment := none
  windowStart : Time := 0
  windowEnd : Time := 10000000
  ports : Vector Evidence 8 := Vector.replicate 8 {}
deriving DecidableEq, Repr

/-- The kinds of break record (section 7.5). -/
inductive BreakKind where
  | dataErrors | powerOpen | powerShort | lensSilent | reflection
deriving DecidableEq, Repr

/-- The states of a break record (section 7.5). -/
inductive BreakState where
  | suspect | confirmed | cleared
deriving DecidableEq, Repr

/-- The polarity of a reflection (R164). -/
inductive Polarity where
  | open | short
deriving DecidableEq, Repr

/-- What a break record of kind REFLECTION holds beside the others (section 7.5). -/
structure ReflectionPart where
  location : Nat
  polarity : Polarity
  latest : Nat
  sweep : Nat
deriving DecidableEq, Repr

/-- A break record (section 7.5). The segment mask lists its segments, lowest first. -/
structure BreakRecord where
  id : Nat
  port : Port
  kind : BreakKind
  state : BreakState
  mask : Option (List (Fin 16))
  reflection : Option ReflectionPart
  occurrences : Nat
  firstSeen : Time
  lastSeen : Time
  locatedBy : Option Nat
deriving DecidableEq, Repr

/-- What the BREAK TABLE holds (section 7.5). -/
structure BreakTable where
  records : List BreakRecord := []
  nextId : Nat := 1
  unrecorded : Vector Nat 8 := Vector.replicate 8 0
deriving DecidableEq, Repr

/-! ## Chapter 8: reflection sweeps -/

/-- The kinds of sweep (section 8.2). -/
inductive SweepKind where
  | fault | baseline
deriving DecidableEq, Repr

/-- The quorums (section 8.2). -/
inductive Quorum where
  | quarter | half | all
deriving DecidableEq, Repr

/-- The sources of a sweep (section 8.2). -/
inductive SweepSource where
  | host | auto
deriving DecidableEq, Repr

/-- A sweep request, as its queue entry holds it (section 8.2); the deadline is in s. -/
structure SweepEntry where
  port : Port
  kind : SweepKind
  acquisitions : Nat
  quorum : Quorum
  segment : Segment
  deadline : Nat
  number : Nat
  source : SweepSource
deriving DecidableEq, Repr

/-- The states of a result record: NONE, the stages of R158, and the outcomes. -/
inductive SweepState where
  | none | calibrating | acquiring | suspended | analysing
  | done | partly | timedOut | calFault | cancelled
deriving DecidableEq, Repr

/-- The verdicts (R168, R169). -/
inductive Verdict where
  | faultFound | clean | baselineSet | baselineFault | notApplied
deriving DecidableEq, Repr

/-- The classes of a reflection (R166, R169). -/
inductive ReflectionClass where
  | coupler | farEnd | beyond | fault | launch | extra
deriving DecidableEq, Repr

/-- A reported reflection (R170). `cls` is none where R169 gives it no class (a BASELINE_FAULT). `record` is the id its
submission gave, for FAULT, or none when dropped. -/
structure Reflection where
  index : Nat
  polarity : Polarity
  mean : Int
  cls : Option ReflectionClass
  distance : Option Nat
  record : Option Nat
deriving DecidableEq, Repr

/-- The result record of a port (R170). In state NONE every other field is absent (R171). -/
structure SweepResult where
  state : SweepState := .none
  entry : Option SweepEntry := none
  startAt : Option Time := none
  endAt : Option Time := none
  calibration : Option Nat := none
  gathered : Option Nat := none
  restarts : Option Nat := none
  suspensions : Option Nat := none
  used : Option Nat := none
  required : Option Nat := none
  verdict : Option Verdict := none
  reflections : List Reflection := []
  more : Option Nat := none
  /-- the nearest FAULT distance and its record id, or none when dropped -/
  location : Option (Nat × Option Nat) := none
deriving DecidableEq, Repr

/-- The sweep in progress (R158): its port, its copy of the cable record, the samples gathered (latest first) and its
timers. The stage and the counts stand in the port's result record. -/
structure Sweep where
  entry : SweepEntry
  cable : CableRecord
  samples : List (List Int)
  calibrationEndAt : Option Time
  deadlineAt : Time
  analysisEndAt : Option Time
deriving DecidableEq, Repr

/-- The acquisition under way (R160): its port, its end, and whether it will be gathered. -/
structure Acquisition where
  port : Port
  endAt : Time
  live : Bool
deriving DecidableEq, Repr

/-- What the REFLECTION SWEEP ENGINE holds (chapter 8); the cable records stand in the settings. -/
structure SweepEngine where
  queue : List SweepEntry := []
  sweep : Option Sweep := none
  acquisition : Option Acquisition := none
  counter : Nat := 0
  results : Vector SweepResult 8 := Vector.replicate 8 {}
deriving DecidableEq, Repr

/-! ## Chapter 9: the control link and the profile store -/

/-- The statuses of a reply, in the order of their table (section 9.2). -/
inductive Status where
  | ok | accepted | clamped | unknownRequest | badLength | outOfRange | wrongState | noBudget | conflict
  | queueFull | notFound | busy | planOwnsLens
deriving DecidableEq, Repr

/-- A request on the request queue (R175). -/
structure Request where
  kind : Byte
  tag : Byte
  body : List Byte
deriving DecidableEq, Repr

/-- A reply that waits (R177): of the request in service, or on the refusal list. -/
structure Reply where
  refusal : Bool
  kind : Byte
  tag : Byte
  status : Status
  fields : List Byte
deriving DecidableEq, Repr

/-- The events of a PORT_STATE notice (R2). -/
inductive PortEvent where
  | state | attached | detached
deriving DecidableEq, Repr

/-- The causes of a trip (R11). -/
inductive TripCause where
  | threshold | hardLimit
deriving DecidableEq, Repr

/-- The events of a SUPPLY notice (R25 to R27). -/
inductive SupplyEvent where
  | low | fullShed | recovered
deriving DecidableEq, Repr

/-- The causes of a LANE_STATE notice (R36). -/
inductive LaneCause where
  | portOn | locked | lockLost | trainFailed | retrainSlow | portOff
deriving DecidableEq, Repr

/-- The causes of a PLAN_STATE notice (R59). -/
inductive PlanCause where
  | load | arm | stop | stopped | abort | clear | reset
deriving DecidableEq, Repr

/-- The events of a LENS_STATE notice (R133). -/
inductive LensEvent where
  | done | superseded | cancelled | halted | stalled | rejected | failed | fault | portOff
deriving DecidableEq, Repr

/-- The messages of a camera head (section 6.4). -/
inductive HeadMessage where
  | limit (axis : Byte) | overheat
deriving DecidableEq, Repr

/-- The causes of an UPLINK_STATE notice (R111). -/
inductive UplinkCause where
  | handshake | silence | restart
deriving DecidableEq, Repr

/-- The item a link down stopped (R111): for a frame, whether it is HELD (true) or FREED. -/
structure StoppedItem where
  kind : ItemKind
  frame : Nat
  sent : Nat
  held : Option Bool
deriving DecidableEq, Repr

/-- The events of a BREAK notice that carry a record (R149). -/
inductive BreakEvent where
  | created | confirmed | located | cleared
deriving DecidableEq, Repr

/-- The events of a PROFILE notice (R181, R183). -/
inductive ProfileEvent where
  | saved | failed | defaults
deriving DecidableEq, Repr

/-- The origin of the working settings (R182, R183). -/
inductive Origin where
  | profile | defaults
deriving DecidableEq, Repr

/-- The image states (R180). -/
inductive ImageState where
  | valid | invalid | writing
deriving DecidableEq, Repr

/-- The notices of the part, with the body of each kind (section 9.3). -/
inductive NoticeBody where
  | ready (origin : Origin) (image : ImageState)
  | portState (event : PortEvent) (new prev : PowerState) (reason : OffReason)
  | portTrip (cause : TripCause) (current threshold count : Nat) (new : PowerState)
  | overdraw (average base : Nat)
  | supply (event : SupplyEvent) (millivolts : Nat) (ports : List Port)
  | laneState (new prev : LaneState) (cause : LaneCause) (failedRun : Nat)
  | planState (new prev : PlanState) (cause : PlanCause) (cycleCounter strobe : Nat)
  | triggerOverrun (source : StartSource) (arrival : Time) (cycle : Option Nat) (held : Bool) (overruns : Nat)
  | frameDropped (slot : Fin 4) (cycle position : Nat) (member : Bool) (drops : Nat)
  | ambient (slot : Fin 4) (cycle mean threshold : Nat) (limit : AmbientLimit)
  | lensState (event : LensEvent) (new : LensState) (position : Axes) (move : Option Move) (fault : Option LensFault)
  | headEvent (message : HeadMessage) (new : LensState)
  | uplinkState (up : Bool) (cause : UplinkCause) (credits : Nat) (stopped : Option StoppedItem)
  | sweepDone (number : Nat) (kind : SweepKind) (outcome : SweepState) (verdict : Option Verdict) (used : Option Nat)
      (reflections : List Reflection) (location : Option (Nat × Option Nat)) (more : Option Nat)
  | breakRecord (event : BreakEvent) (record : BreakRecord) (replaced : Option Nat)
  | breakTableFull (kind : BreakKind) (state : BreakState) (location : Option Nat) (unrecorded : Nat)
  | profile (event : ProfileEvent) (snapshot : Time) (image : ImageState)
deriving DecidableEq, Repr

/-- A notice on the notice queue (R176): its port, or none for 255, and the cell clock time of its posting. -/
structure Notice where
  port : Option Port
  time : Time
  body : NoticeBody
deriving DecidableEq, Repr

/-- The frame being sent on CL_TX (R177): which it is, and its bytes as they stand on the line. -/
inductive TxKind where
  /-- the reply of the request in service, and whether it is that of a CELL_RESET taken (R179) -/
  | reply (reset : Bool)
  /-- a BUSY reply of the refusal list -/
  | refusal
  | notice
deriving DecidableEq, Repr

structure TxFrame where
  kind : TxKind
  wire : List Byte
deriving DecidableEq, Repr

/-- The states of the receive framer (R172): no delimiter seen since reset, gathering a frame, or discarding to the next
delimiter. -/
inductive Framer where
  | waiting | gathering | discarding
deriving DecidableEq, Repr

/-- The counts of LINK_STATUS (R178). -/
structure LinkCounts where
  wellFormed : Nat := 0
  framing : Nat := 0
  escape : Nat := 0
  length : Nat := 0
  short : Nat := 0
  check : Nat := 0
  unknown : Nat := 0
  badLength : Nat := 0
  served : Nat := 0
  busy : Nat := 0
  unanswered : Nat := 0
  repliesSent : Nat := 0
  noticesSent : Nat := 0
  noticesLost : Nat := 0
deriving DecidableEq, Repr

/-- What the CONTROL LINK UNIT holds (chapter 9). `requests` has the request in service at its head; `answered` tells
that its owner has given its reply. `replies` holds the replies that wait, in the order they became ready: those marked
`refusal` are the refusal list. -/
structure Link where
  framer : Framer := .waiting
  requests : List Request := []
  answered : Bool := false
  replies : List Reply := []
  notices : List Notice := []
  lost : Nat := 0
  sending : Option TxFrame := none
  counts : LinkCounts := {}
deriving DecidableEq, Repr

/-- A profile write under way (R181). -/
structure ProfileWrite where
  snapshot : Settings
  snapshotAt : Time
  endAt : Time
deriving DecidableEq, Repr

/-- What the PROFILE STORE holds (section 9.5): the image while its CRC-32 matches, else none; the write under way; and
the settings origin. -/
structure ProfileStore where
  image : Option Settings := none
  write : Option ProfileWrite := none
  origin : Origin := .defaults
deriving DecidableEq, Repr

/-! ## The machine -/

/-- The state of the part. -/
structure State where
  /-- the cell clock (00_scope.md, Terms) -/
  clock : Time
  settings : Settings
  power : Vector PortPower 8
  supply : Supply
  lanes : Vector Lane 8
  seq : Sequencer
  store : Store
  /-- the frame DRAM: the bytes that are not 0, by rising address -/
  dram : List Host.Cell
  uplink : Uplink
  lenses : Vector Lens 8
  monitor : Monitor
  table : BreakTable
  sweeps : SweepEngine
  link : Link
  profile : ProfileStore
  /-- the model's own: how many free values have been used (notes/assumptions/2.md) -/
  freeCount : Nat
  /-- the model's own: the commands that wait, first in first out -/
  pending : List Instr
deriving DecidableEq, Repr

/-- No rule of the spec stops the machine, so no step of the model faults: the type is empty. -/
inductive Fault where
deriving DecidableEq, Repr

/-- The refusals of the model. -/
inductive Refusal where
  /-- The arm of exec for this mnemonic has no meaning yet. Raised by exec alone. Safe: the model stops where the
  hardware goes on. -/
  | notModelled (mnemonic : String)
deriving DecidableEq, Repr

/-- The part at its reset values (R29, R49, R76, R97, R113, R134, R152, R171, R184), with a profile image that was never
written and so the factory defaults as its settings (R183 step 1). -/
def State.reset : State where
  clock := 0
  settings := {}
  power := Vector.replicate 8 {}
  supply := {}
  lanes := Vector.replicate 8 {}
  seq := {}
  store := {}
  dram := []
  uplink := {}
  lenses := Vector.replicate 8 {}
  monitor := {}
  table := {}
  sweeps := {}
  link := {}
  profile := {}
  freeCount := 0
  pending := []

end Sys2Proof.Machine
end

