-- ==== Sys2Proof/Machine/Codec.lean ====
section
/-!
DEFINITION. Bytes, checks and field encodings: the CRCs of the links, the escapes of the control link, and the one
scheme by which named fields become bytes (R174).
-/

namespace Sys2Proof.Machine

/-! ## Multi-byte values, most significant byte first (sections 2.3, 5.2, R174) -/

/-- The low `k` bytes of `n`, most significant first. -/
def numBytes : Nat → Nat → List Byte
  | 0, _ => []
  | k + 1, n => numBytes k (n / 256) ++ [BitVec.ofNat 8 n]

/-- The number that bytes spell, most significant first. -/
def bytesNum (bs : List Byte) : Nat := bs.foldl (fun n b => n * 256 + b.toNat) 0

/-- A number carried in 1, 2, 4 or 8 bytes. -/
def num1 (n : Nat) : List Byte := numBytes 1 n
def num2 (n : Nat) : List Byte := numBytes 2 n
def num4 (n : Nat) : List Byte := numBytes 4 n
def num8 (n : Nat) : List Byte := numBytes 8 n

/-- A yes-or-no or set-or-clear field (R174). -/
def flagByte (b : Bool) : List Byte := if b then [1] else [0]

/-- An optional field whose bytes are `enc` of its value and take `size` bytes (R174). -/
def optField {α : Type} (size : Nat) (enc : α → List Byte) : Option α → List Byte
  | none => 0 :: List.replicate size 0
  | some a => 1 :: enc a

/-- An optional number of `size` bytes. -/
def optNum (size : Nat) (o : Option Nat) : List Byte := optField size (numBytes size) o

/-- A list that carries its own number of entries (R174), as every list does whose number no earlier field of the body gives
(notes/assumptions/38.md). -/
def listField {α : Type} (enc : α → List Byte) (l : List α) : List Byte := num1 l.length ++ (l.map enc).flatten

/-- A set of ports as a bit mask, bit n for port n (R174). -/
def portMask (ports : List Port) : List Byte :=
  [ports.foldl (fun m p => m ||| (1#8 <<< p.val)) 0]

/-- A set of segments as a bit mask in 2 bytes, bit n for segment n (R174). -/
def segmentMask (segs : List (Fin 16)) : List Byte :=
  num2 (segs.foldl (fun (m : BitVec 16) g => m ||| (1#16 <<< g.val)) 0).toNat

/-- The ports that a mask byte marks. -/
def maskPorts (m : Byte) : Vector Bool 8 := Vector.ofFn (fun p => m.getLsbD p.val)

/-- A segment or NONE: NONE is the value whose bits are all 1 (R174). -/
def segmentByte (g : Segment) : List Byte :=
  match g with
  | none => [0xFF]
  | some n => num1 n.val

/-- The flags field: the bits of the flags table of section 5.2. -/
def flagsNum (f : FrameFlags) : Nat :=
  (if f.truncated then 1 else 0) + (if f.lineErrors then 2 else 0) + (if f.lensUnsettled then 4 else 0) +
  (if f.lensMoving then 8 else 0) + (if f.triggerDelayed then 16 else 0) + (if f.ambientHigh then 32 else 0) +
  (if f.uncombined then 64 else 0) + (if f.combined then 128 else 0) + (if f.aborted then 256 else 0) +
  (if f.cableSuspect then 512 else 0) + (if f.notHeld then 1024 else 0)

/-! ## Checks -/

/-- `k` shifts of a 16-bit CRC with polynomial 0x1021, most significant bit first. -/
def crc16Shift : Nat → BitVec 16 → BitVec 16
  | 0, c => c
  | k + 1, c => crc16Shift k (if c.msb then (c <<< 1) ^^^ 0x1021#16 else c <<< 1)

/-- The CRC-16 of the links: polynomial 0x1021, initial value 0xFFFF, no final inversion (sections 2.3, 5.2, 9.1). -/
def crc16 (bs : List Byte) : BitVec 16 :=
  bs.foldl (fun (c : BitVec 16) (b : Byte) => crc16Shift 8 (c ^^^ (BitVec.setWidth 16 b <<< (8 : Nat)))) 0xFFFF#16

/-- Bytes followed by their CRC-16. -/
def withCrc16 (bs : List Byte) : List Byte := bs ++ num2 (crc16 bs).toNat

/-- `k` shifts of a CRC-32 with polynomial 0x04C11DB7, least significant bit first. -/
def crc32Shift : Nat → BitVec 32 → BitVec 32
  | 0, c => c
  | k + 1, c => crc32Shift k (if c.getLsbD 0 then (c >>> 1) ^^^ 0xEDB88320#32 else c >>> 1)

/-- The register of a CRC-32 before any byte. -/
def crc32Init : BitVec 32 := 0xFFFFFFFF#32

/-- The register after more bytes. -/
def crc32Feed (c : BitVec 32) (bs : List Byte) : BitVec 32 :=
  bs.foldl (fun (c : BitVec 32) (b : Byte) => crc32Shift 8 (c ^^^ BitVec.setWidth 32 b)) c

/-- The CRC-32 that a register gives: the final inversion of all 32 bits (sections 2.3, 5.2). -/
def crc32Final (c : BitVec 32) : BitVec 32 := ~~~c

/-- The CRC-32 of a LINE's pixel bytes (section 2.3). -/
def crc32 (bs : List Byte) : BitVec 32 := crc32Final (crc32Feed crc32Init bs)

/-- The byte that makes a sideband message sum to 0 modulo 256 (section 6.4). -/
def sumCheck (bs : List Byte) : Byte := -(bs.foldl (· + ·) 0)

/-- Whether a sideband message sums to 0 modulo 256. -/
def sumsToZero (bs : List Byte) : Bool := bs.foldl (· + ·) (0 : Byte) == 0

/-! ## The control link frame (section 9.1) -/

/-- Content bytes with 0xF5 and 0xF4 escaped. -/
def escapeBytes : List Byte → List Byte
  | [] => []
  | b :: bs => if b = 0xF5 ∨ b = 0xF4 then 0xF4 :: (b ^^^ 0x40) :: escapeBytes bs else b :: escapeBytes bs

/-- A frame as it stands on the line: delimiter, escaped content with its check, delimiter. -/
def wireFrame (kind tag : Byte) (body : List Byte) : List Byte :=
  0xF5 :: escapeBytes (withCrc16 ([kind, tag] ++ num2 body.length ++ body)) ++ [0xF5]

/-- The content of the bytes between two delimiters, its escapes undone; none where an escape byte is followed by a byte
other than 0xB4 or 0xB5, or by the delimiter (R172, ESCAPE). -/
def unescape : List Byte → Option (List Byte)
  | [] => some []
  | [b] => if b = 0xF4 then none else some [b]
  | b :: c :: rest =>
    if b = 0xF4 then
      if c = 0xB4 ∨ c = 0xB5 then (unescape rest).map ((c ^^^ 0x40) :: ·) else none
    else (unescape (c :: rest)).map (b :: ·)

/-- The number of content bytes gathered between two delimiters, an escape byte and the byte after it counting once. -/
def gatheredCount : List Byte → Nat
  | [] => 0
  | [b] => if b = 0xF4 then 0 else 1
  | b :: c :: rest => if b = 0xF4 then 1 + gatheredCount rest else 1 + gatheredCount (c :: rest)

/-- How the framer judges a frame at its closing delimiter (R172). -/
inductive Judgement where
  | idleFill | framing | escape | length | short | check
  | wellFormed (r : Request)
deriving DecidableEq, Repr

/-- The judgement of a content whose escapes are undone: the causes LENGTH, SHORT and CHECK, in their order. -/
def judgeContent (content : List Byte) : Judgement :=
  match content with
  | kind :: tag :: lenHigh :: lenLow :: rest =>
    let len := bytesNum [lenHigh, lenLow]
    if 1024 < len then .length
    else if rest.length ≠ len + 2 then .short
    else if withCrc16 ([kind, tag, lenHigh, lenLow] ++ rest.take len) ≠ content then .check
    else .wellFormed ⟨kind, tag, rest.take len⟩
  | _ => .short

/-- The judgement of the bytes between two delimiters (R172): the first cause that applies. A content that passes 1,030
bytes is judged LENGTH as it passes that size, before any cause that the rest of the frame could give. -/
def judge (bytes : List LineByte) : Judgement :=
  if bytes = [] then .idleFill
  else if 1030 < gatheredCount (bytes.map (·.value)) then .length
  else if bytes.any (fun b => !b.stopHigh) then .framing
  else match unescape (bytes.map (·.value)) with
    | none => .escape
    | some content => judgeContent content

end Sys2Proof.Machine
end

