-- ==== Sys2Proof/Machine/Operands.lean ====
section
/-!
DEFINITION. The operands of the requests: the fields that a request's body carries (R174), each read at its offset, and
the range checks of the rules that own them. A decoder answers none where a field lies outside its range
(OUT_OF_RANGE).
-/

namespace Sys2Proof.Machine

/-- The number of `size` bytes at an offset of a body. -/
def numAt (b : List Byte) (offset size : Nat) : Nat := bytesNum ((b.drop offset).take size)

/-- Whether a number lies in a range, both ends included (00_scope.md, Numbers). -/
def inRange (low high n : Nat) : Bool := low ≤ n && n ≤ high

/-- Whether the byte at an offset is a yes-or-no: 0 or 1 (R174). -/
def flagOkAt (b : List Byte) (offset : Nat) : Bool := numAt b offset 1 ≤ 1

/-- The yes-or-no at an offset. -/
def flagAt (b : List Byte) (offset : Nat) : Bool := numAt b offset 1 = 1

/-- The optional number of `size` bytes whose presence byte stands at an offset (R174). DESIGN CHOICE: with a presence byte of
0 the bytes are not read (R51, R116, notes/assumptions/95.md). -/
def optAt (b : List Byte) (offset size : Nat) : Option Nat :=
  if flagAt b offset then some (numAt b (offset + 1) size) else none

/-- Whether an optional number, where present, lies in a range. -/
def optInRange (low high : Nat) : Option Nat → Bool
  | none => true
  | some n => inRange low high n

/-- The port that a byte names, when it is 0 to 7. -/
def portAt (b : List Byte) (offset : Nat) : Option Port :=
  let n := numAt b offset 1
  if h : n < 8 then some ⟨n, h⟩ else none

/-- The number below `k` at an offset, as an index. -/
def finAt (b : List Byte) (offset : Nat) (k : Nat) : Option (Fin k) :=
  let n := numAt b offset 1
  if h : n < k then some ⟨n, h⟩ else none

/-! ## Choices among named values -/

def ambientLimitOf : Nat → AmbientLimit
  | 0 => .off | 1 => .one | 2 => .eight | _ => .thirtyTwo

def lensKindOf : Nat → LensKind
  | 0 => .none | 1 => .focus | 2 => .focusIris | _ => .focusIrisZoom

def signalFunctionOf : Nat → SignalFunction
  | 0 => .low | 1 => .cycleActive | 2 => .exposing | 3 => .breakConfirmed | _ => .supplyLow

def signOf : Nat → Sign
  | 0 => .plus | 1 => .minus | _ => .none

def regionModeOf : Nat → RegionMode
  | 0 => .linear | 1 => .group16 | _ => .group64

def quorumOf : Nat → Quorum
  | 0 => .quarter | 1 => .half | _ => .all

/-! ## PORT_CONFIG (R3) -/

/-- Whether every profile field of a PORT_CONFIG body lies in its range (sections 1.2, 2.2, 3.7, 6.1; R3 check 1). -/
def portConfigInRange (b : List Byte) : Bool :=
  inRange 0 3000 (numAt b 1 2) &&
  inRange 100 4000 (numAt b 3 2) && numAt b 1 2 ≤ numAt b 3 2 &&
  inRange 5 500 (numAt b 5 2) &&
  inRange 0 3 (numAt b 7 1) && flagOkAt b 8 && flagOkAt b 9 &&
  inRange 250 2000 (numAt b 10 2) && numAt b 10 2 % 250 = 0 &&
  inRange 0 1500 (numAt b 12 2) && inRange 0 3000 (numAt b 14 2) &&
  inRange 16 4096 (numAt b 16 2) && numAt b 16 2 % 16 = 0 &&
  inRange 1 2048 (numAt b 18 2) &&
  (numAt b 20 1 = 8 || numAt b 20 1 = 10 || numAt b 20 1 = 12) &&
  inRange 100 200000 (numAt b 21 4) &&
  inRange 0 4095 (numAt b 25 2) && inRange 0 3 (numAt b 27 1) &&
  inRange 0 3 (numAt b 28 1) && inRange 1 64 (numAt b 29 1) && inRange 1 16 (numAt b 30 1) &&
  inRange 1 64 (numAt b 31 1) && flagOkAt b 32 &&
  (numAt b 33 2 = 100 || numAt b 33 2 = 400) && flagOkAt b 35

/-- The port profile that a PORT_CONFIG body carries, its configured mark set (R54). -/
def portConfigProfile (b : List Byte) : PortProfile where
  baseReservation := numAt b 1 2
  overcurrent := numAt b 3 2
  underload := numAt b 5 2
  priority := numAt b 7 1
  autoPower := flagAt b 8
  probeEnable := flagAt b 9
  probePeriod := numAt b 10 2
  lensSurge := numAt b 12 2
  strobePeak := numAt b 14 2
  width := numAt b 16 2
  height := numAt b 18 2
  depth := numAt b 20 1
  readout := numAt b 21 4
  ambientThreshold := numAt b 25 2
  ambientLimit := ambientLimitOf (numAt b 27 1)
  lensKind := lensKindOf (numAt b 28 1)
  focusSpeed := numAt b 29 1
  irisSpeed := numAt b 30 1
  zoomSpeed := numAt b 31 1
  autoHome := flagAt b 32
  sidebandClock := numAt b 33 2
  autoSweep := flagAt b 35
  configured := true

/-- The body length of PORT_CONFIG (R174): the sum of its fields' sizes. -/
def portConfigSize : Nat := 36

/-! ## PLAN_LOAD (R51, section 3.2) -/

/-- The size of one slot of a PLAN_LOAD body with pattern length `l`. -/
def slotSize (l : Nat) : Nat := 21 + 2 * l

/-- The offset of slot `k` of a PLAN_LOAD body: the slot count and L, the cycle mode, the optional period and edge, and
the slots before it. DESIGN CHOICE: L stands at the head alone, and not again among the fields of section 3.2 (R51, R174,
notes/assumptions/79.md). -/
def slotOffset (l k : Nat) : Nat := 10 + k * slotSize l

/-- Whether a PLAN_LOAD body has the length that its slot count and L imply. -/
def planLengthOk (b : List Byte) : Bool :=
  2 ≤ b.length && b.length = slotOffset (numAt b 1 1) (numAt b 0 1)

/-- Whether the fields of the slot at an offset lie in their ranges, and it marks a port (R51 check 1). -/
def slotInRange (b : List Byte) (l o : Nat) : Bool :=
  numAt b o 1 ≠ 0 &&
  inRange 0 1000000 (numAt b (o + 1) 4) && inRange 10 100000 (numAt b (o + 5) 4) &&
  inRange 0 16 (numAt b (o + 9) 1) && inRange 0 100000 (numAt b (o + 10) 4) &&
  inRange 2 1000 (numAt b (o + 14) 2) &&
  inRange (numAt b (o + 14) 2 + 2) 10000 (numAt b (o + 16) 2) &&
  (List.range l).all (fun i => numAt b (o + 18 + i) 1 ≤ 1) &&
  (List.range l).all (fun i => numAt b (o + 18 + l + i) 1 ≤ 2) &&
  flagOkAt b (o + 18 + 2 * l) && optInRange 0 7 (optAt b (o + 18 + 2 * l) 1) &&
  flagOkAt b (o + 20 + 2 * l)

/-- The slot that stands at an offset; its strobe count used is the one asked until R53 fixes it. -/
def slotAt (b : List Byte) (l o : Nat) : Slot where
  ports := maskPorts (BitVec.ofNat 8 (numAt b o 1))
  offset := numAt b (o + 1) 4
  exposure := numAt b (o + 5) 4
  pulses := numAt b (o + 9) 1
  firstPulse := numAt b (o + 10) 4
  pulseWidth := numAt b (o + 14) 2
  pulsePeriod := numAt b (o + 16) 2
  fire := (List.range l).map (fun i => numAt b (o + 18 + i) 1 = 0)
  signs := (List.range l).map (fun i => signOf (numAt b (o + 18 + l + i) 1))
  preset := (optAt b (o + 18 + 2 * l) 1).bind (fun n => if h : n < 8 then some ⟨n, h⟩ else none)
  hold := flagAt b (o + 20 + 2 * l)
  used := numAt b (o + 9) 1

/-- Whether the plan fields lie in their ranges: the period present exactly in FREE_RUN and the edge exactly in
LINE_TRIGGER (section 3.2). -/
def planHeaderInRange (b : List Byte) : Bool :=
  inRange 1 4 (numAt b 0 1) && inRange 1 8 (numAt b 1 1) && inRange 0 1 (numAt b 2 1) &&
  flagOkAt b 3 && flagOkAt b 8 &&
  (if numAt b 2 1 = 0 then flagAt b 3 && inRange 1000 1000000 (numAt b 4 4) && !flagAt b 8
   else !flagAt b 3 && flagAt b 8 && inRange 0 1 (numAt b 9 1))

/-- The first slot of a PLAN_LOAD body whose fields do not lie in their ranges. -/
def badSlot (b : List Byte) : Option Nat :=
  (List.range (numAt b 0 1)).find? (fun k => !slotInRange b (numAt b 1 1) (slotOffset (numAt b 1 1) k))

/-- The plan record that a PLAN_LOAD body carries. -/
def planOf (b : List Byte) : Plan where
  mode := if numAt b 2 1 = 0 then .freeRun else .lineTrigger
  period := optAt b 3 4
  edge := (optAt b 8 1).map (fun n => if n = 0 then .rising else .falling)
  length := numAt b 1 1
  slots := (List.range (numAt b 0 1)).map (fun k => slotAt b (numAt b 1 1) (slotOffset (numAt b 1 1) k))

/-! ## Lens requests (R116, R117) -/

/-- The three optional targets at an offset: focus in 1 + 2 bytes, iris in 1 + 1, zoom in 1 + 2. -/
def axesAt (b : List Byte) (o : Nat) : Axes := ⟨optAt b o 2, optAt b (o + 3) 1, optAt b (o + 5) 2⟩

/-- Whether the presence bytes of three optional targets at an offset are each 0 or 1. -/
def axesOkAt (b : List Byte) (o : Nat) : Bool := flagOkAt b o && flagOkAt b (o + 3) && flagOkAt b (o + 5)

/-- The preset entry of a LENS_PRESET_SET body, none where a field lies outside its range (R116). -/
def presetOf (b : List Byte) : Option PresetEntry :=
  if numAt b 2 2 ≤ 4095 && flagOkAt b 4 && optInRange 0 255 (optAt b 4 1) && flagOkAt b 6 &&
      optInRange 0 4095 (optAt b 6 2) && numAt b 9 2 ≤ 500
  then some ⟨numAt b 2 2, optAt b 4 1, optAt b 6 2, numAt b 9 2⟩
  else none

/-! ## Sweep requests and cable records (R154, R155) -/

/-- The cable record of a CABLE_SET body, its set mark set, none where a field lies outside its range (R154 check 1). A
coupler index at or below the launch index of the same request lies outside its range. -/
def cableOf (b : List Byte) : Option CableRecord :=
  let n := numAt b 6 1
  let couplers := (List.range n).map (fun i => numAt b (7 + 2 * i) 2)
  let launch := numAt b 5 1
  if inRange 50 6000 (numAt b 1 2) && inRange 500 900 (numAt b 3 2) && n ≤ 4 &&
      couplers.all (fun c => inRange 1 16383 c && launch < c) && inRange 16 1024 (numAt b (7 + 2 * n) 2)
  then some ⟨true, some (numAt b 1 2), numAt b 3 2, some launch, couplers, numAt b (7 + 2 * n) 2⟩
  else none

/-- Whether a CABLE_SET body has the length that its coupler count implies (notes/assumptions/11.md). -/
def cableLengthOk (b : List Byte) : Bool := 9 ≤ b.length && b.length = 9 + 2 * numAt b 6 1

/-- The sweep request of a SWEEP_REQUEST body, with the number 0 until one is given, none where a field lies outside its
values (R155 check 1). A request that omits the deadline takes 10 s. -/
def sweepOf (b : List Byte) : Option SweepEntry :=
  match portAt b 0 with
  | none => none
  | some p =>
    let k := numAt b 2 1
    if numAt b 1 1 ≤ 1 && (k = 4 || k = 16 || k = 64) && numAt b 3 1 ≤ 2 && flagOkAt b 4 &&
        optInRange 0 15 (optAt b 4 1) && flagOkAt b 6 && optInRange 1 60 (optAt b 6 1)
    then some {
      port := p
      kind := if numAt b 1 1 = 0 then .fault else .baseline
      acquisitions := k
      quorum := quorumOf (numAt b 3 1)
      segment := (optAt b 4 1).bind (fun n => if h : n < 16 then some ⟨n, h⟩ else none)
      deadline := (optAt b 6 1).getD 10
      number := 0
      source := .host }
    else none

end Sys2Proof.Machine
end

