-- ==== Sys2Proof/Machine/Memory.lean ====
section
/-!
DEFINITION. The frame DRAM: 1 GiB of bytes, of which the 48 buffers of 16 MiB occupy the first 768 MiB (chapter 4). It
is held as its bytes that are not 0, by strictly rising address: an unlisted address reads as 0 (notes/assumptions/3.md).
-/

namespace Sys2Proof.Machine

/-- The byte at an address. -/
def Memory.read : List Host.Cell → Nat → Byte
  | [], _ => 0
  | (b, x) :: rest, a => if a = b then x else if a < b then 0 else Memory.read rest a

/-- The memory with one byte written. Writing 0, what an unlisted address reads as, takes the entry out. -/
def Memory.write : List Host.Cell → Nat → Byte → List Host.Cell
  | [], a, v => if v = 0 then [] else [(a, v)]
  | (b, x) :: rest, a, v =>
    if a < b then (if v = 0 then (b, x) :: rest else (a, v) :: (b, x) :: rest)
    else if a = b then (if v = 0 then rest else (a, v) :: rest)
    else (b, x) :: Memory.write rest a v

/-- Whether every entry lies at or above `low`, the addresses rise strictly, no entry is 0, and every address lies within
the 1 GiB of the frame DRAM. -/
def Memory.wfFrom : Nat → List Host.Cell → Bool
  | _, [] => true
  | low, (b, x) :: rest => low ≤ b && b < 1073741824 && x != 0 && Memory.wfFrom (b + 1) rest

/-- The canonical form of the frame DRAM. -/
def Memory.wf (m : List Host.Cell) : Bool := Memory.wfFrom 0 m

/-- The address of byte `offset` of a buffer: buffer n occupies the 16 MiB that begin at n × 16 MiB (chapter 4). -/
def bufferAddr (buffer : Fin 48) (offset : Nat) : Nat := buffer.val * 16777216 + offset % 16777216

/-- The memory with bytes written from `offset` of a buffer on. -/
def Memory.writeBytes (m : List Host.Cell) (buffer : Fin 48) : Nat → List Byte → List Host.Cell
  | _, [] => m
  | offset, b :: bs => Memory.writeBytes (Memory.write m (bufferAddr buffer offset) b) buffer (offset + 1) bs

/-- `n` bytes of a buffer from `offset` on. -/
def Memory.readBytes (m : List Host.Cell) (buffer : Fin 48) : Nat → Nat → List Byte
  | _, 0 => []
  | offset, n + 1 => Memory.read m (bufferAddr buffer offset) :: Memory.readBytes m buffer (offset + 1) n

/-- A pixel as it is stored: 16 bits, whatever the depth (00_scope.md, Pixels), most significant byte at the lower
address (notes/assumptions/4.md). -/
def pixelBytes (v : Nat) : List Byte := [BitVec.ofNat 8 (v / 256), BitVec.ofNat 8 v]

/-- The full scale of a depth (00_scope.md, Pixels). -/
def fullScale (depth : Nat) : Nat := 2 ^ depth - 1

/-- The bytes of line `k` of a frame: they lie at k × width × 2 bytes from the start of its buffer (chapter 4). -/
def Memory.readLine (m : List Host.Cell) (buffer : Fin 48) (width k : Nat) : List Byte :=
  Memory.readBytes m buffer (k * width * 2) (width * 2)

/-- The memory with line `k` of a frame stored. -/
def Memory.writeLine (m : List Host.Cell) (buffer : Fin 48) (width k : Nat) (pixels : List Nat) : List Host.Cell :=
  Memory.writeBytes m buffer (k * width * 2) ((pixels.map pixelBytes).flatten)

/-- The memory with the lines of `lines` filled with pixel value 0 (R43). -/
def Memory.fillLines (m : List Host.Cell) (buffer : Fin 48) (width : Nat) : List Nat → List Host.Cell
  | [] => m
  | k :: ks => Memory.fillLines (Memory.writeLine m buffer width k (List.replicate width 0)) buffer width ks

/-- The pixel at place `i` of a buffer, in line order. -/
def Memory.readPixel (m : List Host.Cell) (buffer : Fin 48) (i : Nat) : Nat :=
  (Memory.read m (bufferAddr buffer (2 * i))).toNat * 256 + (Memory.read m (bufferAddr buffer (2 * i + 1))).toNat

/-- A combined pixel: the sum of the members' pixels with their signs, in full precision, clamped once to 0 and the full
scale (R89). -/
def combinePixel (depth : Nat) (members : List (Sign × Nat)) : Nat :=
  let sum : Int := members.foldl (fun t m =>
    match m.1 with
    | .plus => t + (m.2 : Int)
    | .minus => t - (m.2 : Int)
    | .none => t) 0
  min sum.toNat (fullScale depth)

/-- The memory with the first `n` pixels of `target` holding the combination of the members' pixels (R89, R90). -/
def Memory.combine (target : Fin 48) (members : List (Sign × Fin 48)) (depth : Nat) :
    Nat → List Host.Cell → List Host.Cell
  | 0, m => m
  | n + 1, m =>
    let done := Memory.combine target members depth n m
    let pixel := combinePixel depth (members.map (fun b => (b.1, Memory.readPixel m b.2 n)))
    Memory.writeBytes done target (2 * n) (pixelBytes pixel)

end Sys2Proof.Machine
end

