-- ==== Sys2Proof/Machine/Notices.lean ====
section
/-!
DEFINITION. How named values and notices are numbered and carried in bytes (R174): a choice among named values takes one
byte, numbering them from 0 in the order in which the owning rule first lists them.
-/

namespace Sys2Proof.Machine

/-! ## Choices among named values -/

def PowerState.code : PowerState → Nat
  | .off => 0 | .probing => 1 | .waiting => 2 | .ramping => 3 | .on => 4 | .cooldown => 5 | .locked => 6

def OffReason.code : OffReason → Nat
  | .host => 0 | .trip => 1 | .openLoad => 2 | .shed => 3 | .reset => 4 | .lock => 5

def Presence.code : Presence → Nat
  | .unseen => 0 | .present => 1 | .absent => 2

def ClaimKind.code : ClaimKind → Nat
  | .power => 0 | .lens => 1

def SupplyStage.code : SupplyStage → Nat
  | .first => 0 | .full => 1

def RecoveryPolicy.code : RecoveryPolicy → Nat
  | .auto => 0 | .latched => 1

def LaneState.code : LaneState → Nat
  | .down => 0 | .training => 1 | .locked => 2 | .quiet => 3

def RxState.code : RxState → Nat
  | .awaitingStart => 0 | .receiving => 1 | .dropped => 2

def PlanState.code : PlanState → Nat
  | .empty => 0 | .loaded => 1 | .armed => 2 | .running => 3 | .stopping => 4

def CycleMode.code : CycleMode → Nat
  | .freeRun => 0 | .lineTrigger => 1

def edgeCode : Edge → Nat
  | .rising => 0 | .falling => 1

def Sign.code : Sign → Nat
  | .plus => 0 | .minus => 1 | .none => 2

def StartSource.code : StartSource → Nat
  | .timer => 0 | .line => 1 | .fire => 2

def SignalFunction.code : SignalFunction → Nat
  | .low => 0 | .cycleActive => 1 | .exposing => 2 | .breakConfirmed => 3 | .supplyLow => 4

def AmbientLimit.code : AmbientLimit → Nat
  | .off => 0 | .one => 1 | .eight => 2 | .thirtyTwo => 3

def BufferState.code : BufferState → Nat
  | .free => 0 | .filling => 1 | .grouped => 2 | .combining => 3 | .queued => 4 | .sending => 5 | .held => 6

def RegionMode.code : RegionMode → Nat
  | .linear => 0 | .group16 => 1 | .group64 => 2

def LensKind.code : LensKind → Nat
  | .none => 0 | .focus => 1 | .focusIris => 2 | .focusIrisZoom => 3

def LensState.code : LensState → Nat
  | .absent => 0 | .unknown => 1 | .homing => 2 | .idle => 3 | .moving => 4 | .stalled => 5 | .fault => 6

def MoveKind.code : MoveKind → Nat
  | .seek => 0 | .home => 1

def MoveOrigin.code : MoveOrigin → Nat
  | .host => 0 | .plan => 1

def StartStage.code : StartStage → Nat
  | .none => 0 | .windowWait => 1 | .claimWait => 2

def LensClaim.code : LensClaim → Nat
  | .none => 0 | .standing => 1 | .granted => 2

def LensFault.code : LensFault → Nat
  | .noAnswer => 0 | .rejected => 1 | .busTimeout => 2 | .arbLimit => 3 | .stall => 4 | .limit => 5 | .overheat => 6

def BusState.code : BusState → Nat
  | .off => 0 | .free => 1 | .hub => 2 | .head => 3 | .recovery => 4

def BreakKind.code : BreakKind → Nat
  | .dataErrors => 0 | .powerOpen => 1 | .powerShort => 2 | .lensSilent => 3 | .reflection => 4

def BreakState.code : BreakState → Nat
  | .suspect => 0 | .confirmed => 1 | .cleared => 2

def Polarity.code : Polarity → Nat
  | .open => 0 | .short => 1

def SweepKind.code : SweepKind → Nat
  | .fault => 0 | .baseline => 1

def Quorum.code : Quorum → Nat
  | .quarter => 0 | .half => 1 | .all => 2

def SweepSource.code : SweepSource → Nat
  | .host => 0 | .auto => 1

def SweepState.code : SweepState → Nat
  | .none => 0 | .calibrating => 1 | .acquiring => 2 | .suspended => 3 | .analysing => 4
  | .done => 5 | .partly => 6 | .timedOut => 7 | .calFault => 8 | .cancelled => 9

def Verdict.code : Verdict → Nat
  | .faultFound => 0 | .clean => 1 | .baselineSet => 2 | .baselineFault => 3 | .notApplied => 4

def ReflectionClass.code : ReflectionClass → Nat
  | .coupler => 0 | .farEnd => 1 | .beyond => 2 | .fault => 3 | .launch => 4 | .extra => 5

def Status.code : Status → Nat
  | .ok => 0 | .accepted => 1 | .clamped => 2 | .unknownRequest => 3 | .badLength => 4 | .outOfRange => 5
  | .wrongState => 6 | .noBudget => 7 | .conflict => 8 | .queueFull => 9 | .notFound => 10 | .busy => 11
  | .planOwnsLens => 12

def PortEvent.code : PortEvent → Nat
  | .state => 0 | .attached => 1 | .detached => 2

def TripCause.code : TripCause → Nat
  | .threshold => 0 | .hardLimit => 1

def SupplyEvent.code : SupplyEvent → Nat
  | .low => 0 | .fullShed => 1 | .recovered => 2

def LaneCause.code : LaneCause → Nat
  | .portOn => 0 | .locked => 1 | .lockLost => 2 | .trainFailed => 3 | .retrainSlow => 4 | .portOff => 5

def PlanCause.code : PlanCause → Nat
  | .load => 0 | .arm => 1 | .stop => 2 | .stopped => 3 | .abort => 4 | .clear => 5 | .reset => 6

def LensEvent.code : LensEvent → Nat
  | .done => 0 | .superseded => 1 | .cancelled => 2 | .halted => 3 | .stalled => 4 | .rejected => 5 | .failed => 6
  | .fault => 7 | .portOff => 8

def UplinkCause.code : UplinkCause → Nat
  | .handshake => 0 | .silence => 1 | .restart => 2

def BreakEvent.code : BreakEvent → Nat
  | .created => 0 | .confirmed => 1 | .located => 2 | .cleared => 3

def ProfileEvent.code : ProfileEvent → Nat
  | .saved => 0 | .failed => 1 | .defaults => 2

def Origin.code : Origin → Nat
  | .profile => 0 | .defaults => 1

def ImageState.code : ImageState → Nat
  | .valid => 0 | .invalid => 1 | .writing => 2

/-! ## Records carried whole -/

/-- The three optional positions or targets of a lens: focus, iris, zoom. -/
def axesBytes (a : Axes) : List Byte := optNum 2 a.focus ++ optNum 1 a.iris ++ optNum 2 a.zoom

/-- A move as a LENS_STATE notice names it: its kind, origin and preset index (R133). -/
def moveName (m : Move) : List Byte :=
  num1 m.kind.code ++ num1 m.origin.code ++ optNum 1 (m.preset.map (·.val))

/-- A break record, in the order of its table (section 7.5). -/
def breakRecordBytes (r : BreakRecord) : List Byte :=
  num2 r.id ++ num1 r.port.val ++ num1 r.kind.code ++ num1 r.state.code ++
  optField 2 segmentMask r.mask ++
  optNum 2 (r.reflection.map (·.location)) ++ optNum 1 (r.reflection.map (·.polarity.code)) ++
  optNum 2 (r.reflection.map (·.latest)) ++
  num2 r.occurrences ++ num8 r.firstSeen ++ num8 r.lastSeen ++ optNum 2 r.locatedBy ++
  optNum 2 (r.reflection.map (·.sweep))

/-- A location with its record id, absent for dropped (R170, notes/assumptions/91.md). -/
def locationBytes (l : Nat × Option Nat) : List Byte := num2 l.1 ++ optNum 2 l.2

/-- How many reflections of a list are of a class. -/
def classCount (rs : List Reflection) (c : ReflectionClass) : Nat := (rs.filter (fun r => r.cls = some c)).length

/-- The region number of an item, for a region. -/
def ItemKind.regionNumber : ItemKind → Option Nat
  | .frame => none
  | .region e => some e.number

/-- The code of an item's kind: FRAME or REGION. -/
def ItemKind.code : ItemKind → Nat
  | .frame => 0
  | .region _ => 1

/-- The item stopped, in an UPLINK_STATE notice (R111). -/
def stoppedBytes (i : StoppedItem) : List Byte :=
  num1 i.kind.code ++ num4 i.frame ++ optNum 2 i.kind.regionNumber ++ num2 i.sent ++
  optNum 1 (i.held.map (fun h => if h then 0 else 1))

/-! ## Notices (section 9.3) -/

/-- The kind byte of a notice: 0xA0 plus its place in the list of section 9.3. -/
def NoticeBody.kindByte : NoticeBody → Byte
  | .ready .. => 0xA0
  | .portState .. => 0xA1
  | .portTrip .. => 0xA2
  | .overdraw .. => 0xA3
  | .supply .. => 0xA4
  | .laneState .. => 0xA5
  | .planState .. => 0xA6
  | .triggerOverrun .. => 0xA7
  | .frameDropped .. => 0xA8
  | .ambient .. => 0xA9
  | .lensState .. => 0xAA
  | .headEvent .. => 0xAB
  | .uplinkState .. => 0xAC
  | .sweepDone .. => 0xAD
  | .breakRecord .. => 0xAE
  | .breakTableFull .. => 0xAE
  | .profile .. => 0xAF

/-- The body of a notice kind, encoded from its fields (R174). DESIGN CHOICE: BREAK carries the id of a record replaced as an
absent field in every event but CREATED (R149, notes/assumptions/76.md), and SWEEP_DONE carries more as an optional field
(R170, notes/assumptions/90.md). -/
def NoticeBody.bytes : NoticeBody → List Byte
  | .ready o i => num1 o.code ++ num1 i.code
  | .portState e n p r => num1 e.code ++ num1 n.code ++ num1 p.code ++ num1 r.code
  | .portTrip c i t k n => num1 c.code ++ num2 i ++ num2 t ++ num1 k ++ num1 n.code
  | .overdraw a b => num2 a ++ num2 b
  | .supply e v ps => num1 e.code ++ num2 v ++ portMask ps
  | .laneState n p c r => num1 n.code ++ num1 p.code ++ num1 c.code ++ num2 r
  | .planState n p c k r => num1 n.code ++ num1 p.code ++ num1 c.code ++ num8 k ++ num2 r
  | .triggerOverrun s t c h k => num1 s.code ++ num8 t ++ optNum 8 c ++ flagByte h ++ num4 k
  | .frameDropped s c p m d => num1 s.val ++ num8 c ++ num1 p ++ flagByte m ++ num4 d
  | .ambient s c m t l => num1 s.val ++ num8 c ++ num2 m ++ num2 t ++ num1 l.code
  | .lensState e n a m f =>
    num1 e.code ++ num1 n.code ++ axesBytes a ++ optField 4 moveName m ++ optNum 1 (f.map (·.code))
  | .headEvent (.limit a) n => num1 0 ++ optNum 1 (some a.toNat) ++ num1 n.code
  | .headEvent .overheat n => num1 1 ++ optNum 1 none ++ num1 n.code
  | .uplinkState u c k i =>
    num1 (if u then 0 else 1) ++ num1 (if u then 1 else 0) ++ num1 c.code ++ num2 k ++ optField 12 stoppedBytes i
  | .sweepDone n k o v u rs l m =>
    num2 n ++ num1 k.code ++ num1 (o.code - SweepState.done.code) ++ optNum 1 (v.map (·.code)) ++ optNum 1 u ++
    num1 (classCount rs .coupler) ++ num1 (classCount rs .farEnd) ++ num1 (classCount rs .beyond) ++
    num1 (classCount rs .fault) ++ num1 (classCount rs .launch) ++ num1 (classCount rs .extra) ++
    optField 5 locationBytes l ++ optNum 2 m
  | .breakRecord e r i => num1 e.code ++ breakRecordBytes r ++ optNum 2 i
  | .breakTableFull k s l u => num1 4 ++ num1 k.code ++ num1 s.code ++ optNum 2 l ++ num4 u
  | .profile e t i => num1 e.code ++ num8 t ++ num1 i.code

/-- The body of a notice on the line: port (255 when none applies), time, lost count, and the body of its kind
(section 9.1). -/
def noticeBytes (n : Notice) (lost : Nat) : List Byte :=
  (match n.port with
   | none => [0xFF]
   | some p => num1 p.val) ++ num8 n.time ++ num1 lost ++ n.body.bytes

end Sys2Proof.Machine
end

