-- ==== Sys2Proof/Machine/Ops.lean ====
section
/-!
DEFINITION. The named operations that every block uses: changing one port's part of the state, posting a notice (R176),
choosing what the link sends (R177), serving the request at the head (R173, R175), and taking a free value.
-/

namespace Sys2Proof.Machine

/-- The outcome type of a step. -/
abbrev Result := Host.Outcome State Fault Refusal

/-! ## One port's part of the state -/

def State.setPower (s : State) (p : Port) (f : PortPower → PortPower) : State :=
  { s with power := upd s.power p f }

def State.setLane (s : State) (p : Port) (f : Lane → Lane) : State :=
  { s with lanes := upd s.lanes p f }

def State.setLens (s : State) (p : Port) (f : Lens → Lens) : State :=
  { s with lenses := upd s.lenses p f }

def State.setEvidence (s : State) (p : Port) (f : Evidence → Evidence) : State :=
  { s with monitor := { s.monitor with ports := upd s.monitor.ports p f } }

def State.setResult (s : State) (p : Port) (f : SweepResult → SweepResult) : State :=
  { s with sweeps := { s.sweeps with results := upd s.sweeps.results p f } }

/-- The working profile of a port. -/
def State.profileOf (s : State) (p : Port) : PortProfile := s.settings.ports[p]

/-- Apply `f` for each port of a list, in its order. -/
def State.forPorts (f : Port → State → State) : List Port → State → State
  | [], s => s
  | p :: ps, s => State.forPorts f ps (f p s)

/-- The ports that satisfy a test, in number order. -/
def portsWhere (f : Port → Bool) : List Port := allPorts.filter f

/-- The state with the next free value taken (notes/assumptions/2.md). -/
def State.usedFree (s : State) : State := { s with freeCount := s.freeCount + 1 }

/-- The next free value, as a number below `bound`. -/
def State.freeBelow (s : State) (bound : Nat) : Nat := Config.freeValue s.freeCount % bound

/-! ## Notices (R176) -/

/-- A block posts a notice: it joins the tail of the notice queue, stamped with the cell clock time, or is discarded and
counted lost when the queue holds 32. -/
def State.post (s : State) (port : Option Port) (body : NoticeBody) : State :=
  if s.link.notices.length < 32 then
    { s with link := { s.link with notices := s.link.notices ++ [⟨port, s.clock, body⟩] } }
  else
    { s with link := { s.link with
        lost := satAdd 255 s.link.lost 1
        counts := { s.link.counts with noticesLost := sat32 s.link.counts.noticesLost } } }

/-! ## Replies and the transmit choice (R173, R177) -/

/-- The number of replies on the refusal list (R175). DESIGN CHOICE: one whose sending has begun is off the list
(notes/assumptions/86.md). -/
def Link.refusals (l : Link) : Nat := (l.replies.filter (·.refusal)).length

/-- The request in service that its owner has not answered yet (R175). -/
def Link.toServe (l : Link) : Option Request := if l.answered then none else l.requests.head?

/-- The bytes of a reply on the line (section 9.1). DESIGN CHOICE: a reply whose body passes 1,024 bytes, as STORE_STATUS's
can, is sent whole (R96, notes/assumptions/58.md). -/
def replyWire (r : Reply) : List Byte :=
  wireFrame 0x80 r.tag (r.kind :: BitVec.ofNat 8 r.status.code :: r.fields)

/-- The bytes of a notice on the line (section 9.1): a notice carries tag 0. -/
def noticeWire (n : Notice) (lost : Nat) : List Byte := wireFrame n.body.kindByte 0 (noticeBytes n lost)

/-- The transmit choice (R177): with the line free, the reply that became ready earliest is sent; otherwise the notice at
the head of the queue, which leaves the queue carrying the lost count (R176); otherwise the line idles. DESIGN CHOICE: a
BUSY reply leaves the refusal list here (R175, notes/assumptions/86.md). -/
def Link.transmit (l : Link) : Link :=
  match l.sending with
  | some _ => l
  | none =>
    match l.replies with
    | r :: rest =>
      { l with
        replies := rest
        sending := some ⟨if r.refusal then .refusal else .reply (r.kind = 0x25 && r.status = .ok), replyWire r⟩ }
    | [] =>
      match l.notices with
      | n :: rest => { l with notices := rest, lost := 0, sending := some ⟨.notice, noticeWire n l.lost⟩ }
      | [] => l

/-- The transmit choice, made at the end of each step (notes/assumptions/7.md). -/
def State.transmit (s : State) : State := { s with link := s.link.transmit }

/-- A step's next state: the blocks have acted, and the link makes its choice. -/
def finish (s : State) : Result := .next s.transmit

/-- The owner of the request in service gives its reply (R173): it carries the request's tag and kind. -/
def Link.answer (l : Link) (status : Status) (fields : List Byte) : Link :=
  match l.requests with
  | [] => l
  | r :: _ =>
    { l with
      answered := true
      replies := l.replies ++ [⟨false, r.kind, r.tag, status, fields⟩]
      counts := { l.counts with
        served := sat32 l.counts.served
        unknown := if status = .unknownRequest then sat32 l.counts.unknown else l.counts.unknown
        badLength := if status = .badLength then sat32 l.counts.badLength else l.counts.badLength } }

/-- The state with the request in service answered. -/
def State.answer (s : State) (status : Status) (fields : List Byte) : State :=
  { s with link := s.link.answer status fields }

/-- A reply that carries no result fields. -/
def State.reply (s : State) (status : Status) : State := s.answer status []

/-- Serve the request at the head when it is of `kind` and its body is one of this row (R173, R175). A body whose length is
not one the kind has is answered BAD_LENGTH and does not reach its owner. Where no such request stands to be served the
row does not occur, and nothing changes (notes/assumptions/6.md). -/
def State.serveWhen (s : State) (kind : Byte) (lengthOk ofRow : List Byte → Bool) (owner : List Byte → State → State) :
    Result :=
  match s.link.toServe with
  | none => .next s
  | some r =>
    if r.kind = kind then
      if lengthOk r.body then
        if ofRow r.body then finish (owner r.body s) else .next s
      else finish (s.reply .badLength)
    else .next s

/-- Serve the request at the head when it is of `kind`, whose one body length is `size`. -/
def State.serve (s : State) (kind : Byte) (size : Nat) (owner : List Byte → State → State) : Result :=
  s.serveWhen kind (fun b => b.length = size) (fun _ => true) owner

end Sys2Proof.Machine
end

