-- ==== Sys2Proof/Machine/Queries.lean ====
section
/-!
DEFINITION. What the blocks read of one another: the committed sum and its parts (R19), the effective threshold (R9), the
ports and slots of the plan, the exposure forecast (R67), and the signal levels (R73).
-/

namespace Sys2Proof.Machine

/-! ## The plan -/

/-- Whether the plan is in service: ARMED, RUNNING or STOPPING. -/
def PlanState.inService : PlanState → Bool
  | .armed | .running | .stopping => true
  | .empty | .loaded => false

/-- The slots of the loaded plan. -/
def Sequencer.slots (q : Sequencer) : List Slot :=
  match q.plan with
  | none => []
  | some p => p.slots

/-- A slot of the loaded plan by its number. -/
def Sequencer.slot? (q : Sequencer) (k : Fin 4) : Option Slot := q.slots[k.val]?

/-- Whether a slot marks a port. -/
def Slot.marks (s : Slot) (p : Port) : Bool := s.ports[p]

/-- Whether a port is one marked in any slot of the loaded plan (R62). -/
def Sequencer.marks (q : Sequencer) (p : Port) : Bool := q.slots.any (·.marks p)

/-- Whether the plan is in FREE_RUN. -/
def Sequencer.freeRun (q : Sequencer) : Bool :=
  match q.plan with
  | some p => p.mode = .freeRun
  | none => false

/-- Whether the plan is in LINE_TRIGGER. -/
def Sequencer.lineTrigger (q : Sequencer) : Bool :=
  match q.plan with
  | some p => p.mode = .lineTrigger
  | none => false

/-- Whether a port is owned by the plan (R69): marked in a slot that names a preset, while the plan is in service. -/
def Sequencer.owns (q : Sequencer) (p : Port) : Bool :=
  q.state.inService && q.slots.any (fun s => s.marks p && s.preset.isSome)

/-- The least of some numbers, if there are any. -/
def least : List Nat → Option Nat
  | [] => none
  | n :: ns =>
    match least ns with
    | none => some n
    | some m => some (min n m)

/-- The slots of the plan with their numbers. -/
def Sequencer.numbered (q : Sequencer) : List (Fin 4 × Slot) :=
  ([0, 1, 2, 3] : List (Fin 4)).filterMap (fun k => (q.slot? k).map (fun s => (k, s)))

/-- The slots that mark a port, with their numbers. -/
def Sequencer.slotsOf (q : Sequencer) (p : Port) : List (Fin 4 × Slot) := q.numbered.filter (fun s => s.2.marks p)

/-- Whether any port of the plan has its lane in QUIET (R62). -/
def State.planQuiet (s : State) : Bool :=
  allPorts.any (fun p => s.seq.marks p && s.lanes[p].state = .quiet)

/-! ## The exposure forecast (R67) -/

/-- The next exposure start of a port, as the sequencer forecasts it at this moment. -/
def State.nextExposure (s : State) (p : Port) : Option Time :=
  let q := s.seq
  let undispatched := (q.slotsOf p).filter (fun k =>
    match q.current with
    | none => false
    | some c => !c.dispatched.contains k.1)
  if !q.state.inService || !q.marks p then none
  else if (match q.pending with | some t => t.held | none => false) then some s.clock
  else
    match q.current, least (undispatched.map (·.2.offset)) with
    | some c, some o => some (c.start + o)
    | _, _ =>
      if q.freeRun && q.state != .stopping then
        match q.nextExpiry, least ((q.slotsOf p).map (·.2.offset)) with
        | some t, some o => some (t + o)
        | _, _ => none
      else none

/-- Whether a trigger is pending (R67). -/
def State.triggerPending (s : State) : Bool := s.seq.pending.isSome

/-- Whether an exposure window of the port is open (R40). -/
def State.exposing (s : State) (p : Port) : Bool := s.lanes[p].exposure.isSome

/-! ## The supply (R9, R19, R23) -/

/-- Whether a port holds its base reservation (R1): it is in RAMPING or ON. -/
def PowerState.reserved : PowerState → Bool
  | .ramping | .on => true
  | _ => false

/-- The sum of a quantity over the eight ports. -/
def sumPorts (f : Port → Nat) : Nat := (allPorts.map f).sum

/-- The base part of the committed sum (R19). -/
def State.basePart (s : State) : Nat :=
  sumPorts (fun p => if s.power[p].state.reserved then (s.profileOf p).baseReservation else 0)

/-- The surge part of the committed sum (R19). -/
def State.surgePart (s : State) : Nat :=
  sumPorts (fun p => if s.lenses[p].claim = .granted then (s.profileOf p).lensSurge else 0)

/-- The plan strobe reservation (R23): the strobe peaks of the distinct ports named in any slot whose strobe count used
is above 0. -/
def State.strobeReservation (s : State) : Nat :=
  sumPorts (fun p =>
    if s.seq.slots.any (fun k => k.marks p && 0 < k.used) then (s.profileOf p).strobePeak else 0)

/-- The strobe part of the committed sum (R19). -/
def State.strobePart (s : State) : Nat := if s.seq.state.inService then s.strobeReservation else 0

/-- The committed sum (R19). -/
def State.committed (s : State) : Nat := s.basePart + s.surgePart + s.strobePart

/-- The mean of the last `n` samples, rounded down (R9); samples before the first read 0 mA. -/
def PortPower.average (w : PortPower) (n : Nat) : Nat := (w.samples.take n).sum / n

/-- Whether a strobe interval of the port is open at a moment (R9, R39). -/
def PortPower.strobeOpen (w : PortPower) (t : Time) : Bool := w.strobes.any (fun i => i.1 ≤ t && t ≤ i.2)

/-- Whether the lens is MOVING or HOMING. -/
def LensState.inMotion : LensState → Bool
  | .moving | .homing => true
  | _ => false

/-- The effective overcurrent threshold of a port (R9): its threshold with the allowances, capped at 4,500 mA. -/
def State.effectiveThreshold (s : State) (p : Port) : Nat :=
  let f := s.profileOf p
  min 4500 (f.overcurrent + (if s.power[p].state = .ramping then f.overcurrent else 0) +
    (if s.power[p].strobeOpen s.clock then f.strobePeak else 0) +
    (if s.lenses[p].state.inMotion then f.lensSurge else 0))

/-- The place of a claim on the claim list, counting the head as 1 (R18). -/
def Supply.place (u : Supply) (p : Port) (k : ClaimKind) : Option Nat :=
  (u.claims.findIdx? (fun c => c.port = p && c.kind = k)).map (· + 1)

/-! ## Signals (R73) and the break table's readers -/

/-- Whether a record of the table is CONFIRMED. -/
def BreakTable.anyConfirmed (t : BreakTable) : Bool := t.records.any (fun r => r.state = .confirmed)

/-- Whether the table holds, for a port, a record of kind DATA_ERRORS or REFLECTION that is not CLEARED (R81). -/
def BreakTable.suspects (t : BreakTable) (p : Port) : Bool :=
  t.records.any (fun r => r.port = p && (r.kind = .dataErrors || r.kind = .reflection) && r.state != .cleared)

/-- The level of an output that carries a function: whether it is asserted (R73). -/
def State.signalLevel (s : State) : SignalFunction → Bool
  | .low => false
  | .cycleActive => s.seq.state = .running || s.seq.state = .stopping
  | .exposing => allPorts.any s.exposing
  | .breakConfirmed => s.table.anyConfirmed
  | .supplyLow => s.supply.low.isSome

/-! ## Frame flags (R81) -/

/-- The flags that either of two sets carries. -/
def FrameFlags.union (a b : FrameFlags) : FrameFlags where
  truncated := a.truncated || b.truncated
  lineErrors := a.lineErrors || b.lineErrors
  lensUnsettled := a.lensUnsettled || b.lensUnsettled
  lensMoving := a.lensMoving || b.lensMoving
  triggerDelayed := a.triggerDelayed || b.triggerDelayed
  ambientHigh := a.ambientHigh || b.ambientHigh
  uncombined := a.uncombined || b.uncombined
  combined := a.combined || b.combined
  aborted := a.aborted || b.aborted
  cableSuspect := a.cableSuspect || b.cableSuspect
  notHeld := a.notHeld || b.notHeld

/-- The flags of a combined result (R81): COMBINED, and those of its members that pass to it. -/
def combinedFlags (members : List FrameFlags) : FrameFlags where
  lineErrors := members.any (·.lineErrors)
  triggerDelayed := members.any (·.triggerDelayed)
  lensUnsettled := members.any (·.lensUnsettled)
  lensMoving := members.any (·.lensMoving)
  ambientHigh := members.any (·.ambientHigh)
  cableSuspect := members.any (·.cableSuspect)
  combined := true

/-! ## The image of the PROFILE STORE (R180) -/

/-- The image state: WRITING while a save is under way, else VALID when the CRC-32 matches. -/
def ProfileStore.imageState (f : ProfileStore) : ImageState :=
  if f.write.isSome then .writing else if f.image.isSome then .valid else .invalid

end Sys2Proof.Machine
end

