-- ==== Sys2Proof/Machine/BreakOps.lean ====
section
/-!
DEFINITION. The BREAK TABLE (section 7.5): creating, merging, confirming, locating and clearing break records.
-/

namespace Sys2Proof.Machine

/-- What the table tells a submitter (R145): merged, created or dropped, with the id of the record concerned. -/
inductive Submitted where
  | merged (id : Nat)
  | created (id : Nat)
  | dropped
deriving DecidableEq, Repr

/-- The id of the record concerned, if there is one. -/
def Submitted.id? : Submitted → Option Nat
  | .merged i => some i
  | .created i => some i
  | .dropped => none

/-- The next-id counter one higher, wrapping from 65,535 to 1 (R144). -/
def nextBreakId (n : Nat) : Nat := if 65535 ≤ n then 1 else n + 1

/-- The first id from a counter's value on that names no record, trying `fuel` values (R144). -/
def freshBreakId (rs : List BreakRecord) : Nat → Nat → Nat
  | 0, n => n
  | fuel + 1, n => if rs.any (fun r => r.id = n) then freshBreakId rs fuel (nextBreakId n) else n

/-- The records left when the oldest CLEARED one has been taken out, and its id (R148): any located-by that named it
becomes absent (R147). -/
def withoutOldestCleared (rs : List BreakRecord) : Option (List BreakRecord × Nat) :=
  (rs.find? (fun r => r.state = .cleared)).map (fun old =>
    ((rs.eraseP (fun r => r.state = .cleared)).map
      (fun r => if r.locatedBy = some old.id then { r with locatedBy := none } else r), old.id))

/-- The records a creation may join, and the id of the one it replaces (R148); none when the table is full of records
that are not CLEARED. -/
def BreakTable.room (t : BreakTable) : Option (List BreakRecord × Option Nat) :=
  if t.records.length < 32 then some (t.records, none)
  else (withoutOldestCleared t.records).map (fun r => (r.1, some r.2))

/-- A new record is created where the table has room, under the next free id; otherwise the evidence is dropped with a
TABLE_FULL notice (R144, R148, R149). The id of `record` is not read. -/
def State.createBreak (s : State) (record : BreakRecord) : State × Submitted :=
  match s.table.room with
  | some (rs, replaced) =>
    let id := freshBreakId rs (rs.length + 1) s.table.nextId
    let r := { record with id := id }
    (({ s with table := { s.table with records := rs ++ [r], nextId := nextBreakId id } }).post (some r.port)
      (.breakRecord .created r replaced), .created id)
  | none =>
    let t := { s.table with unrecorded := upd s.table.unrecorded record.port sat32 }
    (({ s with table := t }).post (some record.port)
      (.breakTableFull record.kind record.state (record.reflection.map (fun (f : ReflectionPart) => f.location)) (t.unrecorded[record.port])),
      .dropped)

/-- The record at one place of the table changed by `f`. -/
def State.setBreak (s : State) (i : Nat) (f : BreakRecord → BreakRecord) : State :=
  { s with table := { s.table with records := s.table.records.modify i f } }

/-- The record at one place of the table becomes what `f` makes of it, and a BREAK notice tells the event (R149). -/
def State.breakEvent (s : State) (i : Nat) (event : BreakEvent) (f : BreakRecord → BreakRecord) : State :=
  match s.table.records[i]? with
  | none => s
  | some r => (s.setBreak i f).post (some r.port) (.breakRecord event (f r) none)

/-- The record at a place of the table becomes CONFIRMED, when it is SUSPECT. -/
def State.confirmBreak (s : State) (i : Nat) : State :=
  match s.table.records[i]? with
  | none => s
  | some r => if r.state = .suspect then s.breakEvent i .confirmed (fun r => { r with state := .confirmed }) else s

/-- The place of the record of a port and kind that is not CLEARED (R145). -/
def BreakTable.standing (t : BreakTable) (p : Port) (k : BreakKind) : Option Nat :=
  t.records.findIdx? (fun r => r.port = p && r.kind = k && r.state != .cleared)

/-- Evidence of kind DATA_ERRORS, POWER_OPEN, POWER_SHORT or LENS_SILENT is submitted (R145): it is merged into the port's
standing record of that kind, or creates one. -/
def State.submitEvidence (s : State) (p : Port) (k : BreakKind) (st : BreakState) : State × Submitted :=
  match s.table.standing p k with
  | some i =>
    let s1 := s.setBreak i (fun r => { r with occurrences := satAdd 65535 r.occurrences 1, lastSeen := s.clock })
    (if st = .confirmed then s1.confirmBreak i else s1,
      .merged (((s.table.records[i]?).map (·.id)).getD 0))
  | none =>
    s.createBreak ⟨0, p, k, st, none, none, 1, s.clock, s.clock, none⟩

/-- The distance between two locations. -/
def apart (a b : Nat) : Nat := (a - b) + (b - a)

/-- The place of the first REFLECTION record of a port that is not CLEARED and lies within 20 cm (R146). -/
def BreakTable.near (t : BreakTable) (p : Port) (location : Nat) : Option Nat :=
  t.records.findIdx? (fun r => r.port = p && r.kind = .reflection && r.state != .cleared &&
    (match r.reflection with
     | some f => apart f.location location ≤ 20
     | none => false))

/-- A FAULT reflection of a sweep is submitted (R146). -/
def State.submitReflection (s : State) (p : Port) (location : Nat) (polarity : Polarity) (st : BreakState)
    (sweep : Nat) (segment : Segment) : State × Submitted :=
  match s.table.near p location with
  | some i =>
    let s1 := s.setBreak i (fun r => { r with
      occurrences := satAdd 65535 r.occurrences 1
      lastSeen := s.clock
      reflection := r.reflection.map (fun f => { f with latest := location, sweep := sweep }) })
    (if st = .confirmed then s1.confirmBreak i else s1,
      .merged (((s.table.records[i]?).map (·.id)).getD 0))
  | none =>
    s.createBreak ⟨0, p, .reflection, st, segment.map (fun g => [g]),
      some ⟨location, polarity, location, sweep⟩, 1, s.clock, s.clock, none⟩

/-- A locate acts on the record at one place of the table (R147). -/
def State.locateAt (p : Port) (id : Nat) (i : Nat) (s : State) : State :=
  match s.table.records[i]? with
  | none => s
  | some r =>
    if r.port = p && (r.kind = .dataErrors || r.kind = .powerOpen) then
      match r.state with
      | .suspect => s.breakEvent i .confirmed (fun r => { r with state := .confirmed, locatedBy := some id })
      | .confirmed =>
        if r.locatedBy = some id then s else s.breakEvent i .located (fun r => { r with locatedBy := some id })
      | .cleared => s
    else s

/-- Apply `f` to each place of a list of places, in its order. -/
def State.forPlaces (f : Nat → State → State) : List Nat → State → State
  | [], s => s
  | i :: is, s => State.forPlaces f is (f i s)

/-- A locate (R147): where the id names a REFLECTION record of the port, the port's DATA_ERRORS and POWER_OPEN records
that are not CLEARED are confirmed or take the id. DESIGN CHOICE: they are taken in table order (notes/assumptions/82.md).
-/
def State.locate (s : State) (p : Port) (id : Nat) : State :=
  if s.table.records.any (fun r => r.id = id && r.port = p && r.kind = .reflection) then
    State.forPlaces (State.locateAt p id) (List.range s.table.records.length) s
  else s

/-- The record at one place of the table becomes CLEARED, when it is not, with its BREAK notice (R149). -/
def State.clearBreak (i : Nat) (s : State) : State :=
  match s.table.records[i]? with
  | none => s
  | some r => if r.state = .cleared then s else s.breakEvent i .cleared (fun r => { r with state := .cleared })

/-- The places of the records that satisfy a test and are not CLEARED, in table order. -/
def BreakTable.clearable (t : BreakTable) (f : BreakRecord → Bool) : List Nat :=
  (List.range t.records.length).filter (fun i =>
    match t.records[i]? with
    | some r => f r && r.state != .cleared
    | none => false)

end Sys2Proof.Machine
end

