-- ==== Sys2Proof/Machine/LaneBase.lean ====
section
/-!
DEFINITION. The lane's own operations (R31 to R36, R48): its states, its training attempts, its QUIET periods and its
counts.
-/

namespace Sys2Proof.Machine

/-- One of a lane's counts changed. -/
def State.laneCount (s : State) (p : Port) (f : LaneCounts → LaneCounts) : State :=
  s.setLane p (fun l => { l with counts := f l.counts })

/-- The lane enters a state at this moment. -/
def State.laneEnters (s : State) (p : Port) (st : LaneState) : State :=
  s.setLane p (fun l => { l with state := st, since := s.clock })

/-- A LANE_STATE notice (R36): the lane's state, the state before, the cause and the failed-attempt run. -/
def State.laneNotice (s : State) (p : Port) (prev : LaneState) (cause : LaneCause) : State :=
  s.post (some p) (.laneState s.lanes[p].state prev cause s.lanes[p].failedRun)

/-- A training attempt begins (R33): its deadline is 50 ms after `start`, and the attempt is counted (R48). -/
def State.startTraining (s : State) (p : Port) (start : Time) : State :=
  s.setLane p (fun l => { l with
    state := .training
    since := s.clock
    deadlineAt := some (start + 50000)
    retryAt := none
    retrainAt := none
    counts := { l.counts with attempts := sat32 l.counts.attempts } })

/-- Whether a reflection acquisition is under way on a port. -/
def State.acquiringOn (s : State) (p : Port) : Bool :=
  match s.sweeps.acquisition with
  | some a => a.port = p
  | none => false

/-- The lane of a port that has entered ON begins its first attempt, with the failed-attempt run at 0 (R32). -/
def State.laneFirstTraining (s : State) (p : Port) : State :=
  ((s.setLane p (fun l => { l with failedRun := 0 })).startTraining p s.clock).laneNotice p s.lanes[p].state .portOn

/-- The lane of a port that enters ON (R32): it trains, or stays DOWN while an acquisition is under way on it. -/
def State.laneEntersOn (s : State) (p : Port) : State :=
  if s.acquiringOn p then s.setLane p (fun l => { l with failedRun := 0 }) else s.laneFirstTraining p

/-- The QUIET packet of the back-channel, for 200 µs (sections 2.3, R35). -/
def quietPacket : List Byte := withCrc16 (0x52 :: num2 200)

/-- The sweep engine asks the lane for quiet (R35). -/
def State.askQuiet (s : State) (p : Port) : State :=
  match s.lanes[p].state with
  | .locked => (s.laneEnters p .quiet).setLane p (fun l => { l with backChannel := quietPacket })
  | .training => (s.laneEnters p .quiet).setLane p (fun l => { l with deadlineAt := none })
  | .down => s
  | .quiet => s

end Sys2Proof.Machine
end

