-- ==== Sys2Proof/Machine/SweepOps.lean ====
section
/-!
DEFINITION. The REFLECTION SWEEP ENGINE's operations: taking the next entry (R156, R158), testing the conditions of an
acquisition (R160, R161), ending a sweep (R158, R170), and the analysis of the acquisitions (R164 to R169).
-/

namespace Sys2Proof.Machine

/-! ## The end and the beginning of a sweep -/

/-- The SWEEP_DONE notice of a port's result record (R170). -/
def State.sweepDone (s : State) (p : Port) : State :=
  let r := s.sweeps.results[p]
  match r.entry with
  | none => s
  | some e =>
    s.post (some p) (.sweepDone e.number e.kind r.state r.verdict r.used r.reflections r.location r.more)

/-- The result record when an entry's sweep begins (R158): cleared, with the entry's fields and its start time. -/
def beginResult (e : SweepEntry) (t : Time) : SweepResult :=
  { state := .calibrating, entry := some e, startAt := some t, gathered := some 0, restarts := some 0, suspensions := some 0 }

/-- The engine takes the entries at the head of a queue: the first whose cable record is set begins its sweep; one whose
record is not set ends at once as CANCELLED (R156). -/
def State.takeEntries : List SweepEntry → State → State
  | [], s => { s with sweeps := { s.sweeps with queue := [] } }
  | e :: rest, s =>
    if s.settings.cables[e.port].isSet then
      ({ s with sweeps := { s.sweeps with
          queue := rest
          sweep := some {
            entry := e
            cable := s.settings.cables[e.port]
            samples := []
            calibrationEndAt := some (s.clock + 1000)
            deadlineAt := s.clock + e.deadline * 1000000
            analysisEndAt := none } } }).setResult e.port (fun _ => beginResult e s.clock)
    else
      State.takeEntries rest
        ((({ s with sweeps := { s.sweeps with queue := rest } }).setResult e.port
          (fun _ => { beginResult e s.clock with state := .cancelled, endAt := some s.clock })).sweepDone e.port)

/-- The engine takes the next entry when it has no sweep in progress and its sampler is free (R156). -/
def State.takeNextSweep (s : State) : State :=
  if s.sweeps.sweep.isNone && s.sweeps.acquisition.isNone then State.takeEntries s.sweeps.queue s else s

/-- An acquisition under way will not be gathered (R157, R162, R163). -/
def State.dropAcquisition (s : State) : State :=
  { s with sweeps := { s.sweeps with
      acquisition := s.sweeps.acquisition.map (fun a => { a with live := false }) } }

/-- The sweep in progress of a port ends with an outcome and the findings that `f` adds; SWEEP_DONE is sent and the engine
takes the next entry (R158, R170). DESIGN CHOICE: an end without an analysis leaves the field more absent (R170,
notes/assumptions/90.md), and one in CALIBRATING frees the sampler at once (R157, notes/assumptions/99.md). -/
def State.endSweep (s : State) (p : Port) (outcome : SweepState) (f : SweepResult → SweepResult) : State :=
  ((({ s.dropAcquisition with sweeps := { s.dropAcquisition.sweeps with sweep := none } }).setResult p
    (fun r => { f r with state := outcome, endAt := some s.clock })).sweepDone p).takeNextSweep

/-! ## Acquisitions (R160, R161) -/

/-- The first four conditions of R160: no reception window open, the next exposure at least 300 µs away, no trigger
pending in LINE_TRIGGER for a marked port, and the segment current. -/
def State.gapOpen (s : State) (e : SweepEntry) : Bool :=
  s.lanes[e.port].window.isNone &&
  (match s.nextExposure e.port with
   | none => true
   | some t => s.clock + 300 ≤ t) &&
  !(s.seq.lineTrigger && s.seq.marks e.port && s.triggerPending) &&
  (match e.segment with
   | none => true
   | some g => s.monitor.segment = some g)

/-- An acquisition begins on a port (R160): the lane is asked for quiet, and the acquisition lasts 200 µs. -/
def State.beginAcquisition (s : State) (p : Port) : State :=
  (({ s with sweeps := { s.sweeps with acquisition := some ⟨p, s.clock + 200, true⟩ } }).setResult p
    (fun r => { r with state := .acquiring })).askQuiet p

/-- The test of the conditions in ACQUIRING (R161), or when calibration ends (R159): the next acquisition begins, or the
sweep is suspended, or it waits in ACQUIRING for the lane to leave QUIET. -/
def State.sweepTest (s : State) : State :=
  match s.sweeps.sweep with
  | none => s
  | some w =>
    let p := w.entry.port
    if s.gapOpen w.entry then
      if s.lanes[p].state != .quiet && s.sweeps.acquisition.isNone then s.beginAcquisition p
      else s.setResult p (fun r => { r with state := .acquiring })
    else s.setResult p (fun r => { r with state := .suspended, suspensions := r.suspensions.map sat32 })

/-- Whether the sweep in progress stands in a stage. -/
def State.sweepIn (s : State) (st : SweepState) : Bool :=
  match s.sweeps.sweep with
  | none => false
  | some w => s.sweeps.results[w.entry.port].state = st

/-- The test of the conditions in SUSPENDED (R161), at an event that can change them: when all five hold, the next
acquisition begins at once. -/
def State.sweepResume (s : State) : State :=
  match s.sweeps.sweep with
  | none => s
  | some w =>
    let p := w.entry.port
    if s.sweeps.results[p].state = .suspended && s.gapOpen w.entry && s.lanes[p].state != .quiet &&
        s.sweeps.acquisition.isNone
    then s.beginAcquisition p
    else s

/-- The lane of a port has left QUIET, with no acquisition under way on it (R161): the sweep of that port is tested in
ACQUIRING, and may resume in SUSPENDED. DESIGN CHOICE: a lane that its port's leaving ON takes out of QUIET during an
acquisition makes no test in ACQUIRING here, but at the acquisition's end (notes/assumptions/89.md). -/
def State.laneLeftQuiet (s : State) (p : Port) : State :=
  match s.sweeps.sweep with
  | none => s
  | some w =>
    if w.entry.port = p then
      if s.sweepIn .acquiring && s.sweeps.acquisition.isNone then s.sweepTest else s.sweepResume
    else s

/-- A change of a port's power state into ON or out of ON discards the acquisitions gathered (R162). -/
def State.discardAcquisitions (s : State) (p : Port) : State :=
  match s.sweeps.sweep with
  | none => s
  | some w =>
    if w.entry.port = p && (s.sweepIn .calibrating || s.sweepIn .acquiring || s.sweepIn .suspended) then
      ({ s.dropAcquisition with sweeps := { s.dropAcquisition.sweeps with
          sweep := some { w with samples := [] } } }).setResult p
        (fun r => { r with gathered := some 0, restarts := r.restarts.map sat32 })
    else s

/-- The sweep enters ANALYSING for 2 ms (R158). -/
def State.beginAnalysis (s : State) (w : Sweep) : State :=
  ({ s with sweeps := { s.sweeps with sweep := some { w with analysisEndAt := some (s.clock + 2000) } } }).setResult
    w.entry.port (fun r => { r with state := .analysing })

/-! ## Auto-sweeps (R141, R155) -/

/-- Whether a port has an entry on the sweep queue or is the port of the sweep in progress (R154, R156). -/
def SweepEngine.busyWith (e : SweepEngine) (p : Port) : Bool :=
  e.queue.any (fun q => q.port = p) ||
  (match e.sweep with
   | some w => w.entry.port = p
   | none => false)

/-- The sweep number counter one higher, wrapping from 65,535 to 1 (R155). -/
def nextSweepNumber (n : Nat) : Nat := if 65535 ≤ n then 1 else n + 1

/-- An entry joins the tail of the sweep queue under the next sweep number, and an idle engine takes it (R155, R156). -/
def State.joinSweepQueue (s : State) (e : SweepEntry) : State :=
  ({ s with sweeps := { s.sweeps with
      counter := nextSweepNumber s.sweeps.counter
      queue := s.sweeps.queue ++ [{ e with number := nextSweepNumber s.sweeps.counter }] } }).takeNextSweep

/-- The CABLE EVIDENCE MONITOR posts an auto-sweep (R141), which is added where the port's cable record is set and it has
neither entry nor sweep (R155). -/
def State.autoSweep (s : State) (p : Port) (segment : Segment) : State :=
  if s.settings.cables[p].isSet && !s.sweeps.busyWith p then
    s.joinSweepQueue ⟨p, .fault, 16, .half, segment, 10, 0, .auto⟩
  else s

/-! ## Analysis (R164 to R167) -/

/-- What one index shows over the acquisitions: how many deviate at or above the threshold, how many at or below minus the
threshold, and the sum of the deviations. -/
structure Column where
  positive : Nat := 0
  negative : Nat := 0
  sum : Int := 0
deriving DecidableEq, Repr

/-- A column with one more deviation counted. -/
def Column.add (threshold : Nat) (c : Column) (d : Int) : Column where
  positive := if (threshold : Int) ≤ d then c.positive + 1 else c.positive
  negative := if d ≤ -(threshold : Int) then c.negative + 1 else c.negative
  sum := c.sum + d

/-- The columns with one more acquisition counted, index by index. -/
def addAcquisition (threshold : Nat) : List Column → List Int → List Column
  | cs, [] => cs
  | [], d :: ds => Column.add threshold {} d :: addAcquisition threshold [] ds
  | c :: cs, d :: ds => c.add threshold d :: addAcquisition threshold cs ds

/-- The required count (R164): n times the quorum's share, rounded up. -/
def requiredCount (n : Nat) : Quorum → Nat
  | .quarter => ceilDiv n 4
  | .half => ceilDiv n 2
  | .all => n

/-- How an index qualifies (R164). -/
def Column.qualifies (required : Nat) (c : Column) : Option Polarity :=
  if required ≤ c.positive && c.negative < c.positive then some .open
  else if required ≤ c.negative && c.positive < c.negative then some .short
  else none

/-- The maximal runs of consecutive indices that qualify with one sign: the first index, the polarity and the mean
deviation at that index of each (R164). `prev` is how the index before qualified. -/
def findRuns (required n : Nat) : Nat → Option Polarity → List Column → List Reflection
  | _, _, [] => []
  | i, prev, c :: cs =>
    let now := c.qualifies required
    let rest := findRuns required n (i + 1) now cs
    match now with
    | none => rest
    | some q => if now = prev then rest else ⟨i, q, c.sum.tdiv (n : Int), none, none, none⟩ :: rest

/-- The reflections of a set of acquisitions (R164). -/
def reflectionsOf (threshold required : Nat) (acquisitions : List (List Int)) : List Reflection :=
  findRuns required acquisitions.length 0 none (acquisitions.foldl (addAcquisition threshold) [])

/-- The distance in cm of a reflection `delta` indices past the launch, rounded half up (R167). -/
def distanceCm (delta velocity calibration : Nat) : Nat :=
  (delta * velocity * 1499 + calibration * 5000) / (calibration * 10000)

/-- The class of a reflection of a FAULT sweep, with its distance (R166). -/
def classifyFault (cable : CableRecord) (calibration : Nat) (r : Reflection) : Reflection :=
  let d := distanceCm (r.index - cable.launch.getD 0) cable.velocity calibration
  let length := cable.length.getD 0
  if cable.couplers.any (fun c => apart r.index c ≤ 8) then { r with cls := some .coupler, distance := some d }
  else if apart d length ≤ 30 then { r with cls := some .farEnd, distance := some d }
  else if length + 30 < d then { r with cls := some .beyond }
  else { r with cls := some .fault, distance := some d }

/-- The classes of the reflections after the launch of a BASELINE sweep (R169 step 2): `left` is how many may still be
couplers. -/
def classifyBaseline (cable : CableRecord) (calibration launch : Nat) : Nat → List Reflection → List Reflection
  | _, [] => []
  | left, r :: rs =>
    let d := distanceCm (r.index - launch) cable.velocity calibration
    let length := cable.length.getD 0
    if apart d length ≤ 30 then
      { r with cls := some .farEnd, distance := some d } :: classifyBaseline cable calibration launch left rs
    else if length + 30 < d then
      { r with cls := some .beyond } :: classifyBaseline cable calibration launch left rs
    else match left with
      | 0 => { r with cls := some .extra, distance := some d } :: classifyBaseline cable calibration launch 0 rs
      | k + 1 => { r with cls := some .coupler, distance := some d } :: classifyBaseline cable calibration launch k rs

/-- The FAULT reflections of a list are submitted in index order, and each stores the table's answer (R168). -/
def State.submitFaults (p : Port) (st : BreakState) (sweep : Nat) (segment : Segment) :
    List Reflection → State → State × List Reflection
  | [], s => (s, [])
  | r :: rs, s =>
    if r.cls = some .fault then
      let a := s.submitReflection p (r.distance.getD 0) r.polarity st sweep segment
      let b := State.submitFaults p st sweep segment rs a.1
      (b.1, { r with record := a.2.id? } :: b.2)
    else
      let b := State.submitFaults p st sweep segment rs s
      (b.1, r :: b.2)

/-- The end of the analysis of a FAULT sweep (R165, R166, R168). -/
def State.endFaultSweep (s : State) (w : Sweep) (outcome : SweepState) (found : List Reflection)
    (calibration required : Nat) : State :=
  let p := w.entry.port
  let kept := found.filter (fun (r : Reflection) => w.cable.launch.getD 0 < r.index)
  let reported := (kept.take 8).map (classifyFault w.cable calibration)
  let st := if outcome = SweepState.done then BreakState.confirmed else BreakState.suspect
  let sub := State.submitFaults p st w.entry.number w.entry.segment reported s
  let nearest := sub.2.find? (fun (r : Reflection) => r.cls = some .fault)
  let located := match nearest with
    | some r =>
      match r.record with
      | some id => if outcome = SweepState.done then sub.1.locate p id else sub.1
      | none => sub.1
    | none => sub.1
  located.endSweep p outcome (fun (r : SweepResult) => { r with
    used := some w.samples.length
    required := some required
    verdict := some (if nearest.isSome then .faultFound else .clean)
    reflections := sub.2
    more := some (kept.length - 8)
    location := nearest.map (fun (r : Reflection) => (r.distance.getD 0, r.record)) })

/-- The end of the analysis of a BASELINE sweep (R165, R169), which has no location (R170). DESIGN CHOICE: a DONE sweep
that shows no launch has BASELINE_FAULT also where the working record is no longer set (notes/assumptions/84.md). -/
def State.endBaselineSweep (s : State) (w : Sweep) (outcome : SweepState) (found : List Reflection)
    (calibration required : Nat) : State :=
  let p := w.entry.port
  let reported := found.take 8
  let judged : Option (Nat × List Reflection) := match reported with
    | [] => none
    | first :: rest =>
      if 255 < first.index then none
      else some (first.index,
        { first with cls := some .launch } :: classifyBaseline w.cable calibration first.index 4 rest)
  let couplers := fun (rs : List Reflection) => (rs.filter (fun (r : Reflection) => r.cls = some .coupler)).map (fun (r : Reflection) => r.index)
  let finish := fun (t : State) (v : Verdict) (rs : List Reflection) =>
    t.endSweep p outcome (fun (r : SweepResult) => { r with
      used := some w.samples.length
      required := some required
      verdict := some v
      reflections := rs
      more := some (found.length - 8)
      location := none })
  match judged with
  | none => finish s (if outcome = SweepState.done then .baselineFault else .notApplied) reported
  | some (launch, rs) =>
    if outcome = SweepState.done && s.settings.cables[p].isSet then
      finish { s with settings := { s.settings with
        cables := upd s.settings.cables p (fun c => { c with launch := some launch, couplers := couplers rs }) } }
        .baselineSet rs
    else finish s .notApplied rs

end Sys2Proof.Machine
end

