-- ==== Sys2Proof/Machine/EvidenceOps.lean ====
section
/-!
DEFINITION. The CABLE EVIDENCE MONITOR (chapter 7): counting data errors, judging the windows, and passing on the evidence
of the power switches and the lens controller.
-/

namespace Sys2Proof.Machine

/-- The bin that counts errors of a segment: those of segments 0 to 15, then that of NONE (R137). -/
def binOf (g : Segment) : Fin 17 :=
  match g with
  | some n => ⟨n.val, by omega⟩
  | none => 16

/-- One data error counted (R137): in the window count and in the bin, or in the saturated errors alone. -/
def Evidence.addError (e : Evidence) (g : Segment) : Evidence :=
  if e.errors < 4294967295 then { e with errors := e.errors + 1, bins := upd e.bins (binOf g) (· + 1) }
  else { e with saturated := sat32 e.saturated }

/-- A lane passes a data error of its port (R137). -/
def State.dataError (s : State) (p : Port) : State := s.setEvidence p (fun e => e.addError s.monitor.segment)

/-! ## Power and lens evidence (R143) -/

/-- Evidence of the power switch: POWER_OPEN, with its auto-sweep. -/
def State.powerOpen (s : State) (p : Port) : State :=
  let t := (s.submitEvidence p .powerOpen .suspect).1
  if (t.profileOf p).autoSweep then t.autoSweep p none else t

/-- Evidence of the power switch: POWER_SHORT, SUSPECT for a probe short or a third trip, CONFIRMED for LOCKED. -/
def State.powerShort (s : State) (p : Port) (st : BreakState) : State := (s.submitEvidence p .powerShort st).1

/-- Evidence of the lens controller: LENS_SILENT. -/
def State.lensSilent (s : State) (p : Port) : State := (s.submitEvidence p .lensSilent .suspect).1

/-! ## Judging a window (R139 to R142) -/

/-- The first of some segments whose bin is the largest. -/
def largestBin (bins : Vector Nat 17) : List (Fin 16) → Option (Fin 16)
  | [] => none
  | g :: gs =>
    match largestBin bins gs with
    | none => some g
    | some h => if bins[binOf (some g)] < bins[binOf (some h)] then some h else some g

/-- The segments of bin1 and bin2 (R140). -/
def topSegments (bins : Vector Nat 17) : Option (Fin 16 × Fin 16) :=
  match largestBin bins (List.finRange 16) with
  | none => none
  | some g => (largestBin bins ((List.finRange 16).filter (· ≠ g))).map (fun h => (g, h))

/-- The segment mask the intermittent test gives: its segments, the lower first (R140). -/
def intermittentMask (e : Evidence) : Option (List (Fin 16)) :=
  match topSegments e.bins with
  | none => none
  | some (g, h) =>
    if e.errors * 3 ≤ (e.bins[binOf (some g)] + e.bins[binOf (some h)]) * 4 then
      some ((List.finRange 16).filter (fun k => (k = g || k = h) && 0 < e.bins[binOf (some k)]))
    else none

/-- The segment an auto-sweep takes: that of bin1 when the record is INTERMITTENT (R141). -/
def autoSweepSegment (e : Evidence) : Segment :=
  match intermittentMask e, topSegments e.bins with
  | some _, some (g, _) => some g
  | _, _ => none

/-- A port judged above threshold (R139). -/
def State.judgeAbove (s : State) (p : Port) : State :=
  let e := s.monitor.ports[p]
  let sub := s.submitEvidence p .dataErrors .suspect
  let counted := sub.1.setEvidence p (fun e => { e with above := satAdd 255 e.above 1, quiet := 0 })
  match counted.table.standing p .dataErrors with
  | none => counted
  | some i =>
    let confirmed :=
      if counted.settings.confirmWindows ≤ counted.monitor.ports[p].above then counted.confirmBreak i else counted
    let masked := confirmed.setBreak i (fun r => { r with mask := intermittentMask e })
    match sub.2 with
    | .created _ => if (s.profileOf p).autoSweep then masked.autoSweep p (autoSweepSegment e) else masked
    | _ => masked

/-- A port judged quiet (R142). -/
def State.judgeQuiet (s : State) (p : Port) : State :=
  let t := s.setEvidence p (fun e => { e with above := 0, quiet := satAdd 255 e.quiet 1 })
  if 6 ≤ t.monitor.ports[p].quiet then
    match t.table.records.findIdx? (fun r => r.port = p && r.kind = .dataErrors && r.state = .suspect) with
    | some i => State.clearBreak i t
    | none => t
  else t

/-- One port judged at a window close, its window count and bins then set to 0 (R138). -/
def State.judgePort (p : Port) (s : State) : State :=
  (if s.settings.suspectThreshold ≤ s.monitor.ports[p].errors then s.judgeAbove p else s.judgeQuiet p).setEvidence p
    (fun e => { e with errors := 0, bins := Vector.replicate 17 0 })

/-- A new evidence window of W seconds begins now (R138, R152). -/
def State.beginWindow (s : State) : State :=
  { s with monitor := { s.monitor with
      windowStart := s.clock, windowEnd := s.clock + s.settings.windowSeconds * 1000000 } }

end Sys2Proof.Machine
end

