-- ==== Sys2Proof/Machine/StoreBase.lean ====
section
/-!
DEFINITION. The FRAME STORE's records and buffers (R78 to R82, R93): looking a frame up, moving its buffer from state to
state, opening a frame, and freeing one.
-/

namespace Sys2Proof.Machine

/-- The frame record that an id names (R80). -/
def Store.frame? (t : Store) (id : Nat) : Option FrameRecord := t.frames.find? (fun f => f.id = id)

/-- The store changed. -/
def State.setStore (s : State) (f : Store → Store) : State := { s with store := f s.store }

/-- The record that an id names, changed by `f`. -/
def Store.setFrame (t : Store) (id : Nat) (f : FrameRecord → FrameRecord) : Store :=
  { t with frames := t.frames.map (fun r => if r.id = id then f r else r) }

/-- The buffer of the frame that an id names goes to a state other than FREE. -/
def Store.move (t : Store) (id : Nat) (st : BufferState) : Store :=
  match t.frame? id with
  | none => t
  | some f => { t with buffers := upd t.buffers f.buffer (fun _ => st) }

/-- The state of the buffer of the frame that an id names. -/
def Store.stateOf (t : Store) (id : Nat) : Option BufferState := (t.frame? id).map (fun f => t.buffers[f.buffer])

/-- The frame that an id names is freed: its record is discarded, it leaves the held set, and its buffer becomes FREE and
joins the free list at its tail (R78, R79). -/
def Store.free (t : Store) (id : Nat) : Store :=
  match t.frame? id with
  | none => t
  | some f =>
    { t with
      buffers := upd t.buffers f.buffer (fun _ => .free)
      frames := t.frames.filter (fun r => r.id ≠ id)
      freeList := t.freeList ++ [f.buffer]
      heldSet := t.heldSet.filter (· ≠ id) }

/-- The frame id counter one higher, wrapping from 4,294,967,295 to 0 (R80). -/
def nextFrameId (n : Nat) : Nat := if 4294967295 ≤ n then 0 else n + 1

/-- The next id: the counter rises by 1, and again past each value that names a frame record (R80). -/
def freshFrameId (frames : List FrameRecord) : Nat → Nat → Nat
  | 0, n => nextFrameId n
  | fuel + 1, n =>
    if frames.any (fun f => f.id = nextFrameId n) then freshFrameId frames fuel (nextFrameId n) else nextFrameId n

/-- The id that the store gives next (R80): at most 48 values name a record. -/
def Store.newId (t : Store) : Nat := freshFrameId t.frames t.frames.length t.idCounter

/-- A lane's request to open a frame (R82), all but the buffer and the id that the store gives. -/
structure OpenRequest where
  port : Port
  slot : Fin 4
  cycle : Nat
  position : Nat
  triggerTime : Time
  width : Nat
  height : Nat
  depth : Nat
  flags : FrameFlags
deriving DecidableEq, Repr

/-- A frame is opened in the buffer at the head of the free list, under a new id (R82); none when the list is empty. -/
def Store.openFrame (t : Store) (q : OpenRequest) (hold : Bool) : Option (Store × Fin 48 × Nat) :=
  match t.freeList with
  | [] => none
  | b :: rest =>
    let id := t.newId
    some ({ t with
      buffers := upd t.buffers b (fun _ => .filling)
      freeList := rest
      idCounter := id
      frames := t.frames ++ [⟨id, b, q.port, q.slot, q.cycle, q.position, q.triggerTime, q.width, q.height, q.depth, none,
        q.flags, hold, false, none⟩] }, b, id)

/-- A frame record and its buffer are discarded with no route taken: the frame was in reception when its lane was told
to drop it. It is freed (R45, R78). -/
def State.freeFrame (s : State) (id : Nat) : State := s.setStore (·.free id)

end Sys2Proof.Machine
end

