-- ==== Sys2Proof/Machine/UplinkOps.lean ====
section
/-!
DEFINITION. The UPLINK TRANSMITTER's operations (chapter 5): its packets (R103), its send choice (R104), credits and
waits (R102), the end of an item, and the link going down and up (R99 to R101, R109).
-/

namespace Sys2Proof.Machine

/-- The transmitter changed. -/
def State.setUplink (s : State) (f : Uplink → Uplink) : State := { s with uplink := f s.uplink }

/-- One of the transmitter's counts changed. -/
def State.uplinkCount (s : State) (f : UplinkCounts → UplinkCounts) : State :=
  s.setUplink (fun u => { u with counts := f u.counts })

/-! ## The lines of an item (R103, R107) -/

/-- The number of lines in a group of a mode. -/
def RegionMode.group : RegionMode → Nat
  | .linear => 1
  | .group16 => 16
  | .group64 => 64

/-- The number of lines a region sends (R107). -/
def RegionEntry.lines (e : RegionEntry) : Nat :=
  match e.mode with
  | .linear => e.count.getD 0
  | .group16 => 16
  | .group64 => 64

/-- The line at a place of a region's line order, in a frame of this height (R107). -/
def RegionEntry.lineAt (e : RegionEntry) (height place : Nat) : Nat :=
  match e.mode with
  | .linear => (e.start + place) % height
  | m => e.start / m.group * m.group + (e.start % m.group + place) % m.group

/-- The number of lines an item sends. -/
def ItemKind.lines (k : ItemKind) (height : Nat) : Nat :=
  match k with
  | .frame => height
  | .region e => e.lines

/-- The line at a place of an item's line order. -/
def ItemKind.lineAt (k : ItemKind) (height place : Nat) : Nat :=
  match k with
  | .frame => place
  | .region e => e.lineAt height place

/-! ## Packets (section 5.2) -/

/-- A HEADER: the frame record as it stands. -/
def headerPacket (f : FrameRecord) : List Byte :=
  withCrc16 (0xC1 :: (num4 f.id ++ num1 f.port.val ++ num1 f.slot.val ++ num8 f.cycle ++ num1 f.position ++
    num8 f.triggerTime ++ num2 f.width ++ num2 f.height ++ num1 f.depth ++ num2 (flagsNum f.flags) ++
    num2 (f.mean.getD 0xFFFF) ++ flagByte f.heldPlace ++
    num1 (f.members.getD []).length ++ ((f.members.getD []).map num4).flatten))

/-- A REGION_HEADER: the region entry and the frame's geometry and flags. -/
def regionHeaderPacket (e : RegionEntry) (f : FrameRecord) : List Byte :=
  withCrc16 (0xC4 :: (num4 f.id ++ num2 e.number ++ num1 f.port.val ++ num1 e.mode.code ++ num2 e.start ++
    num2 e.lines ++ num2 f.width ++ num2 f.height ++ num1 f.depth ++ num2 (flagsNum f.flags)))

/-- A LINE: the frame id, the line's number and its stored pixels. -/
def linePacket (id number : Nat) (pixels : List Byte) : List Byte :=
  withCrc16 (0xC2 :: (num4 id ++ num2 number ++ pixels))

/-- A TRAILER: the flags, the number of LINE packets sent and their line CRC-32. -/
def trailerPacket (id : Nat) (flags : FrameFlags) (sent : Nat) (crc : BitVec 32) : List Byte :=
  withCrc16 (0xC3 :: (num4 id ++ num2 (flagsNum flags) ++ num2 sent ++ num4 (crc32Final crc).toNat))

/-- The pixel bytes of a LINE packet: all but the type byte, the frame id, the line number and the check. -/
def linePixels (packet : List Byte) : List Byte := (packet.drop 7).take (packet.length - 9)

/-- The next packet of an item of a frame, and what follows it (R103). -/
def nextPacket (dram : List Host.Cell) (i : Item) (f : FrameRecord) : Packet × ItemNext :=
  let after := fun place => if place < i.kind.lines f.height then ItemNext.line place else .trailer
  match i.next with
  | .header =>
    (⟨.header, match i.kind with
      | .frame => headerPacket f
      | .region e => regionHeaderPacket e f⟩, after 0)
  | .line place =>
    let number := i.kind.lineAt f.height place
    (⟨.line, linePacket f.id number (Memory.readLine dram f.buffer f.width number)⟩, after (place + 1))
  | .trailer => (⟨.trailer, trailerPacket f.id f.flags i.sent i.crc⟩, .trailer)

/-! ## Beginning a packet (R102) -/

/-- The packet waits for a credit: the wait is counted at its start. -/
def State.creditWait (s : State) : State :=
  if s.uplink.waiting then s
  else s.setUplink (fun u => { u with
    waiting := true, counts := { u.counts with creditWaits := sat32 u.counts.creditWaits } })

/-- A packet begins: it costs one credit. -/
def Uplink.begin (u : Uplink) (p : Packet) : Uplink :=
  { u with packet := some p, credits := u.credits - 1, waiting := false }

/-- With the link UP and no packet under way, the next packet begins if there is one to send: the pending trailer (R114),
or that of the item in flight. With no credit it waits (R102). -/
def State.beginPacket (s : State) : State :=
  if !s.uplink.up || s.uplink.packet.isSome then s
  else match s.uplink.trailer with
    | some t =>
      if s.uplink.credits = 0 then s.creditWait
      else s.setUplink (fun u => u.begin ⟨.pendingTrailer, trailerPacket t.frame t.flags t.sent t.crc⟩)
    | none =>
      match s.uplink.item with
      | none => s
      | some i =>
        match s.store.frame? i.frame with
        | none => s
        | some f =>
          if s.uplink.credits = 0 then s.creditWait
          else
            let n := nextPacket s.dram i f
            s.setUplink (fun u => { u.begin n.1 with item := some { i with next := n.2 } })

/-! ## The send choice (R104, R105, R108) -/

/-- The store begins the send of the frame at the head of the output queue: it leaves the queue, its buffer goes to
SENDING, and a frame whose hold is set takes a held place, or the flag NOT_HELD when eight are taken (R93, R105). -/
def Store.beginSend (t : Store) (id : Nat) (rest : List Nat) (f : FrameRecord) : Store :=
  let moved := ({ t with outputQueue := rest }).move id .sending
  if f.hold then
    if moved.heldSet.length < 8 then
      { moved.setFrame id (fun r => { r with heldPlace := true }) with heldSet := moved.heldSet ++ [id] }
    else moved.setFrame id (fun r => { r with flags := { r.flags with notHeld := true } })
  else moved

/-- The send choice (R104), followed by the item's first packet. -/
def State.sendChoice (s : State) : State :=
  if !s.uplink.up || s.uplink.item.isSome || s.uplink.trailer.isSome || s.uplink.packet.isSome then s
  else match s.uplink.regions with
    | e :: rest =>
      (s.setUplink (fun u => { u with
        regions := rest, item := some ⟨.region e, e.frame, .header, 0, crc32Init⟩ })).beginPacket
    | [] =>
      match s.store.outputQueue with
      | [] => s
      | id :: rest =>
        match s.store.frame? id with
        | none => s
        | some f =>
          ((s.setStore (·.beginSend id rest f)).setUplink (fun u => { u with
            item := some ⟨.frame, id, .header, 0, crc32Init⟩ })).beginPacket

/-- What the transmitter does next, between packets: the next packet of what it is sending, or its send choice. -/
def State.uplinkNext (s : State) : State :=
  if s.uplink.item.isSome || s.uplink.trailer.isSome then s.beginPacket else s.sendChoice

/-! ## The end of an item (R93, R105, R108, R109) -/

/-- The frame's send has ended or was stopped: its buffer goes to HELD with its held place, or is freed (R93). -/
def Store.endSend (t : Store) (id : Nat) : Store :=
  match t.frame? id with
  | none => t
  | some f => if f.heldPlace then t.move id .held else t.free id

/-- The item in flight ends after its TRAILER. -/
def State.endItem (s : State) (i : Item) : State :=
  let t := s.setUplink (fun u => { u with item := none })
  match i.kind with
  | .frame => (t.uplinkCount (fun c => { c with framesSent := sat32 c.framesSent })).setStore (·.endSend i.frame)
  | .region _ => t.uplinkCount (fun c => { c with regionsSent := sat32 c.regionsSent })

/-- The packet under way has been sent (R103): a LINE is counted and joins the line CRC-32, a TRAILER ends its item.
DESIGN CHOICE: a packet that a cell reset left without its item counts nothing (R114, notes/assumptions/60.md). -/
def State.packetEnded (s : State) (p : Packet) : State :=
  let t := s.setUplink (fun u => { u with packet := none })
  match p.kind with
  | .header => t
  | .orphan => t
  | .line =>
    t.setUplink (fun u => { u with
      item := u.item.map (fun i => { i with sent := i.sent + 1, crc := crc32Feed i.crc (linePixels p.bytes) }) })
  | .trailer =>
    match t.uplink.item with
    | none => t
    | some i => t.endItem i
  | .pendingTrailer =>
    (t.setUplink (fun u => { u with trailer := none })).uplinkCount
      (fun c => { c with abortedTrailers := sat32 c.abortedTrailers })

/-! ## The link (R99 to R101, R109, R111) -/

/-- Credits added to a count of credits, cut at 4,096 (R100, R102). -/
def addCredits (credits grant : Nat) : Nat := min 4096 (credits + grant)

/-- A handshake completes (R100), all but the send choice. -/
def State.linkUp (s : State) (grant : Nat) : State :=
  (s.setUplink (fun u => { u with
    up := true
    since := s.clock
    credits := addCredits 0 grant
    lastGoodWord := s.clock
    counts := { u.counts with
      handshakes := sat32 u.counts.handshakes
      discardedCredits := satAdd 4294967295 u.counts.discardedCredits (grant - 4096) } })).post none
    (.uplinkState true .handshake (addCredits 0 grant) none)

/-- The item that a link down stops, as the notice carries it (R111). -/
def State.stoppedItem (s : State) : Option StoppedItem :=
  s.uplink.item.map (fun i => {
    kind := i.kind
    frame := i.frame
    sent := i.sent
    held := match i.kind with
      | .frame => some ((s.store.frame? i.frame).any (·.heldPlace))
      | .region _ => none })

/-- The store's part of a link down: a frame in flight goes to HELD or FREE (R109). -/
def State.stopFrame (s : State) : State :=
  match s.uplink.item with
  | some ⟨.frame, id, _, _, _⟩ => s.setStore (·.endSend id)
  | _ => s

/-- The counts of a link down (R101, R109). -/
def UplinkCounts.down (c : UplinkCounts) (item : Option Item) : UplinkCounts :=
  let d := { c with downs := sat32 c.downs }
  match item with
  | none => d
  | some ⟨.frame, _, _, _, _⟩ => { d with framesLost := sat32 d.framesLost }
  | some ⟨.region _, _, _, _, _⟩ => { d with regionsLost := sat32 d.regionsLost }

/-- The link goes DOWN (R101, R109): the credits are lost, the item in flight is stopped and a pending trailer is
discarded. -/
def State.linkDown (s : State) (cause : UplinkCause) : State :=
  (s.stopFrame.setUplink (fun u => { u with
    up := false
    since := s.clock
    credits := 0
    item := none
    trailer := none
    packet := none
    waiting := false
    counts := u.counts.down u.item })).post none (.uplinkState false cause 0 s.stoppedItem)

end Sys2Proof.Machine
end

