-- ==== Sys2Proof/Machine/StoreOps.lean ====
section
/-!
DEFINITION. The FRAME STORE and the COMBINE ENGINE (chapter 4): the output queue (R92), combine groups (R84 to R87), the
combine queue (R88 to R90), openings and drops (R82) and the hand-over (R83).
-/

namespace Sys2Proof.Machine

/-- A frame joins the output queue at its tail, its buffer going to QUEUED; an idle transmitter makes its send choice
(R92, R104). -/
def State.joinOutput (id : Nat) (s : State) : State :=
  (s.setStore (fun t => { t.move id .queued with outputQueue := t.outputQueue ++ [id] })).sendChoice

/-- Frames go to the output queue in order, flagged UNCOMBINED (R81, R86). -/
def State.sendUncombined : List Nat → State → State
  | [], s => s
  | id :: ids, s =>
    State.sendUncombined ids ((s.setStore (fun t =>
      t.setFrame id (fun r => { r with flags := { r.flags with uncombined := true } }))).joinOutput id)

/-! ## Groups (R84 to R87) -/

/-- Whether a sign is PLUS or MINUS. -/
def Sign.signed : Sign → Bool
  | .none => false
  | _ => true

/-- The combine sign of a slot of the loaded plan at a position (R83). -/
def Sequencer.signAt (q : Sequencer) (slot : Fin 4) (position : Nat) : Sign :=
  match q.slot? slot with
  | none => .none
  | some k => (k.signs[position]?).getD .none

/-- The pass of a cycle (R84). -/
def Sequencer.passOf (q : Sequencer) (cycle : Nat) : Nat :=
  match q.plan with
  | none => cycle
  | some p => cycle / p.length

/-- Whether a position is signed. -/
def Group.isSigned (g : Group) (i : Nat) : Bool := ((g.signs[i]?).getD .none).signed

/-- Whether a position is the last signed position (R84). -/
def Group.isLast (g : Group) (i : Nat) : Bool :=
  g.isSigned i && (List.range 8).all (fun j => j ≤ i || !g.isSigned j)

/-- The ids of the members present, in order of position. -/
def Group.present (g : Group) : List Nat := g.places.toList.filterMap id

/-- The members with their signs, in order of position. -/
def Group.members (g : Group) : List (Sign × Nat) :=
  (List.finRange 8).filterMap (fun i => g.places[i].map (fun id => ((g.signs[i.val]?).getD .none, id)))

/-- Whether every signed position has its member. -/
def Group.full (g : Group) : Bool := (List.finRange 8).all (fun i => !g.isSigned i.val || g.places[i].isSome)

/-- The group with a frame in a place. -/
def Group.place (g : Group) (position id : Nat) : Group :=
  if h : position < 8 then { g with places := g.places.set position (some id) } else g

/-- The group of a slot and port, if one is held. -/
def Store.group? (t : Store) (slot : Fin 4) (p : Port) : Option Group :=
  t.groups.find? (fun g => g.slot = slot && g.port = p)

/-- The groups without that of a slot and port. -/
def Store.dropGroup (t : Store) (slot : Fin 4) (p : Port) : Store :=
  { t with groups := t.groups.filter (fun g => !(g.slot = slot && g.port = p)) }

/-- A group held in place of any other of its slot and port. -/
def Store.holdGroup (t : Store) (g : Group) : Store :=
  { t.dropGroup g.slot g.port with groups := (t.dropGroup g.slot g.port).groups ++ [g] }

/-- A group is abandoned (R86): its members go out UNCOMBINED and the abandoned count rises. -/
def State.abandon (s : State) (g : Group) : State :=
  State.sendUncombined g.present (s.setStore (fun t => { t with abandoned := sat32 t.abandoned }))

/-- The group a report is for (R84): that of its pass, ending an older one, or a new OPEN group. -/
def State.groupFor (s : State) (slot : Fin 4) (p : Port) (cycle : Nat) : State × Group :=
  let pass := s.seq.passOf cycle
  let fresh : Group :=
    ⟨slot, p, pass, false, match s.seq.slot? slot with
      | none => []
      | some k => k.signs, Vector.replicate 8 none⟩
  match s.store.group? slot p with
  | none => (s, fresh)
  | some g =>
    if g.pass = pass then (s, g)
    else
      let t := s.setStore (·.dropGroup slot p)
      (if g.broken then t else t.abandon g, fresh)

/-- A loss breaks the group of its pass (R86): `member` is a member handed over truncated. -/
def State.reportLoss (s : State) (slot : Fin 4) (p : Port) (cycle position : Nat) (member : Option Nat) : State :=
  let r := s.groupFor slot p cycle
  let g := match member with
    | none => r.2
    | some id => r.2.place position id
  let out :=
    if r.2.broken then State.sendUncombined (match member with
      | none => []
      | some id => [id]) r.1
    else r.1.abandon g
  out.setStore (fun t =>
    if g.isLast position then t.dropGroup slot p
    else t.holdGroup { g with broken := true, places := Vector.replicate 8 none })

/-- An absence of a signed position is told (R84): told once the plan has ended it changes nothing. -/
def State.reportAbsence (s : State) (slot : Fin 4) (p : Port) (cycle position : Nat) : State :=
  if s.seq.state.inService && (s.seq.signAt slot position).signed then s.reportLoss slot p cycle position none else s

/-! ## The combine queue and the COMBINE ENGINE (R88 to R90) -/

/-- How long a combine lasts (R88): 1 ms for each started 4 MiB of member data. -/
def combineTime (members width height : Nat) : Time := 1000 * max 1 (ceilDiv (members * width * height * 2) 4194304)

/-- The buffers of some members go to COMBINING. -/
def Store.combining (t : Store) : List (Sign × Nat) → Store
  | [] => t
  | m :: ms => Store.combining (t.move m.2 .combining) ms

/-- The idle engine takes the group at the head of the combine queue (R88). -/
def State.takeCombine (s : State) : State :=
  match s.store.combine, s.store.combineQueue with
  | none, g :: rest =>
    let size := match (g.present.head?).bind s.store.frame? with
      | none => (0, 0)
      | some f => (f.width, f.height)
    s.setStore (fun t =>
      { t.combining g.members with
        combineQueue := rest
        combine := some ⟨g.slot, g.port, g.members, s.clock, s.clock + combineTime g.members.length size.1 size.2⟩ })
  | _, _ => s

/-- A complete group joins the combine queue, or is abandoned when that holds 32 (R88). -/
def State.joinCombine (s : State) (g : Group) : State :=
  if s.store.combineQueue.length < 32 then
    (s.setStore (fun t => { t with combineQueue := t.combineQueue ++ [g] })).takeCombine
  else (s.setStore (fun t => { t with overflows := sat32 t.overflows })).abandon g

/-- A whole frame is handed over for its group (R85). -/
def State.joinGroup (s : State) (f : FrameRecord) : State :=
  let r := s.groupFor f.slot f.port f.cycle
  if r.2.broken then
    let out := State.sendUncombined [f.id] r.1
    if r.2.isLast f.position then out.setStore (·.dropGroup f.slot f.port) else out
  else
    let g := r.2.place f.position f.id
    let grouped := r.1.setStore (·.move f.id .grouped)
    if g.isLast f.position then
      let left := grouped.setStore (·.dropGroup f.slot f.port)
      if g.full then left.joinCombine g else left.abandon g
    else grouped.setStore (·.holdGroup g)

/-- The result record of a combine (R90), in place of the first member's record. -/
def combineResult (first : FrameRecord) (members : List FrameRecord) (id : Nat) : FrameRecord :=
  { first with
    id := id
    mean := none
    flags := combinedFlags (members.map (·.flags))
    hold := members.any (·.hold)
    members := some (members.map (·.id)) }

/-- Frames are freed in order. -/
def Store.freeAll (t : Store) : List Nat → Store
  | [] => t
  | id :: ids => Store.freeAll (t.free id) ids

/-- The combine in progress completes (R90), and the engine takes the next group. -/
def State.completeCombine (s : State) (c : Combine) : State :=
  let records := c.members.filterMap (fun m => s.store.frame? m.2)
  let signed := c.members.filterMap (fun m => (s.store.frame? m.2).map (fun f => (m.1, f.buffer)))
  match records with
  | [] => (s.setStore (fun t => { t with combine := none })).takeCombine
  | first :: others =>
    let id := s.store.newId
    let written := { s with dram := Memory.combine first.buffer signed first.depth (first.width * first.height) s.dram }
    (((written.setStore (fun t =>
      { (t.setFrame first.id (fun _ => combineResult first records id)) with
        idCounter := id
        combine := none
        combinesDone := sat32 t.combinesDone })).joinOutput id).setStore
      (·.freeAll (others.map (·.id)))).takeCombine

/-! ## The end of the plan (R87) -/

/-- Each slot and port, in order of slot and then of port. -/
def slotPorts : List (Fin 4 × Port) :=
  ([0, 1, 2, 3] : List (Fin 4)).flatMap (fun k => allPorts.map (fun p => (k, p)))

/-- The group of each slot and port of a list ends: an OPEN group is abandoned. -/
def State.endGroups : List (Fin 4 × Port) → State → State
  | [], s => s
  | (k, p) :: rest, s =>
    State.endGroups rest (match s.store.group? k p with
      | none => s
      | some g =>
        let t := s.setStore (·.dropGroup k p)
        if g.broken then t else t.abandon g)

/-- The store is told that the plan has ended (R87). -/
def State.storePlanEnded (s : State) : State :=
  (State.endGroups slotPorts s).setStore (fun t => { t with notified := Vector.replicate 8 none })

/-! ## Openings and drops (R82) -/

/-- Whether a frame's record takes its hold at the opening (R81). -/
def State.slotHold (s : State) (slot : Fin 4) : Bool :=
  match s.seq.slot? slot with
  | none => false
  | some k => k.hold

/-- A frame is dropped for want of a buffer (R82). -/
def State.dropFrame (s : State) (q : OpenRequest) : State :=
  let member := (s.seq.signAt q.slot q.position).signed
  let t := s.setStore (fun t => { t with drops := upd t.drops q.port sat32 })
  let told :=
    if t.store.notified[q.port] = some q.cycle then t
    else (t.setStore (fun u => { u with notified := upd u.notified q.port (fun _ => some q.cycle) })).post (some q.port)
      (.frameDropped q.slot q.cycle q.position member t.store.drops[q.port])
  told.reportAbsence q.slot q.port q.cycle q.position

/-! ## The hand-over (R83) -/

/-- The hand-over of a closed frame (R83): CABLE_SUSPECT is set from the break table, and the frame is routed. -/
def State.handOver (s : State) (id : Nat) : State :=
  match s.store.frame? id with
  | none => s
  | some f0 =>
    let f := if s.table.suspects f0.port then { f0 with flags := { f0.flags with cableSuspect := true } } else f0
    let t := s.setStore (·.setFrame id (fun _ => f))
    if (t.seq.signAt f.slot f.position).signed then
      if t.seq.state.inService then
        if f.flags.truncated || f.flags.aborted then t.reportLoss f.slot f.port f.cycle f.position (some id)
        else t.joinGroup f
      else State.sendUncombined [id] t
    else t.joinOutput id

end Sys2Proof.Machine
end

