-- ==== Sys2Proof/Machine/LaneOps.lean ====
section
/-!
DEFINITION. Reception at a lane (R39 to R47): triggers and their windows, the lines of a frame, and the close of a frame
with its ambient check (R71, R72) and hand-over.
-/

namespace Sys2Proof.Machine

/-- A data error at a lane (R47): it joins the lane's data-error count and is passed to the monitor. -/
def State.laneDataError (s : State) (p : Port) : State :=
  (s.laneCount p (fun c => { c with dataErrors := sat32 c.dataErrors })).dataError p

/-! ## The ambient check (R71, R72) -/

/-- The number of high dark frames that an ambient limit waits for. -/
def AmbientLimit.count : AmbientLimit → Option Nat
  | .off => none
  | .one => some 1
  | .eight => some 8
  | .thirtyTwo => some 32

/-- Whether the ambient check applies to a frame of a slot, position and truncation on a port (R71). -/
def State.ambientApplies (s : State) (p : Port) (slot : Fin 4) (position : Nat) (truncated : Bool) : Bool :=
  match s.seq.slot? slot with
  | none => false
  | some k => 0 < k.used && k.fire[position]? = some false && (s.profileOf p).ambientLimit != .off && !truncated

/-- One more high dark frame on a port (R72): the count, or its AMBIENT notice. -/
def State.ambientHigh (s : State) (p : Port) (slot : Fin 4) (cycle mean : Nat) : State :=
  let f := s.profileOf p
  let n := s.seq.exceed[p] + 1
  let set := fun (v : Nat) => { s with seq := { s.seq with exceed := upd s.seq.exceed p (fun _ => v) } }
  match f.ambientLimit.count with
  | none => s
  | some limit =>
    if limit ≤ n then (set 0).post (some p) (.ambient slot cycle mean f.ambientThreshold f.ambientLimit)
    else set n

/-- The sequencer's ambient check of a frame that closes (R71): the state and the frame's flags after it. -/
def State.ambientCheck (s : State) (p : Port) (f : RxFrame) (flags : FrameFlags) (mean : Nat) : State × FrameFlags :=
  if s.ambientApplies p f.slot f.position flags.truncated && (s.profileOf p).ambientThreshold < mean then
    (s.ambientHigh p f.slot f.cycle mean, { flags with ambientHigh := true })
  else (s, flags)

/-! ## The close of a frame (R45) -/

/-- The lines of a frame's height that are not stored. -/
def RxFrame.missing (f : RxFrame) : List Nat := (List.range f.height).filter (fun k => !f.stored.contains k)

/-- The ambient mean of a frame (R46). -/
def RxFrame.mean (f : RxFrame) : Nat := f.pixelSum / (f.width * f.height)

/-- A frame in reception is closed (R45): its missing lines are filled with 0, its mean is computed and checked, and its
record is handed over and leaves the lane. `cut` flags what the cause of the close flags; a filled line flags
TRUNCATED. DESIGN CHOICE: the store's record takes the lane's flags here, LINE_ERRORS among them, and not at the line that
sets it (R81, notes/assumptions/87.md). -/
def State.closeFrame (s : State) (p : Port) (f : RxFrame) (cut : FrameFlags → FrameFlags) : State :=
  let flags := cut { f.flags with truncated := f.flags.truncated || !f.missing.isEmpty }
  let filled := { s with dram := Memory.fillLines s.dram f.buffer f.width f.missing }
  let counted := filled.setLane p (fun l => { l with
    lastMean := f.mean, counts := { l.counts with closed := sat32 l.counts.closed } })
  let checked := counted.ambientCheck p f flags f.mean
  ((checked.1.setStore (fun t => t.setFrame f.id (fun r => { r with
    mean := some f.mean, flags := checked.2 }))).handOver f.id).setLane p (fun l => { l with frame := none })

/-- A cut of the frame flags it TRUNCATED (R45). -/
def cutTruncated (f : FrameFlags) : FrameFlags := { f with truncated := true }

/-- A cut of the frame by PLAN_ABORT flags it TRUNCATED and ABORTED (R45). -/
def cutAborted (f : FrameFlags) : FrameFlags := { f with truncated := true, aborted := true }

/-! ## The close of a window (R40, R43 to R45) -/

/-- The reception window of a port closes, and its cycle holds it no longer (R40, R65). -/
def State.closeWindow (s : State) (p : Port) : State :=
  match s.lanes[p].window with
  | none => s
  | some w =>
    let t := s.setLane p (fun l => { l with window := none })
    { t with seq := { t.seq with current := t.seq.current.map (fun c =>
        if c.number = w.cycle then { c with windows := c.windows.filter (fun o => o ≠ (w.slot, p)) } else c) } }

/-- The window of a port closes at its deadline (R44). -/
def State.deadlineClose (s : State) (p : Port) : State :=
  match s.lanes[p].window with
  | none => s
  | some w =>
    (match w.rx with
     | .awaitingStart =>
       (s.laneCount p (fun c => { c with noStart := sat32 c.noStart })).reportAbsence w.slot p w.cycle w.position
     | .dropped => s
     | .receiving =>
       match s.lanes[p].frame with
       | none => s
       | some f =>
         (if f.missing.isEmpty then s
          else s.laneCount p (fun c => { c with deadlineTruncations := sat32 c.deadlineTruncations })).closeFrame
          p f id).closeWindow p

/-- The window of a port is cut short by its port leaving ON or by PLAN_ABORT (R45). -/
def State.cutWindow (s : State) (p : Port) (cut : FrameFlags → FrameFlags) : State :=
  match s.lanes[p].window with
  | none => s
  | some w =>
    (match w.rx with
     | .awaitingStart => s.reportAbsence w.slot p w.cycle w.position
     | .dropped => s
     | .receiving =>
       match s.lanes[p].frame with
       | none => s
       | some f => s.closeFrame p f cut).closeWindow p

/-- The exposure window of a port closes (R40). -/
def State.closeExposure (s : State) (p : Port) : State := s.setLane p (fun l => { l with exposure := none })

/-- The lane goes DOWN because its port left ON (R32): its windows close, and a LANE_STATE notice tells it unless it was
DOWN already (R36). -/
def State.laneGoesDown (s : State) (p : Port) : State :=
  let prev := s.lanes[p].state
  let t := (s.cutWindow p cutTruncated).closeExposure p
  let d := t.setLane p (fun l => { l with deadlineAt := none, retryAt := none, retrainAt := none })
  if prev = .down then d else (d.laneEnters p .down).laneNotice p prev .portOff

/-! ## Triggers (R39) -/

/-- The sequencer's request for a trigger (R39, R64). -/
structure TriggerRequest where
  exposure : Nat
  pulses : Nat
  firstPulse : Nat
  pulseWidth : Nat
  pulsePeriod : Nat
  slot : Fin 4
  cycle : Nat
  position : Nat
  flags : FrameFlags
deriving DecidableEq, Repr

/-- The TRIGGER packet of the back-channel (section 2.3). -/
def triggerPacket (tag : Byte) (q : TriggerRequest) : List Byte :=
  withCrc16 (0x51 :: tag :: (numBytes 3 q.exposure ++ num1 q.pulses ++ numBytes 3 q.firstPulse ++ num2 q.pulseWidth ++
    num2 q.pulsePeriod))

/-- The strobe interval of a trigger sent at a time (R39). -/
def strobeInterval (t : Time) (q : TriggerRequest) : Time × Time :=
  (t + q.firstPulse, t + q.firstPulse + (q.pulses - 1) * q.pulsePeriod + q.pulseWidth)

/-- A port's strobe intervals with one more, those already ended left out. -/
def PortPower.addStrobe (w : PortPower) (now : Time) (i : Time × Time) : PortPower :=
  { w with strobes := w.strobes.filter (fun j => now ≤ j.2) ++ [i] }

/-- The trigger is sent (R39): the tag rises, both windows open, and the switch is given the strobe interval. DESIGN
CHOICE: an exposure window still open gives way to the new one without a close of its own (R40, R52,
notes/assumptions/78.md). -/
def State.trigger (s : State) (p : Port) (q : TriggerRequest) : State :=
  let tag := s.lanes[p].tag + 1
  let exposureEnd := s.clock + q.exposure
  let t := s.setLane p (fun l => { l with
    tag := tag
    backChannel := triggerPacket tag q
    exposure := some ⟨exposureEnd, q.slot, q.cycle⟩
    window := some {
      tag := tag
      sendTime := s.clock
      exposureEnd := exposureEnd
      deadline := exposureEnd + (s.profileOf p).readout + 2000
      slot := q.slot
      cycle := q.cycle
      position := q.position
      flags := q.flags
      rx := .awaitingStart } })
  if 0 < q.pulses then t.setPower p (fun w => w.addStrobe s.clock (strobeInterval s.clock q)) else t

/-- The lane takes a request for a trigger (R39): whether it was sent. A window still open closes first, as at its
deadline. -/
def State.sendTrigger (s : State) (p : Port) (q : TriggerRequest) : State × Bool :=
  if s.lanes[p].state = .locked then ((s.deadlineClose p).trigger p q, true) else (s, false)

/-! ## Lines (R42) -/

/-- The pixel values that bytes carry at a depth: one byte each at depth 8, otherwise two, most significant first. -/
def pixelValues (depth : Nat) : List Byte → List Nat
  | [] => []
  | [b] => if depth = 8 then [b.toNat] else [b.toNat * 256]
  | b :: c :: rest =>
    if depth = 8 then b.toNat :: pixelValues depth (c :: rest)
    else (b.toNat * 256 + c.toNat) :: pixelValues depth rest

/-- The pixels of a line as received: the width of them (notes/assumptions/12.md). -/
def linePixelsOf (width depth : Nat) (bytes : List Byte) : List Nat :=
  (pixelValues depth bytes).take width ++ List.replicate (width - (pixelValues depth bytes).length) 0

/-- An in-order line is stored (R42): its pixels, clamped to the full scale, its CRC-32 compared. -/
def State.storeLine (s : State) (p : Port) (f : RxFrame) (number : Nat) (bytes : List Byte) (crc : BitVec 32) : State :=
  let values := linePixelsOf f.width f.depth bytes
  let stored := values.map (fun v => min v (fullScale f.depth))
  let clamped := values.any (fun v => fullScale f.depth < v)
  let bad := crc32 bytes != crc
  let written := { s with dram := Memory.writeLine s.dram f.buffer f.width number stored }
  let framed := written.setLane p (fun l => { l with frame := some { f with
    lastLine := some number
    stored := number :: f.stored
    pixelSum := f.pixelSum + stored.sum
    flags := { f.flags with lineErrors := f.flags.lineErrors || clamped || bad } } })
  let counted :=
    if clamped then framed.laneCount p (fun c => { c with protocolErrors := sat32 c.protocolErrors }) else framed
  if bad then (counted.laneCount p (fun c => { c with crcErrors := sat32 c.crcErrors })).laneDataError p else counted

/-- Whether a line number is in order in a frame (R42). -/
def RxFrame.inOrder (f : RxFrame) (number : Nat) : Bool :=
  number < f.height &&
  (match f.lastLine with
   | none => true
   | some k => k < number)

end Sys2Proof.Machine
end

