-- ==== Sys2Proof/Machine/ClaimOps.lean ====
section
/-!
DEFINITION. Changes of a port's power state (R1, R2), the claim list and its walk (R20, R21), and the fit test and
beginning of a lens move that a grant leads to (R121 to R125).
-/

namespace Sys2Proof.Machine

/-! ## The power state (R1, R2, R4, R7) -/

/-- The switch closes or opens a power state: its timers, runs and marks on entering `new` at `now` (R2, R4, R7, R10 to
R14, R27). -/
def PortPower.enter (w : PortPower) (f : PortProfile) (now : Time) (new : PowerState) (reason : OffReason) : PortPower :=
  { w with
    state := new
    reason := reason
    presence := if new = .probing then .unseen else w.presence
    overRun := if new.reserved then w.overRun else none
    underRun := none
    overdrawSent := if new = .on then false else w.overdrawSent
    shedMark := if w.state = .off && new != .off then false else w.shedMark
    pulseEndAt := if new = .probing && f.probeEnable then some (now + 2000) else none
    probeAt := if new = .probing && f.probeEnable then some (now + f.probePeriod * 1000) else none
    rampEndAt := if new = .ramping then some (now + 20000) else none
    cooldownEndAt := if new = .cooldown then some (now + 400000) else none }

/-- A PORT_STATE notice with event STATE (R2). -/
def State.portStateNotice (s : State) (p : Port) (prev : PowerState) : State :=
  s.post (some p) (.portState .state s.power[p].state prev s.power[p].reason)

/-- The port changes its power state, with a last-off reason, and PORT_STATE tells it (R2). -/
def State.setPowerState (s : State) (p : Port) (new : PowerState) (reason : OffReason) : State :=
  (s.setPower p (fun w => w.enter (s.profileOf p) s.clock new reason)).portStateNotice p s.power[p].state

/-! ## The claim list (R20) -/

/-- A claim placed after every claim of its own or higher priority (R20). -/
def insertClaim (c : Claim) : List Claim → List Claim
  | [] => [c]
  | d :: ds => if c.priority ≤ d.priority then d :: insertClaim c ds else c :: d :: ds

/-- The claim list changed. -/
def State.setClaims (s : State) (f : List Claim → List Claim) : State :=
  { s with supply := { s.supply with claims := f s.supply.claims } }

/-- A claim joins the claim list (R20). -/
def State.joinClaim (s : State) (p : Port) (k : ClaimKind) (need : Nat) : State :=
  s.setClaims (insertClaim ⟨p, k, need, (s.profileOf p).priority, s.clock⟩)

/-- The claim of a kind of a port leaves the list. -/
def State.dropClaim (s : State) (p : Port) (k : ClaimKind) : State :=
  s.setClaims (fun cs => cs.filter (fun c => !(c.port = p && c.kind = k)))

/-! ## Estimates and the fit test (R121, R122) -/

def LensKind.hasFocus : LensKind → Bool
  | .none => false
  | _ => true

def LensKind.hasIris : LensKind → Bool
  | .focusIris | .focusIrisZoom => true
  | _ => false

def LensKind.hasZoom : LensKind → Bool
  | .focusIrisZoom => true
  | _ => false

/-- The distance between two positions. -/
def stepsApart (a b : Nat) : Nat := (a - b) + (b - a)

/-- The motion time of one axis toward a target, in ms, rounded up. -/
def axisTime (position target : Option Nat) (speed : Nat) : Nat :=
  match position, target with
  | some a, some b => ceilDiv (stepsApart a b) speed
  | _, _ => 0

/-- The motion time of one axis of a HOME: from its position, or its whole range when that is absent. -/
def homeTime (has : Bool) (position : Option Nat) (range speed : Nat) : Nat :=
  if has then ceilDiv (position.getD range) speed else 0

/-- Whether the record holds a position for every axis that a move has a target for. -/
def Axes.covers (position targets : Axes) : Bool :=
  (targets.focus.isNone || position.focus.isSome) && (targets.iris.isNone || position.iris.isSome) &&
  (targets.zoom.isNone || position.zoom.isSome)

/-- The estimated motion time of a move, in ms (R121). For a SEEK of an axis whose position is absent the spec states no
estimate: it is a free value (notes/assumptions/13.md). -/
def State.estimate (s : State) (p : Port) (m : Move) : Nat :=
  let f := s.profileOf p
  let pos := s.lenses[p].position
  match m.kind with
  | .seek =>
    if pos.covers m.targets then
      max (axisTime pos.focus m.targets.focus f.focusSpeed)
        (max (axisTime pos.iris m.targets.iris f.irisSpeed) (axisTime pos.zoom m.targets.zoom f.zoomSpeed))
    else s.freeBelow 4096
  | .home =>
    max (homeTime f.lensKind.hasFocus pos.focus 4095 f.focusSpeed)
      (max (homeTime f.lensKind.hasIris pos.iris 255 f.irisSpeed)
        (homeTime f.lensKind.hasZoom pos.zoom 4095 f.zoomSpeed))

/-- How long a move may last, in µs (R121). -/
def moveDeadline (k : MoveKind) (estimate : Nat) : Time :=
  match k with
  | .seek => (ceilDiv (estimate * 3) 2 + 20) * 1000
  | .home => 3000000

/-- The fit test (R122). -/
def State.fits (s : State) (p : Port) (m : Move) : Bool :=
  if !s.seq.state.inService || !s.seq.marks p then true
  else if s.exposing p then false
  else if s.seq.freeRun then
    match s.nextExposure p with
    | none => true
    | some t => s.clock + (s.estimate p m + m.settle) * 1000 ≤ t
  else !s.triggerPending

/-! ## Beginning a move (R123 to R125) -/

/-- A sideband write: the address byte, the command and parameters, and the check byte (section 6.4). -/
def sidebandWrite (body : List Byte) : List Byte := 0x58 :: body ++ [sumCheck (0x58 :: body)]

/-- The axis mask of a SEEK. -/
def axisMask (t : Axes) : Nat :=
  (if t.focus.isSome then 1 else 0) + (if t.iris.isSome then 2 else 0) + (if t.zoom.isSome then 4 else 0)

/-- The SEEK or FIND_HOME of a move (section 6.4). -/
def motionBytes (m : Move) : List Byte :=
  match m.kind with
  | .seek =>
    sidebandWrite (0x31 :: (num1 (axisMask m.targets) ++ num2 (m.targets.focus.getD 0) ++
      num1 (m.targets.iris.getD 0) ++ num2 (m.targets.zoom.getD 0)))
  | .home => sidebandWrite [0x32]

/-- The bytes the hub sends in a transaction of a kind other than a motion (section 6.4). -/
def txnBytes : TxnKind → List Byte
  | .stop => sidebandWrite [0x33]
  | _ => [0x58, 0x34, 0x59]

/-- Whether a lens's move waits for a window (R123): it is in WINDOW_WAIT and does not already wait to begin. -/
def Lens.waitsWindow (l : Lens) : Bool := l.stage = .windowWait && !l.toBegin

/-- The move waits for a window (R123): the wait is counted until the count stands at 8. -/
def State.windowWait (s : State) (p : Port) : State :=
  s.setLens p (fun l =>
    if l.waits < 8 then
      { l with
        stage := .windowWait, toBegin := false, waits := l.waits + 1
        counts := { l.counts with waits := sat32 l.counts.waits } }
    else { l with stage := .windowWait, toBegin := false })

/-- The pending move is begun (R125): its SEEK or FIND_HOME goes out, and it becomes the move in flight. -/
def State.beginMove (s : State) (p : Port) (m : Move) : State :=
  let estimate := s.estimate p m
  let t := s.setLens p (fun l => { l with
    state := match m.kind with
      | .seek => .moving
      | .home => .homing
    pending := none
    stage := .none
    toBegin := false
    waits := 0
    flight := some ⟨m, estimate, s.clock + moveDeadline m.kind estimate, s.clock + 10000, false, none⟩
    counts := { l.counts with begun := sat32 l.counts.begun }
    bus := { l.bus with state := .hub, txn := some ⟨.motion, 0, motionBytes m⟩ } })
  if m.kind = .seek && !s.lenses[p].position.covers m.targets then t.usedFree else t

/-- The move has its grant and has passed its tests (R124, R125): it begins on a free bus; with an exposure window open it
waits for the window's close, and with the bus taken it waits for the bus in the stage it has reached. -/
def State.beginOrWait (s : State) (p : Port) : State :=
  match s.lenses[p].pending with
  | none => s
  | some m =>
    if s.exposing p then s.windowWait p
    else if s.lenses[p].bus.state = .free then s.beginMove p m
    else s.setLens p (fun l => { l with toBegin := true })

/-- The lens claim of a port is granted (R124): the surge is committed, and the fit is tested again unless the move has
waited eight times. -/
def State.lensGranted (s : State) (p : Port) : State :=
  let t := s.setLens p (fun l => { l with claim := .granted })
  match t.lenses[p].pending with
  | none => t
  | some m => if 8 ≤ t.lenses[p].waits || t.fits p m then t.beginOrWait p else t.windowWait p

/-! ## The walk (R21) -/

/-- The head of the claim list is granted: it leaves the list, and its owner is told. -/
def State.grant (s : State) (c : Claim) (rest : List Claim) : State :=
  let t := s.setClaims (fun _ => rest)
  match c.kind with
  | .power => t.setPowerState c.port .ramping t.power[c.port].reason
  | .lens => t.lensGranted c.port

/-- Whether the walk admits a claim: the supply is not LOW, and the committed sum with its need stays within the capacity
(R21). -/
def State.admits (s : State) (c : Claim) : Bool :=
  s.supply.low.isNone && s.committed + c.need ≤ s.settings.capacity

/-- At most `n` steps of the walk. -/
def State.walkSteps : Nat → State → State
  | 0, s => s
  | n + 1, s =>
    match s.supply.claims with
    | [] => s
    | c :: rest => if s.admits c then State.walkSteps n (s.grant c rest) else s

/-- The walk of the claim list from its head (R21): a grant adds no claim, so the list's length bounds its steps. -/
def State.walk (s : State) : State := State.walkSteps s.supply.claims.length s

/-! ## Power claims (R6) -/

/-- The port raises its power claim (R6): the list is walked, and a claim not admitted leaves the port WAITING. -/
def State.raisePowerClaim (s : State) (p : Port) : State :=
  let t := (s.joinClaim p .power (s.profileOf p).baseReservation).walk
  if (t.supply.place p .power).isSome then t.setPowerState p .waiting t.power[p].reason else t

end Sys2Proof.Machine
end

