-- ==== Sys2Proof/Machine/LensOps.lean ====
section
/-!
DEFINITION. The LENS CONTROLLER and the LENS SIDEBAND MASTER (chapter 6): taking and starting a pending move (R118, R121 to
R125), the sideband bus (R125), the end of a move and entry to STALLED or FAULT (R126, R127), and the port's power going
and coming (R115).
-/

namespace Sys2Proof.Machine

/-! ## Notices and counts (R133) -/

/-- A LENS_STATE notice: the lens's state and positions as they stand, the move concerned and the fault. -/
def State.lensNotice (s : State) (p : Port) (event : LensEvent) (move : Option Move) (fault : Option LensFault) :
    State :=
  s.post (some p) (.lensState event s.lenses[p].state s.lenses[p].position move fault)

/-- One of a lens's counts changed. -/
def State.lensCount (s : State) (p : Port) (f : LensCounts → LensCounts) : State :=
  s.setLens p (fun l => { l with counts := f l.counts })

/-! ## The lens and its claim (R124, R20) -/

/-- A granted surge is released, and the list is walked (R124). -/
def State.releaseSurge (s : State) (p : Port) : State :=
  if s.lenses[p].claim = .granted then (s.setLens p (fun l => { l with claim := .none })).walk else s

/-- A standing lens claim is withdrawn, and the list is walked (R20). -/
def State.withdrawLensClaim (s : State) (p : Port) : State :=
  if s.lenses[p].claim = .standing then
    ((s.setLens p (fun l => { l with claim := .none })).dropClaim p .lens).walk
  else s

/-- The lens claim is raised (R124): its need is the lens surge, and the list is walked. -/
def State.raiseLensClaim (s : State) (p : Port) : State :=
  ((s.setLens p (fun l => { l with claim := .standing, stage := .claimWait })).joinClaim p .lens
    (s.profileOf p).lensSurge).walk

/-! ## Starting a move (R121 to R124) -/

/-- The fit test of a pending move, with what follows it: the claim, the beginning, or a wait (R122 to R124). -/
def State.fitOrWait (s : State) (p : Port) : State :=
  match s.lenses[p].pending with
  | none => s
  | some m =>
    if 8 ≤ s.lenses[p].waits || s.fits p m then
      match s.lenses[p].claim with
      | .granted => s.beginOrWait p
      | .none => s.raiseLensClaim p
      | .standing => s
    else s.windowWait p

/-- Whether a pending move starts (R121). -/
def State.startable (s : State) (p : Port) : Bool :=
  let l := s.lenses[p]
  l.pending.isSome && l.flight.isNone && l.halt.isNone && !l.state.inMotion && s.power[p].state = .on &&
  l.stage = .none

/-- The pending move starts if the conditions of R121 hold. -/
def State.startPending (s : State) (p : Port) : State := if s.startable p then s.fitOrWait p else s

/-- A window wait ends (R123). -/
def State.waitEnded (s : State) (p : Port) : State :=
  if s.lenses[p].waitsWindow then s.fitOrWait p else s

/-- A move becomes the pending move (R118): it supersedes one already pending and takes over its place, or starts. -/
def State.setPending (s : State) (p : Port) (m : Move) : State :=
  let l := s.lenses[p]
  match l.pending with
  | none => (s.setLens p (fun l => { l with pending := some m, waits := 0 })).startPending p
  | some old =>
    let t := (s.setLens p (fun l => { l with pending := some m })).lensNotice p .superseded (some old) none
    if l.toBegin then (t.setLens p (fun l => { l with toBegin := false })).fitOrWait p else t.startPending p

/-- A HOME with origin HOST (R119). -/
def hostHome : Move := ⟨.home, {}, 0, .host, none⟩

/-! ## The sideband bus (R125) -/

/-- The first waiting transaction that may begin, and the others: a SEEK or FIND_HOME may not while the port exposes. -/
def nextTxn (exposing : Bool) : List Txn → Option (Txn × List Txn)
  | [] => none
  | t :: ts =>
    if exposing && t.kind = .motion then (nextTxn exposing ts).map (fun r => (r.1, t :: r.2)) else some (t, ts)

/-- A free bus takes the first transaction that waits, or else begins the move that waits for the bus (R125). -/
def State.busPump (s : State) (p : Port) : State :=
  let l := s.lenses[p]
  if l.bus.state = .free then
    match nextTxn (s.exposing p) l.bus.waiting with
    | some (t, rest) => s.setLens p (fun l => { l with bus := ⟨.hub, some t, rest⟩ })
    | none => if l.toBegin then s.beginOrWait p else s
  else s

/-- The controller asks for a transaction: it begins on a free bus, or waits. -/
def State.askTxn (s : State) (p : Port) (k : TxnKind) (bytes : List Byte) : State :=
  (s.setLens p (fun l => { l with bus := { l.bus with waiting := l.bus.waiting ++ [⟨k, 0, bytes⟩] } })).busPump p

/-- STOP is sent (R120, R127, R132). -/
def State.sendStop (s : State) (p : Port) : State := s.askTxn p .stop (txnBytes .stop)

/-! ## The end of a move (R126 to R131) -/

/-- The move in flight or the halt read ends: the lens takes a state and positions, and the transactions of its move that
still wait are not made. -/
def Lens.ends (l : Lens) (st : LensState) (position : Axes) (fault : Option LensFault) : Lens :=
  { l with
    state := st
    position := position
    flight := none
    halt := none
    lastFault := match fault with
      | some f => some f
      | none => l.lastFault
    bus := { l.bus with waiting := l.bus.waiting.filter (fun t => t.kind = .stop) } }

/-- The lens becomes IDLE, or UNKNOWN with no positions, at the end of a move or halt read: the surge is released, the
notice sent, and the pending move starts (R126, R129, R131). -/
def State.lensRests (s : State) (p : Port) (st : LensState) (position : Axes) (fault : Option LensFault)
    (event : LensEvent) (move : Option Move) : State :=
  (((s.setLens p (fun l => l.ends st position fault)).releaseSurge p).lensNotice p event move fault).startPending p

/-- A move that waited to begin has lost its claim, and starts from its first stage again (R121, R127). -/
def Lens.startsOver (l : Lens) : Lens := if l.toBegin then { l with stage := .none, toBegin := false } else l

/-- On entry to STALLED or FAULT a pending SEEK is cleared with CANCELLED, and a pending HOME starts (R127). DESIGN CHOICE:
a SEEK cleared so withdraws its standing claim (notes/assumptions/69.md). -/
def State.afterFailure (s : State) (p : Port) : State :=
  match s.lenses[p].pending with
  | none => s
  | some m =>
    match m.kind with
    | .seek =>
      ((s.setLens p (fun l => { l with pending := none, stage := .none, toBegin := false, waits := 0 })).withdrawLensClaim
        p).lensNotice p .cancelled (some m) none
    | .home => (s.setLens p Lens.startsOver).startPending p

/-- The lens becomes STALLED or FAULT (R127 to R132): its positions become absent and its surge is released. A halt read
that ends so sends HALTED in place of the event (R120). -/
def State.lensFails (s : State) (p : Port) (st : LensState) (fault : LensFault) (event : LensEvent) : State :=
  let l := s.lenses[p]
  let told := if l.halt.isSome then LensEvent.halted else event
  let move := match l.halt with
    | some h => h.move
    | none => l.flight.map (·.move)
  (((s.setLens p (fun l => l.ends st {} (some fault))).releaseSurge p).lensNotice p told move (some fault)).afterFailure p

/-- Whether the positions of a REPORT lie within the ranges of the axes of a kind (section 6.1). -/
def reportInRange (kind : LensKind) (bytes : List Byte) : Bool :=
  (!kind.hasFocus || bytesNum ((bytes.drop 1).take 2) ≤ 4095) && (!kind.hasZoom || bytesNum ((bytes.drop 4).take 2) ≤ 4095)

/-- Positions as a REPORT gives them, for the axes of a kind. A position beyond its axis's range is one the spec gives no
meaning to: the record then takes the free value (notes/assumptions/14.md). -/
def reportAxes (kind : LensKind) (bytes : List Byte) (free : Nat) : Axes :=
  let within := fun (n : Nat) => if n ≤ 4095 then n else free
  ⟨if kind.hasFocus then some (within (bytesNum ((bytes.drop 1).take 2))) else none,
   if kind.hasIris then some (bytesNum ((bytes.drop 3).take 1)) else none,
   if kind.hasZoom then some (within (bytesNum ((bytes.drop 4).take 2))) else none⟩

/-- Every axis of a kind at 0: the positions after a home (R126). -/
def zeroAxes (kind : LensKind) : Axes :=
  ⟨if kind.hasFocus then some 0 else none, if kind.hasIris then some 0 else none, if kind.hasZoom then some 0 else none⟩

/-- Whether the 8 bytes of a REPORT are whole and sum to 0 (R126). -/
def reportGood (bytes : List Byte) : Bool := bytes.length = 8 && sumsToZero bytes

/-- Whether a REPORT's settled flag is set (R126). -/
def reportSettled (bytes : List Byte) : Bool := (bytes.headD 0).getLsbD 0

/-- The positions that a settled REPORT stores, and the state with the free value taken where one is used. -/
def State.reported (s : State) (p : Port) (bytes : List Byte) : State × Axes :=
  let kind := (s.profileOf p).lensKind
  (if reportInRange kind bytes then s else s.usedFree, reportAxes kind bytes (s.freeBelow 4096))

/-- The move in flight has settled (R126). -/
def State.moveDone (s : State) (p : Port) (m : Move) (position : Axes) : State :=
  (s.lensCount p (fun c => { c with done := sat32 c.done })).lensRests p .idle position none .done (some m)

/-- A settled REPORT ends the motion (R126). -/
def State.settled (s : State) (p : Port) (f : Flight) (bytes : List Byte) : State :=
  match f.move.kind with
  | .home => s.moveDone p f.move (zeroAxes (s.profileOf p).lensKind)
  | .seek =>
    let r := s.reported p bytes
    if f.move.settle = 0 then r.1.moveDone p f.move r.2
    else r.1.setLens p (fun l => { l with
      position := r.2, flight := some { f with settleEndAt := some (s.clock + f.move.settle * 1000) } })

/-! ## The outcomes of a transaction (R126, R128 to R131) -/

/-- The state and positions to which a lens returns when its SEEK or FIND_HOME is refused or lost (R129, R131). -/
def Lens.returns (l : Lens) (m : Move) : LensState :=
  match m.kind with
  | .seek => .idle
  | .home => if l.position = {} then .unknown else .idle

/-- The address byte was acknowledged: the consecutive NO_ANSWER count becomes 0 (R128). -/
def State.answered (s : State) (p : Port) : State := s.setLens p (fun l => { l with noAnswer := 0 })

/-- Whether a move is in flight or a halt read under way, which a silent drive ends (R128). -/
def Lens.occupied (l : Lens) : Bool := l.flight.isSome || l.halt.isSome

/-- The third NO_ANSWER in a row (R128): the count returns to 0, and the lens becomes FAULT with LENS_SILENT evidence. A
lens whose move has ended, as one STALLED at its deadline first, stays as it is (notes/assumptions/36.md). DESIGN CHOICE: a
pending HOME begins before a STOP that still waits (notes/assumptions/75.md), and the BREAK notice of the evidence comes last
(notes/assumptions/65.md). -/
def State.silent (s : State) (p : Port) : State :=
  let t := s.setLens p (fun l => { l with noAnswer := 0 })
  if s.lenses[p].occupied then (t.lensFails p .fault .noAnswer .fault).lensSilent p else t

/-- NO_ANSWER (R128): each is counted, and those of transactions other than STOP count in a row up to the third. DESIGN
CHOICE: so counts a REPORT whose first address byte alone is acknowledged (notes/assumptions/97.md). -/
def State.noAnswer (s : State) (p : Port) (k : TxnKind) : State :=
  let t := s.lensCount p (fun c => { c with noAnswers := sat32 c.noAnswers })
  if k = .stop then t
  else if t.lenses[p].noAnswer < 2 then t.setLens p (fun l => { l with noAnswer := l.noAnswer + 1 })
  else t.silent p

/-- REJECTED (R129). -/
def State.rejected (s : State) (p : Port) (k : TxnKind) : State :=
  let t := (s.answered p).lensCount p (fun c => { c with rejections := sat32 c.rejections })
  let l := t.lenses[p]
  match k with
  | .motion =>
    match l.flight with
    | none => t
    | some f => t.lensRests p (l.returns f.move) l.position (some .rejected) .rejected (some f.move)
  | .haltRead => if l.halt.isSome then t.lensFails p .fault .rejected .fault else t
  | .poll => t
  | .stop => t

/-- A REPORT whose check fails is discarded and counted (R126). -/
def State.reportError (s : State) (p : Port) : State :=
  s.lensCount p (fun c => { c with reportErrors := sat32 c.reportErrors })

/-- A REPORT's answer (R120, R126): it ends the motion or the halt read when it is good and its settled flag is set. -/
def State.reportTaken (s : State) (p : Port) (k : TxnKind) (bytes : List Byte) : State :=
  let t := s.answered p
  if !reportGood bytes then t.reportError p
  else if !reportSettled bytes then t
  else match k with
    | .poll =>
      match t.lenses[p].flight with
      | none => t
      | some f => if f.settleEndAt.isSome then t else t.settled p f bytes
    | .haltRead =>
      match t.lenses[p].halt with
      | none => t
      | some h =>
        let r := t.reported p bytes
        r.1.lensRests p .idle r.2 none .halted h.move
    | .motion => t
    | .stop => t

/-- The hub's transaction has been acknowledged (R128): a SEEK or FIND_HOME needs no more retries. -/
def State.acknowledged (s : State) (p : Port) (k : TxnKind) : State :=
  let t := s.answered p
  if k = .motion then t.setLens p (fun l => { l with flight := l.flight.map (fun f => { f with acked := true }) }) else t

/-- A transaction has lost the bus for the fourth time (R131). -/
def State.arbLimit (s : State) (p : Port) (k : TxnKind) : State :=
  let l := s.lenses[p]
  match k with
  | .stop => s
  | .haltRead => if l.halt.isSome then s.lensFails p .fault .arbLimit .fault else s
  | .motion =>
    match l.flight with
    | none => s
    | some f => s.lensRests p (l.returns f.move) l.position (some .arbLimit) .failed (some f.move)
  | .poll =>
    match l.flight with
    | none => s
    | some f =>
      match f.move.kind with
      | .seek => s.lensRests p .idle l.position (some .arbLimit) .failed (some f.move)
      | .home => s.lensRests p .unknown {} (some .arbLimit) .failed (some f.move)

/-! ## The port's power (R115) -/

/-- The record of a lens whose port has left ON (R115): UNKNOWN, or still ABSENT, with nothing pending or in flight. -/
def Lens.off (l : Lens) : Lens :=
  { l with
    state := if l.state = .absent then .absent else .unknown
    position := {}
    pending := none
    stage := .none
    toBegin := false
    claim := .none
    waits := 0
    flight := none
    halt := none
    noAnswer := 0
    bus := {} }

/-- The port has left ON (R115), all but the walk that the release or withdrawal causes. DESIGN CHOICE: PORT_OFF names the
move in flight, and none during a halt read (notes/assumptions/74.md). -/
def State.lensOff (s : State) (p : Port) : State :=
  let l := s.lenses[p]
  let t := (s.setLens p Lens.off).dropClaim p .lens
  if l.state = .unknown || l.state = .absent then t
  else t.lensNotice p .portOff (l.flight.map (·.move)) none

/-- The port has entered ON (R115, R119, R125): its bus is FREE, an auto-home is posted, and a pending HOME starts. -/
def State.lensOn (s : State) (p : Port) : State :=
  let t := s.setLens p (fun l => { l with bus := { state := .free } })
  let homePending := match t.lenses[p].pending with
    | some m => m.kind = .home
    | none => false
  if (t.profileOf p).autoHome && t.lenses[p].state != .absent && !homePending then t.setPending p hostHome
  else t.startPending p

/-! ## Presets (R116) and plan moves (R68, R118) -/

/-- The targets that a move takes from a preset entry (R117): those of the axes the lens has. -/
def PresetEntry.targets (e : PresetEntry) (kind : LensKind) : Axes :=
  ⟨some e.focus, if kind.hasIris then e.iris else none, if kind.hasZoom then e.zoom else none⟩

/-- The move that a preset makes (R117). -/
def State.presetMove (s : State) (p : Port) (index : Fin 8) (origin : MoveOrigin) : Move :=
  let e := s.settings.presets[p][index]
  ⟨.seek, e.targets (s.profileOf p).lensKind, e.settle, origin, some index⟩

/-- Whether a lens is at a preset (R116). -/
def State.atPreset (s : State) (p : Port) (index : Fin 8) : Bool :=
  let l := s.lenses[p]
  let e := s.settings.presets[p][index]
  let same := fun (a b : Option Nat) => a.isNone || b.isNone || a = b
  l.state = .idle && l.position.focus = some e.focus && same l.position.iris e.iris && same l.position.zoom e.zoom

/-- Whether a move is a plan move to a preset. -/
def Move.isPlanTo (m : Move) (index : Fin 8) : Bool := m.origin = .plan && m.preset = some index

/-- The sequencer posts a preset as a plan move for a port (R68, R118). -/
def State.postPreset (s : State) (p : Port) (index : Fin 8) : State :=
  let l := s.lenses[p]
  let bound := l.pending.any (·.isPlanTo index) || l.flight.any (·.move.isPlanTo index)
  match l.state with
  | .idle | .moving | .homing =>
    if s.atPreset p index || bound then s else s.setPending p (s.presetMove p index .plan)
  | .absent | .unknown | .stalled | .fault => s

end Sys2Proof.Machine
end

