-- ==== Sys2Proof/Machine/PlanOps.lean ====
section
/-!
DEFINITION. The CAPTURE SEQUENCER's operations (chapter 3): the checks of a plan (R51 to R53), cycle starts (R60 to R62),
the beginning and end of a cycle (R63, R65), the posts of presets (R68), and the end of the plan (R50).
-/

namespace Sys2Proof.Machine

/-- The sequencer changed. -/
def State.setSeq (s : State) (f : Sequencer → Sequencer) : State := { s with seq := f s.seq }

/-- A PLAN_STATE notice (R59). -/
def State.planNotice (s : State) (prev : PlanState) (cause : PlanCause) : State :=
  s.post none (.planState s.seq.state prev cause s.seq.cycleCounter s.strobePart)

/-! ## The checks of a plan (R51 to R54) -/

/-- The end of the reception window span of a slot on a port (R51). -/
def State.spanEnd (s : State) (k : Slot) (p : Port) : Time := k.offset + k.exposure + (s.profileOf p).readout + 2000

/-- Whether two slots conflict on a port (R52): both mark it, and each window starts before the other ends. -/
def State.slotsConflict (s : State) (a b : Slot) (p : Port) : Bool :=
  a.marks p && b.marks p && a.offset < s.spanEnd b p && b.offset < s.spanEnd a p

/-- A check of R51 that a plan fails: its status and number, and the slot and port concerned. -/
structure PlanFailure where
  status : Status
  check : Nat
  slot : Option Nat
  port : Option Port
deriving DecidableEq, Repr

/-- The first slot and port of a plan that satisfy a test, in order of slot and then of port. -/
def Plan.firstPort (q : Plan) (f : Nat → Slot → Port → Bool) : Option (Nat × Port) :=
  ((List.range q.slots.length).flatMap (fun k => allPorts.map (fun p => (k, p)))).find? (fun c =>
    match q.slots[c.1]? with
    | none => false
    | some k => f c.1 k c.2)

/-- A check failed, where its first slot and port are found. -/
def planFailure (status : Status) (check : Nat) (c : Option (Nat × Port)) : Option PlanFailure :=
  c.map (fun c => ⟨status, check, some c.1, some c.2⟩)

/-- The first of checks 2, 3 and 4 of R51 that a plan fails against the present port profiles. -/
def State.planFails (s : State) (q : Plan) : Option PlanFailure :=
  (planFailure .wrongState 2 (q.firstPort (fun _ k p => k.marks p && !(s.profileOf p).configured))) <|>
  (planFailure .conflict 3 (q.firstPort (fun i k p => (q.slots.take i).any (fun j => s.slotsConflict j k p)))) <|>
  (match q.mode, q.period with
   | .freeRun, some period => planFailure .conflict 4 (q.firstPort (fun _ k p => k.marks p && period < s.spanEnd k p))
   | _, _ => none)

/-- The strobe count used of a slot (R53): the pulses asked whose end is at or before the exposure. -/
def Slot.usedCount (k : Slot) : Nat :=
  ((List.range k.pulses).filter (fun i => k.firstPulse + i * k.pulsePeriod + k.pulseWidth ≤ k.exposure)).length

/-- The plan with its strobe counts fixed (R53). -/
def Plan.withUsed (q : Plan) : Plan := { q with slots := q.slots.map (fun k => { k with used := k.usedCount }) }

/-- Whether R53 reduced the count of any slot. -/
def Plan.clamped (q : Plan) : Bool := q.slots.any (fun k => k.used < k.pulses)

/-! ## Preset posts (R68) -/

/-- The slot of the least trigger offset of some slots. -/
def earliestSlot : List (Fin 4 × Slot) → Option (Fin 4 × Slot)
  | [] => none
  | k :: ks =>
    match earliestSlot ks with
    | none => some k
    | some j => if j.2.offset < k.2.offset then some j else some k

/-- The earliest slot of the plan that marks a port and names a preset. -/
def Sequencer.firstPreset (q : Sequencer) (p : Port) : Option (Fin 4 × Slot) :=
  earliestSlot ((q.slotsOf p).filter (fun k => k.2.preset.isSome))

/-- The port's slot that follows a slot in the cycle. -/
def Sequencer.slotAfter (q : Sequencer) (p : Port) (slot : Fin 4) : Option (Fin 4 × Slot) :=
  match q.slot? slot with
  | none => none
  | some k => earliestSlot ((q.slotsOf p).filter (fun j => k.offset < j.2.offset))

/-- The preset of a slot is posted for a port, if it names one. -/
def State.postSlot (s : State) (p : Port) (k : Option (Fin 4 × Slot)) : State :=
  match k with
  | none => s
  | some j =>
    match j.2.preset with
    | none => s
    | some i => s.postPreset p i

/-- The preset of the port's slot after this one is posted, unless it was posted at the cycle's start. -/
def State.postAfter (s : State) (p : Port) (slot : Fin 4) : State :=
  let next := s.seq.slotAfter p slot
  if next = s.seq.firstPreset p then s else s.postSlot p next

/-! ## Cycle starts (R60 to R63) -/

/-- A cycle begins (R63), its earliest presets are posted (R68), and the sweep engine tests its conditions. -/
def State.beginCycle (s : State) (delayed : Bool) : State :=
  match s.seq.plan with
  | none => s
  | some plan =>
    let n := s.seq.cycleCounter
    let last := n = 18446744073709551615
    let next := if last then s.freeBelow 18446744073709551616 else n + 1
    let t := (if last then s.usedFree else s).setSeq (fun q => { q with
      state := .running
      cycleCounter := next
      current := some ⟨n, n % plan.length, s.clock, delayed, [], []⟩
      pending := none
      nextExpiry := plan.period.map (s.clock + ·)
      begun := sat32 q.begun
      delayed := if delayed then sat32 q.delayed else q.delayed })
    (State.forPorts (fun p u => u.postSlot p (u.seq.firstPreset p)) allPorts t).sweepResume

/-- What became of a start (R60, R66). -/
inductive StartTaken where
  | ignored | started | pending | held | overrun
deriving DecidableEq, Repr

/-- A start is discarded as an overrun (R61). -/
def State.overrun (s : State) (source : StartSource) : State :=
  let t := s.setSeq (fun q => { q with overruns := sat32 q.overruns })
  t.post none (.triggerOverrun source s.clock (s.seq.current.map (·.number)) (s.seq.pending.any (·.held)) t.seq.overruns)

/-- The sequencer takes a start by its plan state (R60). DESIGN CHOICE: a start that becomes the pending trigger leaves the
next expiry as it stands (notes/assumptions/54.md). -/
def State.takeStart (s : State) (source : StartSource) : State × StartTaken :=
  match s.seq.state with
  | .empty | .loaded => (s, .ignored)
  | .stopping => (s.setSeq (fun q => { q with ignored := sat32 q.ignored }), .ignored)
  | .armed =>
    if s.seq.pending.isSome then (s.overrun source, .overrun)
    else if s.planQuiet then
      (s.setSeq (fun q => { q with pending := some ⟨source, s.clock, true⟩ }), .held)
    else (s.beginCycle false, .started)
  | .running =>
    if s.seq.pending.isSome then (s.overrun source, .overrun)
    else (s.setSeq (fun q => { q with pending := some ⟨source, s.clock, false⟩ }), .pending)

/-! ## The end of the plan and of a cycle (R50, R65) -/

/-- The ports whose lens move waits for a window (R123). -/
def State.waitingPorts (s : State) : List Port := portsWhere (fun p => s.lenses[p].waitsWindow)

/-- The window waits of some ports end (R123): those that stood when the event came, not one that it begins. -/
def State.waitsEnd (s : State) (ps : List Port) : State := State.forPorts (fun p t => t.waitEnded p) ps s

/-- The plan leaves ARMED, RUNNING and STOPPING for LOADED (R50): the notice is sent, the store is told, the strobe
reservation is released with its walk, and the waits that it held end. DESIGN CHOICE: the notice is posted before the walk
(R65, notes/assumptions/66.md), and the walk is made before the waits end and their moves raise claims (R22, R123,
notes/assumptions/94.md). -/
def State.planEnds (s : State) (cause : PlanCause) : State :=
  (((s.setSeq (fun q => { q with state := .loaded, current := none, pending := none, nextExpiry := none })).planNotice
    s.seq.state cause).storePlanEnded.walk.waitsEnd s.waitingPorts).sweepResume

/-- Whether the current cycle has ended (R65): every slot dispatched, every window closed. -/
def Sequencer.cycleOver (q : Sequencer) : Bool :=
  match q.current with
  | none => false
  | some c => q.numbered.all (fun k => c.dispatched.contains k.1) && c.windows.isEmpty

/-- The end of a cycle by the plan state and the pending trigger (R65). DESIGN CHOICE: a cycle that a pending trigger
begins begins before the window waits end and their fit is tested again (R123, notes/assumptions/63.md). -/
def State.endCycle (s : State) : State :=
  match s.seq.state with
  | .stopping => s.planEnds .stopped
  | .running =>
    let t := s.setSeq (fun q => { q with state := .armed, current := none })
    let next := match s.seq.pending with
      | none => t
      | some g =>
        if s.planQuiet then t.setSeq (fun q => { q with pending := some { g with held := true } })
        else t.beginCycle false
    (next.waitsEnd s.waitingPorts).sweepResume
  | .empty | .loaded | .armed => s

/-- The cycle ends if it is over; where a window has closed, the sweep engine tests its conditions (R65, R161). -/
def State.checkCycle (s : State) : State := if s.seq.cycleOver then s.endCycle else s.sweepResume

/-! ## Exposure windows (R40, R68, R123, R125) -/

/-- The exposure window of a port has closed at its end: the next preset is posted, the lens's wait ends, and a motion put
off for the window is sent. DESIGN CHOICE: the post comes before the end of the wait (R118, notes/assumptions/67.md). -/
def State.exposureEnds (s : State) (p : Port) : State :=
  match s.lanes[p].exposure with
  | none => s
  | some e =>
    let t := s.closeExposure p
    let posted := if t.seq.state.inService && t.seq.current.any (fun c => c.number = e.cycle) then t.postAfter p e.slot else t
    ((posted.waitsEnd (s.waitingPorts.filter (· = p))).busPump p).sweepResume

/-! ## Dispatch (R64, R70) -/

/-- The frame flags that the sequencer asks for with a trigger (R70). -/
def State.triggerFlags (s : State) (p : Port) (k : Slot) (delayed : Bool) : FrameFlags where
  triggerDelayed := delayed
  lensMoving := s.lenses[p].state.inMotion
  lensUnsettled :=
    match k.preset with
    | none => false
    | some i => s.lenses[p].state != .absent && !s.atPreset p i

/-- The slot is skipped for a port (R64): it is counted MISSED, its frame is absent, and the next preset is posted. -/
def State.skipSlot (s : State) (p : Port) (slot : Fin 4) (c : Cycle) : State :=
  ((s.setSeq (fun q => { q with missed := upd q.missed slot (fun m => upd m p sat32) })).reportAbsence slot p c.number
    c.position).postAfter p slot

/-- A slot's trigger on a port (R64). -/
def slotTrigger (k : Slot) (slot : Fin 4) (c : Cycle) (flags : FrameFlags) : TriggerRequest where
  exposure := k.exposure
  pulses := if k.fire[c.position]? = some true then k.used else 0
  firstPulse := k.firstPulse
  pulseWidth := k.pulseWidth
  pulsePeriod := k.pulsePeriod
  slot := slot
  cycle := c.number
  position := c.position
  flags := flags

/-- The slot is dispatched to one port (R64). -/
def State.dispatchPort (slot : Fin 4) (k : Slot) (c : Cycle) (p : Port) (s : State) : State :=
  if !k.marks p then s
  else if s.power[p].state = .on then
    let r := s.sendTrigger p (slotTrigger k slot c (s.triggerFlags p k c.delayed))
    if r.2 then
      r.1.setSeq (fun q => { q with current := q.current.map (fun d => { d with windows := d.windows ++ [(slot, p)] }) })
    else r.1.skipSlot p slot c
  else s.skipSlot p slot c

/-- The slot is dispatched to every port marked in it (R64). -/
def State.dispatch (s : State) (slot : Fin 4) (k : Slot) (c : Cycle) : State :=
  (State.forPorts (State.dispatchPort slot k c) allPorts
    (s.setSeq (fun q => { q with current := some { c with dispatched := c.dispatched ++ [slot] } }))).checkCycle

end Sys2Proof.Machine
end

