-- ==== Sys2Proof/Machine/PowerOps.lean ====
section
/-!
DEFINITION. The PORT POWER SWITCH and the supply monitor (chapter 1): a port leaving and entering its power states with
all that the other blocks do then (R8), trips (R11), samples (R9, R10, R13, R14) and sheds (R25 to R27).
-/

namespace Sys2Proof.Machine

/-- The blocks that see a port leave ON (R8): its lane goes DOWN and its lens is off; the release causes a walk; the
acquisitions of its sweep are discarded before anything tests the sweep again (R162); and its cycle may end. -/
def State.leftOn (s : State) (p : Port) : State :=
  ((((((s.laneGoesDown p).lensOff p).walk).discardAcquisitions p).checkCycle).laneLeftQuiet p).sweepResume

/-- A port goes to a state other than WAITING, RAMPING and ON for a reason (R2): its claim is withdrawn, its reservation
released, and the other blocks see it leave ON. From the state itself, the reason alone is recorded. -/
def State.portGoes (s : State) (p : Port) (new : PowerState) (reason : OffReason) : State :=
  let prev := s.power[p].state
  if prev = new then s.setPower p (fun w => { w with reason := reason })
  else
    let t := s.setPowerState p new reason
    match prev with
    | .on => t.leftOn p
    | .ramping => t.walk
    | .waiting => (t.dropClaim p .power).walk
    | _ => t

/-- A port enters ON (R8): its lane trains, its lens may be driven, and a sweep on it starts over (R162). -/
def State.portEntersOn (s : State) (p : Port) : State :=
  (((((s.setPowerState p .on s.power[p].reason).laneEntersOn p).lensOn p).discardAcquisitions p)).sweepResume

/-- An open load (R7, R13): the port goes to PROBING and POWER_OPEN evidence is posted. DESIGN CHOICE: the BREAK notice comes
after every other (notes/assumptions/65.md). -/
def State.openLoad (s : State) (p : Port) : State := (s.portGoes p .probing .openLoad).powerOpen p

/-! ## Trips (R11, R12) -/

/-- The evidence that a trip posts, by the trip count after it (R11). -/
def State.tripEvidence (s : State) (p : Port) (count : Nat) : State :=
  if count = 3 then s.powerShort p .suspect else if count = 5 then s.powerShort p .confirmed else s

/-- A trip (R11): the count rises and the decay timer restarts, the PORT_TRIP notice is sent, the port goes to COOLDOWN or,
at the fifth, to LOCKED, and the evidence is posted. DESIGN CHOICE: PORT_TRIP is posted before the PORT_STATE of the same
trip (notes/assumptions/51.md), and the BREAK notice of the evidence after every other (notes/assumptions/65.md). -/
def State.trip (s : State) (p : Port) (cause : TripCause) (current : Nat) : State :=
  let count := min 5 (s.power[p].tripCount + 1)
  let new := if count = 5 then PowerState.locked else .cooldown
  let reason := if count = 5 then OffReason.lock else .trip
  let counted := s.setPower p (fun w => { w with
    tripCount := count, decayAt := if count = 5 then none else some (s.clock + 45000000) })
  let told := counted.post (some p) (.portTrip cause current (s.effectiveThreshold p) count new)
  (told.portGoes p new reason).tripEvidence p count

/-! ## Samples (R9, R10, R13, R14) -/

/-- A run as a sample leaves it (R10, R13): it begins or goes on while the test holds, and ends when it does not. -/
def Run.sample (r : Option Run) (holds : Bool) (now : Time) : Option Run :=
  if holds then
    match r with
    | none => some ⟨now, now⟩
    | some r => some { r with last := now }
  else none

/-- The switch takes a sample: the latest 1,000 are kept (R9). -/
def PortPower.takeSample (w : PortPower) (v : Nat) : PortPower :=
  { w with samples := (v :: w.samples).take 1000, nextSampleAt := w.nextSampleAt + 1000 }

/-- The overdraw check of a sample in ON (R14). -/
def State.overdrawCheck (s : State) (p : Port) : State :=
  let average := s.power[p].average 1000
  let base := (s.profileOf p).baseReservation
  if s.power[p].overdrawSent then
    if average < base then s.setPower p (fun w => { w with overdrawSent := false }) else s
  else if base * 5 < average * 4 then
    (s.setPower p (fun w => { w with overdrawSent := true })).post (some p) (.overdraw average base)
  else s

/-- The current monitor of a port takes a sample (R9, R10, R13, R14): with the switch open it reads 0 mA. -/
def State.sample (s : State) (p : Port) (milliamps : Nat) : State :=
  let st := s.power[p].state
  let v := if st.reserved then min milliamps 4500 else 0
  let t := s.setPower p (fun w => w.takeSample v)
  if st.reserved then
    let run := t.setPower p (fun w => { w with overRun := Run.sample w.overRun (s.effectiveThreshold p < v) s.clock })
    if st = .on then
      (run.setPower p (fun w => { w with
        underRun := Run.sample w.underRun (w.average 100 < (s.profileOf p).underload) s.clock })).overdrawCheck p
    else run
  else t

/-! ## Probing (R4, R5) -/

/-- A probe pulse begins (R4). -/
def State.beginPulse (s : State) (p : Port) : State :=
  s.setPower p (fun w => { w with
    pulseEndAt := some (s.clock + 2000), probeAt := some (s.clock + (s.profileOf p).probePeriod * 1000) })

/-- A PORT_STATE notice with event ATTACHED or DETACHED (R5). -/
def State.attachNotice (s : State) (p : Port) (event : PortEvent) : State :=
  s.post (some p) (.portState event .probing .probing s.power[p].reason)

/-- The result of a probe pulse (R5). -/
def State.probeResult (s : State) (p : Port) (milliamps : Nat) : State :=
  let t := s.setPower p (fun w => { w with pulseEndAt := none })
  let was := s.power[p].presence
  if milliamps < 2 then
    let u := t.setPower p (fun w => { w with presence := .absent })
    if was = .present then u.attachNotice p .detached else u
  else if milliamps ≤ 20 then
    let u := t.setPower p (fun w => { w with presence := .present })
    let told := if was = .present then u else u.attachNotice p .attached
    if (s.profileOf p).autoPower then told.raisePowerClaim p else told
  else t.powerShort p .suspect

/-! ## The supply monitor (R25 to R27) -/

/-- The ports of a list in order of priority, highest first, and then of number (R27, R29). -/
def State.byPriority (s : State) (f : Port → Bool) : List Port :=
  ([3, 2, 1, 0] : List Nat).flatMap (fun k => portsWhere (fun p => f p && (s.profileOf p).priority = k))

/-- A port is shed (R25). -/
def State.shed (p : Port) (s : State) : State :=
  (s.portGoes p .off .shed).setPower p (fun w => { w with shedMark := true })

/-- The ports of a list are shed, and a SUPPLY notice tells the event (R25, R26). DESIGN CHOICE: it is posted after the
notices of every port shed (notes/assumptions/52.md). -/
def State.shedPorts (s : State) (event : SupplyEvent) (ps : List Port) : State :=
  (State.forPorts State.shed ps s).post none (.supply event s.supply.millivolts ps)

/-- The CELL_IN voltage last measured. -/
def State.measured (s : State) (millivolts : Nat) : State :=
  { s with supply := { s.supply with millivolts := millivolts } }

/-- The supply becomes LOW at stage FIRST (R25). -/
def State.becomeLow (s : State) : State :=
  ({ s with supply := { s.supply with low := some .first, fullCheckAt := some (s.clock + 50000) } }).shedPorts .low
    (portsWhere (fun p => s.power[p].state.reserved && (s.profileOf p).priority < s.settings.keepLevel))

/-- The look at CELL_IN 50 ms after the supply became LOW (R26). -/
def State.fullCheck (s : State) (millivolts : Nat) : State :=
  let t := { s.measured millivolts with supply := { (s.measured millivolts).supply with fullCheckAt := none } }
  if millivolts < 19000 && t.supply.low.isSome then
    ({ t with supply := { t.supply with low := some .full } }).shedPorts .fullShed
      (portsWhere (fun p => t.power[p].state.reserved))
  else t

/-- A shed port raises its power claim at recovery and clears its mark (R27). -/
def State.raiseShed (p : Port) (s : State) : State :=
  (s.setPower p (fun w => { w with shedMark := false })).raisePowerClaim p

/-- The supply recovers (R27). -/
def State.recover (s : State) : State :=
  let marked := portsWhere (fun p => s.power[p].shedMark)
  let t := (({ s with supply := { s.supply with low := none, fullCheckAt := none } }).post none
    (.supply .recovered s.supply.millivolts marked)).walk
  match s.settings.policy with
  | .latched => t
  | .auto => State.forPorts State.raiseShed (s.byPriority (fun p => s.power[p].shedMark)) t

end Sys2Proof.Machine
end

