-- ==== Sys2Proof/Machine/Power.lean ====
section
/-!
DEFINITION. The commands of chapter 1: the requests to a port and to the supply allocator, and the events of the switches,
the current monitors and the supply monitor.
-/

namespace Sys2Proof.Machine

/-- Whether a timer has run out: it runs, and its time has come. -/
def due (t : Option Time) (now : Time) : Bool :=
  match t with
  | none => false
  | some d => d ≤ now

/-! ## PORT_CONFIG (R3) -/

/-- Whether PORT_CONFIG finds a port that does not take it (R3 checks 2 and 3). -/
def State.configBlocked (s : State) (p : Port) : Bool :=
  (match s.power[p].state with
   | .waiting | .ramping | .on | .cooldown => true
   | .off | .probing | .locked => false) || (s.seq.state.inService && s.seq.marks p)

/-- The probe timer and pulse of a port in PROBING whose profile changes (R3). -/
def PortPower.reprobe (w : PortPower) (old new : PortProfile) (now : Time) : PortPower :=
  if w.state = .probing then
    if new.probeEnable then
      if old.probeEnable then { w with probeAt := some (now + new.probePeriod * 1000) }
      else { w with pulseEndAt := some (now + 2000), probeAt := some (now + new.probePeriod * 1000) }
    else { w with pulseEndAt := none, probeAt := none }
  else w

/-- The lens of a port whose kind changes (R115). -/
def Lens.rekind (l : Lens) (old new : LensKind) : Lens :=
  if new = .none then
    { l with state := .absent, pending := none, stage := .none, toBegin := false, waits := 0, lastFault := none }
  else if old = .none then { l with state := .unknown }
  else l

/-- A port takes a new profile (R3, R115). -/
def State.takeProfile (s : State) (p : Port) (f : PortProfile) : State :=
  let old := s.profileOf p
  (({ s with settings := { s.settings with ports := upd s.settings.ports p (fun _ => f) } }).setPower p
    (fun w => w.reprobe old f s.clock)).setLens p (fun l => l.rekind old.lensKind f.lensKind)

/-- PORT_CONFIG's owner acts (R3). -/
def State.portConfig (b : List Byte) (s : State) : State :=
  match portAt b 0 with
  | none => s.reply .outOfRange
  | some p =>
    if !portConfigInRange b then s.reply .outOfRange
    else if s.configBlocked p then s.reply .wrongState
    else (s.takeProfile p (portConfigProfile b)).reply .ok

/-- PORT_CONFIG (R3). -/
def execPortConfig (s : State) : Result := s.serve 0x01 portConfigSize State.portConfig

/-! ## PORT_POWER, PORT_UNLOCK, PORT_STATUS (R15 to R18) -/

/-- PORT_POWER's rows share one kind: a row serves the request whose value is its own, and any row answers a value that is
none of the three (notes/assumptions/15.md). -/
def State.servePortPower (s : State) (value : Nat) (owner : Port → State → State) : Result :=
  s.serveWhen 0x02 (fun b => b.length = 2) (fun b => numAt b 1 1 = value || 2 < numAt b 1 1) (fun b s =>
    match portAt b 0 with
    | none => s.reply .outOfRange
    | some p => if 2 < numAt b 1 1 then s.reply .outOfRange else owner p s)

/-- PORT_POWER(ON)'s owner acts (R15). -/
def State.portPowerOn (p : Port) (s : State) : State :=
  match s.power[p].state with
  | .off | .probing => (s.raisePowerClaim p).reply .ok
  | .waiting | .ramping | .on | .cooldown => s.reply .ok
  | .locked => s.reply .wrongState

/-- PORT_POWER(ON) (R15). -/
def execPortPowerOn (s : State) : Result := s.servePortPower 0 State.portPowerOn

/-- A port's shed mark is cleared (R16, R27). -/
def State.clearShed (s : State) (p : Port) : State := s.setPower p (fun w => { w with shedMark := false })

/-- PORT_POWER(OFF)'s owner acts (R16). -/
def State.portPowerOff (p : Port) (s : State) : State :=
  match s.power[p].state with
  | .locked => s.reply .wrongState
  | _ => ((s.portGoes p .off .host).clearShed p).reply .ok

/-- PORT_POWER(OFF) (R16). -/
def execPortPowerOff (s : State) : Result := s.servePortPower 1 State.portPowerOff

/-- PORT_POWER(PROBE)'s owner acts (R16). -/
def State.portPowerProbe (p : Port) (s : State) : State :=
  match s.power[p].state with
  | .locked => s.reply .wrongState
  | .probing => (s.clearShed p).reply .ok
  | _ => ((s.portGoes p .probing .host).clearShed p).reply .ok

/-- PORT_POWER(PROBE) (R16). -/
def execPortPowerProbe (s : State) : Result := s.servePortPower 2 State.portPowerProbe

/-- PORT_UNLOCK's owner acts (R17). -/
def State.portUnlock (b : List Byte) (s : State) : State :=
  match portAt b 0 with
  | none => s.reply .outOfRange
  | some p =>
    if s.power[p].state = .locked then
      ((s.setPower p (fun w => { w with tripCount := 0, decayAt := none })).setPowerState p .off
        s.power[p].reason).reply .ok
    else s.reply .wrongState

/-- PORT_UNLOCK (R17). -/
def execPortUnlock (s : State) : Result := s.serve 0x03 1 State.portUnlock

/-- The fields of PORT_STATUS's reply (R18). -/
def State.portStatusFields (s : State) (p : Port) : List Byte :=
  let w := s.power[p]
  num1 w.state.code ++ num1 w.reason.code ++ num1 w.presence.code ++ num1 w.tripCount ++ num2 (w.average 100) ++
  num2 (if w.state.reserved then s.effectiveThreshold p else 0) ++
  num2 (if w.state.reserved then (s.profileOf p).baseReservation else 0) ++
  num2 (if s.lenses[p].claim = .granted then (s.profileOf p).lensSurge else 0) ++
  optNum 1 (s.supply.place p .power) ++ optNum 1 (s.supply.place p .lens) ++
  flagByte w.overdrawSent ++ flagByte w.shedMark

/-- PORT_STATUS (R18). -/
def execPortStatus (s : State) : Result :=
  s.serve 0x04 1 (fun b s =>
    match portAt b 0 with
    | none => s.reply .outOfRange
    | some p => s.answer .ok (s.portStatusFields p))

/-! ## The allocator's requests (R24, R28) -/

/-- SET_CAPACITY's owner acts (R24). -/
def State.setCapacity (b : List Byte) (s : State) : State :=
  let n := numAt b 0 2
  if !inRange 500 40000 n then s.reply .outOfRange
  else if n < s.committed then s.answer .noBudget (num2 s.committed)
  else ({ s with settings := { s.settings with capacity := n } }).walk.reply .ok

/-- SET_CAPACITY (R24). -/
def execSetCapacity (s : State) : Result := s.serve 0x05 2 State.setCapacity

/-- SET_SUPPLY_POLICY's owner acts (R28). -/
def State.setSupplyPolicy (b : List Byte) (s : State) : State :=
  if inRange 0 4 (numAt b 0 1) && inRange 0 1 (numAt b 1 1) then
    ({ s with settings := { s.settings with
      keepLevel := numAt b 0 1
      policy := if numAt b 1 1 = 0 then .auto else .latched } }).reply .ok
  else s.reply .outOfRange

/-- SET_SUPPLY_POLICY (R28). -/
def execSetSupplyPolicy (s : State) : Result := s.serve 0x06 2 State.setSupplyPolicy

/-- A claim as SUPPLY_STATUS gives it (R24). -/
def claimBytes (c : Claim) : List Byte :=
  num1 c.port.val ++ num1 c.kind.code ++ num2 c.need ++ num1 c.priority ++ num8 c.arrival

/-- The fields of SUPPLY_STATUS's reply (R24). -/
def State.supplyStatusFields (s : State) : List Byte :=
  num2 s.settings.capacity ++ num2 s.committed ++ num2 s.basePart ++ num2 s.surgePart ++ num2 s.strobePart ++
  listField claimBytes s.supply.claims ++ flagByte s.supply.low.isSome ++
  optNum 1 (s.supply.low.map (·.code)) ++ num2 s.supply.millivolts ++ num1 s.settings.keepLevel ++
  num1 s.settings.policy.code ++ portMask (portsWhere (fun p => s.power[p].shedMark))

/-- SUPPLY_STATUS (R24). -/
def execSupplyStatus (s : State) : Result := s.serve 0x07 0 (fun _ s => s.answer .ok s.supplyStatusFields)

/-! ## The switch's events -/

/-- Whether a port's next probe pulse is due (R4). -/
def State.probePulseDue (s : State) (p : Port) : Bool :=
  s.power[p].state = .probing && (s.profileOf p).probeEnable && due s.power[p].probeAt s.clock

/-- PROBE_PULSE_START (R4). -/
def execProbePulseStart (p : Port) (s : State) : Result :=
  if s.probePulseDue p then finish (s.beginPulse p) else .next s

/-- PROBE_PULSE_END (R5): the pulse under way has run its 2 ms. -/
def execProbePulseEnd (p : Port) (milliamps : Nat) (s : State) : Result :=
  if s.power[p].state = .probing && due s.power[p].pulseEndAt s.clock then finish (s.probeResult p milliamps) else .next s

/-- Whether a port's ramp has run its 20 ms (R7). -/
def State.rampDue (s : State) (p : Port) : Bool := s.power[p].state = .ramping && due s.power[p].rampEndAt s.clock

/-- RAMP_END (R7): the last sample before the end is compared with the underload threshold. -/
def execRampEnd (p : Port) (s : State) : Result :=
  if s.rampDue p then
    finish (if s.power[p].samples.headD 0 < (s.profileOf p).underload then s.openLoad p else s.portEntersOn p)
  else .next s

/-- CURRENT_SAMPLE (R9): one every 1 ms. -/
def execCurrentSample (p : Port) (milliamps : Nat) (s : State) : Result :=
  if s.power[p].nextSampleAt ≤ s.clock then finish (s.sample p milliamps) else .next s

/-- Whether a port's over-threshold run has lasted 2 ms at its latest sample (R10). -/
def State.thresholdDue (s : State) (p : Port) : Bool :=
  s.power[p].state.reserved &&
  (match s.power[p].overRun with
   | none => false
   | some r => r.start + 2000 ≤ r.last)

/-- THRESHOLD_TRIP (R10, R11). -/
def execThresholdTrip (p : Port) (s : State) : Result :=
  if s.thresholdDue p then finish (s.trip p .threshold (s.power[p].samples.headD 0)) else .next s

/-- HARD_LIMIT_TRIP (R10, R11): the comparator trips the switch of a port in RAMPING or ON at 4,500 mA. -/
def execHardLimitTrip (p : Port) (milliamps : Nat) (s : State) : Result :=
  if s.power[p].state.reserved && 4500 ≤ milliamps then finish (s.trip p .hardLimit milliamps) else .next s

/-- Whether a port's underload run has lasted 200 ms at its latest sample (R13). -/
def State.openLoadDue (s : State) (p : Port) : Bool :=
  s.power[p].state = .on &&
  (match s.power[p].underRun with
   | none => false
   | some r => r.start + 200000 ≤ r.last)

/-- OPEN_LOAD (R13). -/
def execOpenLoad (p : Port) (s : State) : Result := if s.openLoadDue p then finish (s.openLoad p) else .next s

/-- Whether a port's cooldown has run its 400 ms (R11). -/
def State.cooldownDue (s : State) (p : Port) : Bool :=
  s.power[p].state = .cooldown && due s.power[p].cooldownEndAt s.clock

/-- COOLDOWN_END (R11). -/
def execCooldownEnd (p : Port) (s : State) : Result :=
  if s.cooldownDue p then finish (s.raisePowerClaim p) else .next s

/-- Whether a port's decay timer has run its 45 s (R12). -/
def State.decayDue (s : State) (p : Port) : Bool := s.power[p].state != .locked && due s.power[p].decayAt s.clock

/-- The trip count falls by 1, and the timer restarts unless the count is 0 (R12). -/
def PortPower.decay (w : PortPower) (now : Time) : PortPower :=
  { w with tripCount := w.tripCount - 1, decayAt := if w.tripCount ≤ 1 then none else some (now + 45000000) }

/-- TRIP_DECAY (R12). -/
def execTripDecay (p : Port) (s : State) : Result :=
  if s.decayDue p then finish (s.setPower p (fun w => w.decay s.clock)) else .next s

/-! ## The supply monitor's events (R25 to R27) -/

/-- SUPPLY_LOW (R25): in NORMAL, CELL_IN below 19.0 V for 1 ms makes the supply LOW. -/
def execSupplyLow (millivolts heldMicros : Nat) (s : State) : Result :=
  let t := s.measured millivolts
  if s.supply.low.isNone && millivolts < 19000 && 1000 ≤ heldMicros then finish t.becomeLow else finish t

/-- SUPPLY_FULL_SHED_CHECK (R26): the one look, 50 ms after the supply became LOW. -/
def execSupplyFullShedCheck (millivolts : Nat) (s : State) : Result :=
  if due s.supply.fullCheckAt s.clock then finish (s.fullCheck millivolts) else .next s

/-- SUPPLY_RECOVERED (R27): in LOW, CELL_IN above 20.5 V for 100 ms lets the supply recover. -/
def execSupplyRecovered (millivolts heldMicros : Nat) (s : State) : Result :=
  let t := s.measured millivolts
  if s.supply.low.isSome && 20500 < millivolts && 100000 ≤ heldMicros then finish t.recover else finish t

end Sys2Proof.Machine
end

