-- ==== Sys2Proof/Machine/Lanes.lean ====
section
/-!
DEFINITION. The commands of chapter 2: LANE_STATUS, and the events of a lane's training, of the camera's packets and of the
windows that a trigger opens.
-/

namespace Sys2Proof.Machine

/-! ## LANE_STATUS (R48) -/

/-- A reception window as LANE_STATUS gives it. -/
def windowBytes (w : RxWindow) : List Byte :=
  [w.tag] ++ num8 w.sendTime ++ num8 w.exposureEnd ++ num8 w.deadline ++ num1 w.rx.code

/-- A frame in reception as LANE_STATUS gives it. -/
def rxFrameBytes (f : RxFrame) : List Byte :=
  num4 f.id ++ num1 f.buffer.val ++ num2 f.stored.length ++ optNum 2 f.lastLine ++ num2 (flagsNum f.flags)

/-- A lane's counts, in the order of R48's table. -/
def laneCountBytes (c : LaneCounts) : List Byte :=
  num4 c.attempts ++ num4 c.lockLosses ++ num4 c.crcErrors ++ num4 c.lockTruncations ++ num4 c.dataErrors ++
  num4 c.protocolErrors ++ num4 c.strays ++ num4 c.lostLines ++ num4 c.noStart ++ num4 c.deadlineTruncations ++
  num4 c.started ++ num4 c.dropped ++ num4 c.closed

/-- The fields of LANE_STATUS's reply (R48). -/
def State.laneStatusFields (s : State) (p : Port) : List Byte :=
  let l := s.lanes[p]
  num1 l.state.code ++ num8 l.since ++ num2 l.failedRun ++ [l.tag] ++ optField 26 windowBytes l.window ++
  optField 12 rxFrameBytes l.frame ++ num2 l.lastMean ++ laneCountBytes l.counts

/-- LANE_STATUS (R48). -/
def execLaneStatus (s : State) : Result :=
  s.serve 0x08 1 (fun b s =>
    match portAt b 0 with
    | none => s.reply .outOfRange
    | some p => s.answer .ok (s.laneStatusFields p))

/-! ## Training (R33 to R35) -/

/-- The lane reaches lock (R33): the notice gives the failed attempts before it, and the run returns to 0. -/
def State.lockReached (s : State) (p : Port) : State :=
  (((s.laneEnters p .locked).setLane p (fun l => { l with deadlineAt := none })).laneNotice p .training .locked).setLane p
    (fun l => { l with failedRun := 0 })

/-- LANE_LOCK_ACQUIRED (R33). -/
def execLaneLockAcquired (p : Port) (s : State) : Result :=
  if s.lanes[p].state = .training then finish (s.lockReached p) else .next s

/-- Whether a training attempt's deadline has come (R33). -/
def State.trainingDue (s : State) (p : Port) : Bool := s.lanes[p].state = .training && due s.lanes[p].deadlineAt s.clock

/-- One lock loss counted as a data error (R33, R34, R47). -/
def State.lockLoss (s : State) (p : Port) : State :=
  (s.laneCount p (fun c => { c with lockLosses := sat32 c.lockLosses })).laneDataError p

/-- The failed-attempt run one higher. What follows 65,535 the spec does not state: it is a free value
(notes/assumptions/16.md). -/
def State.failedRunUp (s : State) (p : Port) : State :=
  if s.lanes[p].failedRun < 65535 then s.setLane p (fun l => { l with failedRun := l.failedRun + 1 })
  else (s.setLane p (fun l => { l with failedRun := s.freeBelow 65536 })).usedFree

/-- A training attempt fails (R33). -/
def State.trainingFails (s : State) (p : Port) : State :=
  let t := (((s.laneEnters p .down).setLane p (fun l => { l with
    deadlineAt := none, retryAt := some (s.clock + 250000) })).lockLoss p).failedRunUp p
  if t.lanes[p].failedRun = 1 then t.laneNotice p .training .trainFailed else t

/-- TRAINING_DEADLINE (R33). -/
def execTrainingDeadline (p : Port) (s : State) : Result :=
  if s.trainingDue p then finish (s.trainingFails p) else .next s

/-- Whether a retry is due: an acquisition on the port puts it off (R33, R35). -/
def State.retryDue (s : State) (p : Port) : Bool :=
  s.power[p].state = .on && s.lanes[p].state = .down && due s.lanes[p].retryAt s.clock && !s.acquiringOn p

/-- TRAINING_RETRY (R33). -/
def execTrainingRetry (p : Port) (s : State) : Result :=
  if s.retryDue p then finish (s.startTraining p s.clock) else .next s

/-- A lane in LOCKED loses lock (R34): the loss is counted, a new attempt begins, and a frame in reception is closed
(R45). -/
def State.losesLock (s : State) (p : Port) : State :=
  let t := ((s.lockLoss p).startTraining p s.clock).laneNotice p .locked .lockLost
  match s.lanes[p].frame with
  | none => t
  | some f =>
    (((t.laneCount p (fun c => { c with lockTruncations := sat32 c.lockTruncations })).laneDataError p).closeFrame p f
      cutTruncated)

/-- LOCK_LOST (R34). -/
def execLockLost (p : Port) (s : State) : Result :=
  if s.lanes[p].state = .locked then finish (s.losesLock p) else .next s

/-- Whether the retrain of a QUIET period is to be judged (R35). -/
def State.retrainDue (s : State) (p : Port) : Bool := s.lanes[p].state = .quiet && due s.lanes[p].retrainAt s.clock

/-- The lane leaves QUIET (R35): for LOCKED, or for TRAINING with the deadline counted from the acquisition's end.
DESIGN CHOICE: the failed-attempt run stands as it is at a return to LOCKED (notes/assumptions/53.md). -/
def State.retrained (s : State) (p : Port) (hasLock : Bool) : State :=
  (if hasLock then (s.laneEnters p .locked).setLane p (fun l => { l with retrainAt := none })
   else (s.startTraining p (s.lanes[p].retrainAt.getD s.clock - 100)).laneNotice p .quiet .retrainSlow).laneLeftQuiet p

/-- QUIET_RETRAIN_END (R35). -/
def execQuietRetrainEnd (p : Port) (hasLock : Bool) (s : State) : Result :=
  if s.retrainDue p then finish (s.retrained p hasLock) else .next s

/-! ## The camera's packets (R38, R41 to R43) -/

/-- A protocol error at a lane (R48). -/
def State.protocolError (s : State) (p : Port) : State :=
  s.laneCount p (fun c => { c with protocolErrors := sat32 c.protocolErrors })

/-- A stray packet at a lane (R48). -/
def State.stray (s : State) (p : Port) : State := s.laneCount p (fun c => { c with strays := sat32 c.strays })

/-- PACKET_UNKNOWN_TYPE (R38): packets are decoded in LOCKED alone. -/
def execPacketUnknownType (p : Port) (s : State) : Result :=
  if s.lanes[p].state = .locked then finish (s.protocolError p) else .next s

/-- The reception state of the window of a port changed. -/
def State.setRx (s : State) (p : Port) (rx : RxState) : State :=
  s.setLane p (fun l => { l with window := l.window.map (fun w => { w with rx := rx }) })

/-- The lane's request to open a frame for its window (R82). -/
def State.openRequest (s : State) (p : Port) (w : RxWindow) : OpenRequest :=
  let f := s.profileOf p
  ⟨p, w.slot, w.cycle, w.position, w.sendTime, f.width, f.height, f.depth, w.flags⟩

/-- The frame record of a frame opened for a window (section 2.5). -/
def rxFrameOf (w : RxWindow) (q : OpenRequest) (buffer : Fin 48) (id : Nat) : RxFrame where
  tag := w.tag
  buffer := buffer
  id := id
  slot := w.slot
  cycle := w.cycle
  position := w.position
  triggerTime := w.sendTime
  width := q.width
  height := q.height
  depth := q.depth
  flags := w.flags

/-- A FRAME_START that matches its window: a frame is opened, or dropped for want of a buffer (R41, R82). -/
def State.openWindowFrame (s : State) (p : Port) (w : RxWindow) : State :=
  let q := s.openRequest p w
  match s.store.openFrame q (s.slotHold w.slot) with
  | some (t, buffer, id) =>
    (((s.setStore (fun _ => t)).setLane p (fun l => { l with frame := some (rxFrameOf w q buffer id) })).setRx p
      .receiving).laneCount p (fun c => { c with started := sat32 c.started })
  | none =>
    ((s.setRx p .dropped).laneCount p (fun c => { c with dropped := sat32 c.dropped })).dropFrame q

/-- Whether a FRAME_START has the geometry of its port (R41). -/
def State.geometryMatches (s : State) (p : Port) (width height depth : Nat) : Bool :=
  let f := s.profileOf p
  width = f.width && height = f.height && depth = f.depth

/-- A FRAME_START taken by the window's reception state (R41). -/
def State.takeFrameStart (s : State) (p : Port) (tag : Byte) (width height depth : Nat) : State :=
  match s.lanes[p].window with
  | none => s.stray p
  | some w =>
    match w.rx with
    | .awaitingStart =>
      if tag = w.tag && s.geometryMatches p width height depth then s.openWindowFrame p w else s.protocolError p
    | .receiving | .dropped => s.protocolError p

/-- FRAME_START (R41). -/
def execFrameStart (p : Port) (tag : Byte) (width height depth : Nat) (s : State) : Result :=
  if s.lanes[p].state = .locked then finish (s.takeFrameStart p tag width height depth) else .next s

/-- A LINE for the frame in reception (R42). -/
def State.takeFrameLine (s : State) (p : Port) (f : RxFrame) (number : Nat) (pixels : List Byte) (crc : BitVec 32) :
    State :=
  if f.inOrder number then s.storeLine p f number pixels crc
  else s.setLane p (fun l => { l with frame := some { f with flags := { f.flags with lineErrors := true } } })

/-- A LINE taken by the window's reception state (R42, R45). -/
def State.takeLine (s : State) (p : Port) (number : Nat) (pixels : List Byte) (crc : BitVec 32) : State :=
  match s.lanes[p].window with
  | none => s.stray p
  | some w =>
    match w.rx with
    | .awaitingStart => s.stray p
    | .dropped => s
    | .receiving =>
      match s.lanes[p].frame with
      | none => s.stray p
      | some f => s.takeFrameLine p f number pixels crc

/-- LINE (R42). -/
def execLine (p : Port) (number : Nat) (pixels : List Byte) (crc : BitVec 32) (s : State) : Result :=
  if s.lanes[p].state = .locked then finish (s.takeLine p number pixels crc) else .next s

/-- The frame in reception ends (R43): lines the camera sent and the lane did not store are counted lost, and the frame is
closed. -/
def State.endFrame (s : State) (p : Port) (f : RxFrame) (lineCount : Nat) : State :=
  (s.laneCount p (fun c => { c with
    lostLines := satAdd 4294967295 c.lostLines (lineCount - f.stored.length) })).closeFrame p f id

/-- A FRAME_END taken by the window's reception state (R43, R45). -/
def State.takeFrameEnd (s : State) (p : Port) (tag : Byte) (lineCount : Nat) : State :=
  match s.lanes[p].window with
  | none => s.stray p
  | some w =>
    match w.rx with
    | .awaitingStart => s.protocolError p
    | .dropped => if tag = w.tag then (s.closeWindow p).checkCycle else s.protocolError p
    | .receiving =>
      if tag = w.tag then
        ((match s.lanes[p].frame with
          | none => s
          | some f => s.endFrame p f lineCount).closeWindow p).checkCycle
      else s.protocolError p

/-- FRAME_END (R43). -/
def execFrameEnd (p : Port) (tag : Byte) (lineCount : Nat) (s : State) : Result :=
  if s.lanes[p].state = .locked then finish (s.takeFrameEnd p tag lineCount) else .next s

/-! ## The ends of windows (R40, R44) -/

/-- Whether the reception window of a port stands at its deadline (R44). -/
def State.deadlineDue (s : State) (p : Port) : Bool :=
  match s.lanes[p].window with
  | none => false
  | some w => w.deadline ≤ s.clock

/-- RECEPTION_DEADLINE (R44). -/
def execReceptionDeadline (p : Port) (s : State) : Result :=
  if s.deadlineDue p then finish ((s.deadlineClose p).checkCycle) else .next s

/-- Whether the exposure window of a port stands at its end (R40). -/
def State.exposureDue (s : State) (p : Port) : Bool :=
  match s.lanes[p].exposure with
  | none => false
  | some e => e.endAt ≤ s.clock

/-- EXPOSURE_WINDOW_END (R40). -/
def execExposureWindowEnd (p : Port) (s : State) : Result :=
  if s.exposureDue p then finish (s.exposureEnds p) else .next s

end Sys2Proof.Machine
end

