-- ==== Sys2Proof/Machine/Plans.lean ====
section
/-!
DEFINITION. The commands of chapter 3: the plan requests, SIGNAL_CONFIG, and the events that start and carry out cycles.
-/

namespace Sys2Proof.Machine

/-! ## PLAN_LOAD (R51 to R54) -/

/-- The fields of a reply that names a failed check (R51). -/
def failureFields (f : PlanFailure) : List Byte :=
  num1 f.check ++ optNum 1 f.slot ++ optNum 1 (f.port.map (·.val))

/-- A PLAN_LOAD or PLAN_ARM refused by a check. -/
def State.refusePlan (s : State) (f : PlanFailure) : State := s.answer f.status (failureFields f)

/-- Check 1 of R51: the fields of the plan lie in their ranges and each slot marks a port. -/
def planOutOfRange (b : List Byte) : Option PlanFailure :=
  if !planHeaderInRange b then some ⟨.outOfRange, 1, none, none⟩
  else (badSlot b).map (fun k => ⟨.outOfRange, 1, some k, none⟩)

/-- The strobe counts used of a plan, as the reply carries them. -/
def usedBytes (q : Plan) : List Byte := listField (fun (k : Slot) => num1 k.used) q.slots

/-- A plan that has passed its checks replaces any plan held (R51, R53). -/
def State.holdPlan (s : State) (q : Plan) : State :=
  let t := (s.setSeq (fun u => { u with plan := some q, state := .loaded })).planNotice s.seq.state .load
  t.sweepResume.answer (if q.clamped then .clamped else .ok) (usedBytes q)

/-- PLAN_LOAD's owner acts (R51). -/
def State.planLoad (b : List Byte) (s : State) : State :=
  if s.seq.state.inService then s.reply .wrongState
  else if !planLengthOk b then s.reply .badLength
  else
    match planOutOfRange b <|> s.planFails (planOf b) with
    | some f => s.refusePlan f
    | none => s.holdPlan (planOf b).withUsed

/-- PLAN_LOAD (R51): its length is its owner's to check (R173). -/
def execPlanLoad (s : State) : Result := s.serveWhen 0x09 (fun _ => true) (fun _ => true) State.planLoad

/-! ## PLAN_ARM, PLAN_STOP, PLAN_ABORT, PLAN_CLEAR (R55 to R58) -/

/-- The plan is armed (R55 step 3): its reservation joins the committed sum and every count is cleared. -/
def State.armPlan (s : State) : State :=
  let t := (s.setSeq (fun q => { q with
    state := .armed
    cycleCounter := 0
    begun := 0
    delayed := 0
    overruns := 0
    ignored := 0
    missed := Vector.replicate 4 (Vector.replicate 8 0)
    exceed := Vector.replicate 8 0 })).planNotice .loaded .arm
  if t.seq.freeRun then (t.takeStart .timer).1 else t.sweepResume

/-- PLAN_ARM's owner acts (R55, R23). -/
def State.planArm (s : State) : State :=
  match s.seq.state, s.seq.plan with
  | .loaded, some q =>
    match s.planFails q with
    | some f => s.refusePlan f
    | none =>
      if s.supply.low.isSome || s.settings.capacity < s.committed + s.strobeReservation then
        s.answer .noBudget (num2 s.strobeReservation ++ num2 s.committed)
      else s.armPlan.answer .ok (num2 s.strobeReservation)
  | _, _ => s.reply .wrongState

/-- PLAN_ARM (R55). -/
def execPlanArm (s : State) : Result := s.serve 0x0A 0 (fun _ s => s.planArm)

/-- The plan in RUNNING goes to STOPPING (R56). -/
def State.stopRunning (s : State) : State :=
  ((s.setSeq (fun q => { q with state := .stopping, pending := none, nextExpiry := none })).planNotice .running
    .stop).sweepResume

/-- PLAN_STOP's owner acts (R56). -/
def State.planStop (s : State) : State :=
  match s.seq.state with
  | .armed => (s.planEnds .stop).reply .ok
  | .running => s.stopRunning.reply .ok
  | .stopping => s.reply .ok
  | .empty | .loaded => s.reply .wrongState

/-- PLAN_STOP (R56). -/
def execPlanStop (s : State) : Result := s.serve 0x0B 0 (fun _ s => s.planStop)

/-- A lane of a port in the plan is told that the plan is aborted (R57): its windows close. -/
def State.abortLane (p : Port) (s : State) : State := (s.cutWindow p cutAborted).closeExposure p

/-- The plan is aborted (R57): the lanes cut their windows, the plan ends, and motions put off for a window are sent. -/
def State.abortPlan (s : State) : State :=
  let marked := portsWhere s.seq.marks
  State.forPorts (fun p t => t.busPump p) marked ((State.forPorts State.abortLane marked s).planEnds .abort)

/-- PLAN_ABORT's owner acts (R57). -/
def State.planAbort (s : State) : State :=
  if s.seq.state.inService then s.abortPlan.reply .ok else s.reply .wrongState

/-- PLAN_ABORT (R57). -/
def execPlanAbort (s : State) : Result := s.serve 0x0C 0 (fun _ s => s.planAbort)

/-- PLAN_CLEAR's owner acts (R58). -/
def State.planClear (s : State) : State :=
  match s.seq.state with
  | .loaded =>
    ((s.setSeq (fun q => { q with state := .empty, plan := none })).planNotice .loaded .clear).sweepResume.reply .ok
  | .empty => s.reply .ok
  | .armed | .running | .stopping => s.reply .wrongState

/-- PLAN_CLEAR (R58). -/
def execPlanClear (s : State) : Result := s.serve 0x0D 0 (fun _ s => s.planClear)

/-! ## PLAN_FIRE (R66) -/

/-- The code of PLAN_FIRE's outcome. -/
def StartTaken.code : StartTaken → Nat
  | .started => 0 | .pending => 1 | .held => 2 | .overrun => 3 | .ignored => 4

/-- PLAN_FIRE's owner acts (R66). -/
def State.planFire (s : State) : State :=
  match s.seq.state with
  | .armed | .running =>
    if s.seq.lineTrigger then
      let r := s.takeStart .fire
      r.1.answer .ok (num1 r.2.code)
    else s.reply .wrongState
  | .empty | .loaded | .stopping => s.reply .wrongState

/-- PLAN_FIRE (R66). -/
def execPlanFire (s : State) : Result := s.serve 0x0E 0 (fun _ s => s.planFire)

/-! ## PLAN_STATUS and SIGNAL_CONFIG (R74, R75) -/

/-- A slot as PLAN_STATUS gives it: its fields in the order of section 3.2. DESIGN CHOICE: the strobe count used comes after
them (R75, notes/assumptions/80.md). -/
def slotBytes (k : Slot) : List Byte :=
  portMask (portsWhere k.marks) ++ num4 k.offset ++ num4 k.exposure ++ num1 k.pulses ++ num4 k.firstPulse ++
  num2 k.pulseWidth ++ num2 k.pulsePeriod ++ (k.fire.map (fun f => num1 (if f then 0 else 1))).flatten ++
  (k.signs.map (fun g => num1 g.code)).flatten ++ optNum 1 (k.preset.map (·.val)) ++ flagByte k.hold ++ num1 k.used

/-- A plan record as PLAN_STATUS gives it. -/
def planBytes (q : Plan) : List Byte :=
  num1 q.mode.code ++ optNum 4 q.period ++ optNum 1 (q.edge.map edgeCode) ++ num1 q.length ++ listField slotBytes q.slots

/-- A current cycle as PLAN_STATUS gives it (R75). DESIGN CHOICE: an open reception window is carried as its slot and its
port, and the slots dispatched and the open windows stand in the order of dispatch and of opening
(notes/assumptions/56.md). -/
def cycleBytes (c : Cycle) : List Byte :=
  num8 c.number ++ num1 c.position ++ num8 c.start ++ flagByte c.delayed ++
  listField (fun (k : Fin 4) => num1 k.val) c.dispatched ++
  listField (fun (w : Fin 4 × Port) => num1 w.1.val ++ num1 w.2.val) c.windows

/-- A pending trigger as PLAN_STATUS gives it. -/
def pendingBytes (t : PendingTrigger) : List Byte := num1 t.source.code ++ num8 t.arrival ++ flagByte t.held

/-- The MISSED counts of each slot of the plan and each port marked in it (R75). DESIGN CHOICE: after PLAN_CLEAR there is
no slot to list them by, and none is listed (R58, notes/assumptions/55.md). -/
def Sequencer.missedBytes (q : Sequencer) : List Byte :=
  listField num4 (q.numbered.map (fun k => (portsWhere k.2.marks).map (fun p => (q.missed[k.1])[p]))).flatten

/-- The function and level of a signal output. -/
def State.signalBytes (s : State) (f : SignalFunction) : List Byte := num1 f.code ++ flagByte (s.signalLevel f)

/-- The fields of PLAN_STATUS's reply (R75). DESIGN CHOICE: the last row is the function and level of SIGNAL_A, then those
of SIGNAL_B (notes/assumptions/56.md). -/
def State.planStatusFields (s : State) : List Byte :=
  let q := s.seq
  num1 q.state.code ++ optField 0 planBytes q.plan ++ num2 s.strobePart ++ portMask (portsWhere q.owns) ++
  num8 q.cycleCounter ++ optField 0 cycleBytes q.current ++ optField 10 pendingBytes q.pending ++
  optNum 8 q.nextExpiry ++ num4 q.begun ++ num4 q.delayed ++ num4 q.overruns ++ num4 q.ignored ++ q.missedBytes ++
  listField num1 q.exceed.toList ++ s.signalBytes s.settings.signalA ++
  s.signalBytes s.settings.signalB

/-- PLAN_STATUS (R75). -/
def execPlanStatus (s : State) : Result := s.serve 0x0F 0 (fun _ s => s.answer .ok s.planStatusFields)

/-- SIGNAL_CONFIG's owner acts (R74). -/
def State.signalConfig (b : List Byte) (s : State) : State :=
  if numAt b 0 1 ≤ 4 && numAt b 1 1 ≤ 4 then
    ({ s with settings := { s.settings with
      signalA := signalFunctionOf (numAt b 0 1), signalB := signalFunctionOf (numAt b 1 1) } }).reply .ok
  else s.reply .outOfRange

/-- SIGNAL_CONFIG (R74). -/
def execSignalConfig (s : State) : Result := s.serve 0x10 2 State.signalConfig

/-! ## The events of a plan in service -/

/-- Whether the FREE_RUN period timer expires: an expiry that has become the pending trigger has been taken (R60, R63).
DESIGN CHOICE: the next expiry keeps its past time until that trigger's cycle begins (notes/assumptions/54.md). -/
def State.expiryDue (s : State) : Bool :=
  s.seq.freeRun && (s.seq.state = .armed || s.seq.state = .running) && due s.seq.nextExpiry s.clock &&
  !s.seq.pending.any (fun t => t.source = .timer)

/-- PERIOD_EXPIRY (R60). -/
def execPeriodExpiry (s : State) : Result := if s.expiryDue then finish (s.takeStart .timer).1 else .next s

/-- Whether an edge of TRIG_IN is a start: the plan is in LINE_TRIGGER on this edge (R60). -/
def Sequencer.takesEdge (q : Sequencer) (edge : Edge) : Bool :=
  match q.plan with
  | none => false
  | some p => p.mode = .lineTrigger && p.edge = some edge

/-- TRIG_IN_EDGE (R60). -/
def execTrigInEdge (edge : Edge) (s : State) : Result :=
  if s.seq.takesEdge edge then finish (s.takeStart .line).1 else .next s

/-- Whether a held start may begin its cycle (R62). -/
def State.heldDue (s : State) : Bool := s.seq.state = .armed && s.seq.pending.any (·.held) && !s.planQuiet

/-- HELD_CYCLE_START (R62). -/
def execHeldCycleStart (s : State) : Result := if s.heldDue then finish (s.beginCycle true) else .next s

/-- The slot and cycle of a dispatch that is due: the slot's offset in the current cycle is reached (R64). -/
def State.dispatchDue (s : State) (slot : Fin 4) : Option (Slot × Cycle) :=
  match s.seq.current, s.seq.slot? slot with
  | some c, some k => if !c.dispatched.contains slot && c.start + k.offset ≤ s.clock then some (k, c) else none
  | _, _ => none

/-- SLOT_DISPATCH (R64). -/
def execSlotDispatch (slot : Fin 4) (s : State) : Result :=
  match s.dispatchDue slot with
  | some (k, c) => finish (s.dispatch slot k c)
  | none => .next s

end Sys2Proof.Machine
end

