-- ==== Sys2Proof/Machine/Frames.lean ====
section
/-!
DEFINITION. The commands of chapter 4: FRAME_HOLD, FRAME_RELEASE, STORE_STATUS and the completion of a combine.
-/

namespace Sys2Proof.Machine

/-- Whether FRAME_HOLD takes a frame in a buffer state (R94). -/
def BufferState.takesHold : BufferState → Bool
  | .filling | .grouped | .combining | .queued => true
  | .free | .sending | .held => false

/-- FRAME_HOLD's owner acts (R94). -/
def State.frameHold (b : List Byte) (s : State) : State :=
  let id := numAt b 0 4
  if (s.store.stateOf id).any (·.takesHold) then
    (s.setStore (fun t => t.setFrame id (fun f => { f with hold := true }))).reply .ok
  else s.reply .notFound

/-- FRAME_HOLD (R94). -/
def execFrameHold (s : State) : Result := s.serve 0x11 4 State.frameHold

/-- Whether a region read of a frame is on the region queue or in flight (R108). -/
def Uplink.reads (u : Uplink) (id : Nat) : Bool :=
  u.regions.any (fun e => e.frame = id) ||
  u.item.any (fun i => i.frame = id && i.kind != .frame)

/-- FRAME_RELEASE's owner acts (R95). -/
def State.frameRelease (b : List Byte) (s : State) : State :=
  let id := numAt b 0 4
  if s.store.stateOf id = some .held then
    if s.uplink.reads id then s.reply .busy else (s.freeFrame id).reply .ok
  else s.reply .notFound

/-- FRAME_RELEASE (R95). -/
def execFrameRelease (s : State) : Result := s.serve 0x12 4 State.frameRelease

/-! ## STORE_STATUS (R96) -/

/-- A group as STORE_STATUS gives it: its member places by signed position. -/
def groupBytes (g : Group) : List Byte :=
  num1 g.slot.val ++ num1 g.port.val ++ num8 g.pass ++ num1 (if g.broken then 1 else 0) ++
  listField (fun (i : Fin 8) => optNum 4 g.places[i]) ((List.finRange 8).filter (fun i => g.isSigned i.val))

/-- A complete group as STORE_STATUS gives it. -/
def queuedGroupBytes (g : Group) : List Byte :=
  num1 g.slot.val ++ num1 g.port.val ++ num8 g.pass ++ listField num4 g.present

/-- The combine in progress as STORE_STATUS gives it. -/
def combineBytes (c : Combine) : List Byte :=
  num1 c.slot.val ++ num1 c.port.val ++ listField (fun (m : Sign × Nat) => num4 m.2) c.members ++ num8 c.startAt ++
  num8 c.endAt

/-- The fields of STORE_STATUS's reply without a frame id (R96). DESIGN CHOICE: the combine groups are listed by their
latest change, the oldest first, and the held set in the order its places were taken (notes/assumptions/57.md). -/
def Store.statusFields (t : Store) : List Byte :=
  listField (fun (b : BufferState) => num1 b.code) t.buffers.toList ++ listField (fun (b : Fin 48) => num1 b.val) t.freeList ++
  listField num4 t.outputQueue ++ listField groupBytes t.groups ++ listField queuedGroupBytes t.combineQueue ++
  optField 0 combineBytes t.combine ++ listField num4 t.heldSet ++ num4 t.idCounter ++
  listField num4 t.drops.toList ++ num4 t.combinesDone ++ num4 t.abandoned ++ num4 t.overflows

/-- A frame record as STORE_STATUS gives it, with the state of its buffer (R80, R96). -/
def frameRecordBytes (f : FrameRecord) (st : BufferState) : List Byte :=
  num4 f.id ++ num1 f.buffer.val ++ num1 f.port.val ++ num1 f.slot.val ++ num8 f.cycle ++ num1 f.position ++
  num8 f.triggerTime ++ num2 f.width ++ num2 f.height ++ num1 f.depth ++ optNum 2 f.mean ++ num2 (flagsNum f.flags) ++
  flagByte f.hold ++ flagByte f.heldPlace ++ optField 0 (listField num4) f.members ++ num1 st.code

/-- STORE_STATUS's owner acts (R96). -/
def State.storeStatus (b : List Byte) (s : State) : State :=
  if !flagOkAt b 0 then s.reply .outOfRange
  else match optAt b 0 4 with
    | none => s.answer .ok s.store.statusFields
    | some id =>
      match s.store.frame? id with
      | none => s.reply .notFound
      | some f => s.answer .ok (frameRecordBytes f s.store.buffers[f.buffer])

/-- STORE_STATUS (R96). -/
def execStoreStatus (s : State) : Result := s.serve 0x13 5 State.storeStatus

/-! ## COMBINE_COMPLETE (R90) -/

/-- The combine in progress, when its end time has come (R90). -/
def State.combineDue (s : State) : Option Combine := s.store.combine.filter (fun c => c.endAt ≤ s.clock)

/-- COMBINE_COMPLETE (R90). -/
def execCombineComplete (s : State) : Result :=
  match s.combineDue with
  | some c => finish (s.completeCombine c)
  | none => .next s

end Sys2Proof.Machine
end

