-- ==== Sys2Proof/Machine/UplinkCommands.lean ====
section
/-!
DEFINITION. The commands of chapter 5: REGION_READ, UPLINK_STATUS, the return words, the return silence and the end of a
packet.
-/

namespace Sys2Proof.Machine

/-! ## REGION_READ (R106) -/

/-- The region number counter one higher, wrapping from 65,535 to 0 (R106). -/
def nextRegionNumber (n : Nat) : Nat := if 65535 ≤ n then 0 else n + 1

/-- Whether a region read's fields fail checks 2 to 4 of R106 against a frame's height. -/
def regionOutOfRange (mode start count height : Nat) : Bool :=
  2 < mode || height ≤ start || (mode = 0 && !inRange 1 height count) ||
  (mode ≠ 0 && height < start / (regionModeOf mode).group * (regionModeOf mode).group + (regionModeOf mode).group)

/-- A region read entry joins the region queue (R106). -/
def State.joinRegion (s : State) (e : RegionEntry) : State :=
  (s.setUplink (fun u => { u with regions := u.regions ++ [e], regionCounter := e.number })).sendChoice

/-- REGION_READ's owner acts (R106): frame id, start line, mode and count. -/
def State.regionRead (b : List Byte) (s : State) : State :=
  let id := numAt b 0 4
  let start := numAt b 4 2
  let mode := numAt b 6 1
  let count := numAt b 7 2
  match s.store.frame? id with
  | none => s.reply .notFound
  | some f =>
    if s.store.stateOf id ≠ some .held then s.reply .notFound
    else if regionOutOfRange mode start count f.height then s.reply .outOfRange
    else if 4 ≤ s.uplink.regions.length then s.reply .queueFull
    else
      let e : RegionEntry :=
        ⟨nextRegionNumber s.uplink.regionCounter, id, regionModeOf mode, start, if mode = 0 then some count else none, s.clock⟩
      (s.joinRegion e).answer .ok (num2 e.number ++ num2 e.lines ++ num1 (s.uplink.regions.length + 1))

/-- REGION_READ (R106). -/
def execRegionRead (s : State) : Result := s.serve 0x14 9 State.regionRead

/-! ## UPLINK_STATUS (R112) -/

/-- The item in flight as UPLINK_STATUS gives it (R112). DESIGN CHOICE: the lines to send are those that remain
(notes/assumptions/59.md). -/
def State.itemBytes (s : State) (i : Item) : List Byte :=
  let height := match s.store.frame? i.frame with
    | none => 0
    | some f => f.height
  num1 i.kind.code ++ num4 i.frame ++ optNum 2 i.kind.regionNumber ++ num2 i.sent ++ num2 (i.kind.lines height - i.sent) ++
  flagByte s.uplink.waiting

/-- A region read entry as UPLINK_STATUS gives it. -/
def regionBytes (e : RegionEntry) : List Byte :=
  num2 e.number ++ num4 e.frame ++ num1 e.mode.code ++ num2 e.start ++ optNum 2 e.count ++ num8 e.arrival

/-- The transmitter's counts, in the order of R112. -/
def uplinkCountBytes (c : UplinkCounts) : List Byte :=
  num4 c.handshakes ++ num4 c.downs ++ num4 c.framesSent ++ num4 c.regionsSent ++ num4 c.framesLost ++
  num4 c.regionsLost ++ num4 c.abortedTrailers ++ num4 c.creditWaits ++ num4 c.discardedCredits ++
  num4 c.discardedGrants ++ num4 c.returnErrors

/-- The fields of UPLINK_STATUS's reply (R112). -/
def State.uplinkStatusFields (s : State) : List Byte :=
  let u := s.uplink
  num1 (if u.up then 1 else 0) ++ num8 u.since ++ num2 u.credits ++ optField 13 s.itemBytes u.item ++
  optField 6 (fun (t : PendingTrailer) => num4 t.frame ++ num2 t.sent) u.trailer ++ listField regionBytes u.regions ++
  num2 u.regionCounter ++ uplinkCountBytes u.counts

/-- UPLINK_STATUS (R112). -/
def execUplinkStatus (s : State) : Result := s.serve 0x15 0 (fun _ s => s.answer .ok s.uplinkStatusFields)

/-! ## The return lane (R99 to R102) -/

/-- A good return word restarts the return silence timer (R100, R101). -/
def State.goodWord (s : State) : State := s.setUplink (fun u => { u with lastGoodWord := s.clock })

/-- READY (R100, R101): a handshake, or with the link UP a restart. -/
def execReady (grant : BitVec 16) (s : State) : Result :=
  finish ((if s.uplink.up then s.linkDown .restart else s).linkUp grant.toNat).sendChoice

/-- A good GRANT with the link UP (R102). -/
def State.addGrant (s : State) (grant : Nat) : State :=
  (s.setUplink (fun u => { u with
    credits := addCredits u.credits grant
    counts := { u.counts with
      discardedCredits := satAdd 4294967295 u.counts.discardedCredits (u.credits + grant - 4096) } })).uplinkNext

/-- GRANT (R100, R102): with the link DOWN it is discarded and counted. -/
def execGrant (grant : BitVec 16) (s : State) : Result :=
  if s.uplink.up then finish (s.goodWord.addGrant grant.toNat)
  else finish (s.goodWord.uplinkCount (fun c => { c with discardedGrants := sat32 c.discardedGrants }))

/-- IDLE (R100, R101): a good word. -/
def execIdle (s : State) : Result := finish s.goodWord

/-- RETURN_ERROR (R99): the word is discarded and counted. -/
def execReturnError (s : State) : Result :=
  finish (s.uplinkCount (fun c => { c with returnErrors := sat32 c.returnErrors }))

/-- Whether the return lane has been silent for 1,000 µs with the link UP (R101). -/
def State.silenceDue (s : State) : Bool := s.uplink.up && s.uplink.lastGoodWord + 1000 ≤ s.clock

/-- RETURN_SILENCE (R101). -/
def execReturnSilence (s : State) : Result := if s.silenceDue then finish (s.linkDown .silence) else .next s

/-- UPLINK_PACKET_END (R103): the packet under way has been sent, and the next begins or the send choice is made. -/
def execUplinkPacketEnd (s : State) : Result :=
  match s.uplink.packet with
  | some p => finish (s.packetEnded p).uplinkNext
  | none => .next s

end Sys2Proof.Machine
end

