-- ==== Sys2Proof/Machine/Lenses.lean ====
section
/-!
DEFINITION. The commands of chapter 6: the lens requests, the polls, deadlines and settle times of a move, and the events
of a sideband bus.
-/

namespace Sys2Proof.Machine

/-! ## LENS_MOVE and LENS_PRESET (R117) -/

/-- Checks 2 and 3 of R117: why a lens takes no SEEK from a request. -/
def State.seekRefused (s : State) (p : Port) : Option Status :=
  match s.lenses[p].state with
  | .absent | .unknown | .stalled | .fault => some .wrongState
  | .idle | .moving | .homing => if s.seq.owns p then some .planOwnsLens else none

/-- Check 4 of R117: whether the targets name an axis and none that the lens lacks. -/
def Axes.fitKind (a : Axes) (k : LensKind) : Bool :=
  (a.focus.isSome || a.iris.isSome || a.zoom.isSome) && (a.focus.isNone || k.hasFocus) &&
  (a.iris.isNone || k.hasIris) && (a.zoom.isNone || k.hasZoom)

/-- Targets brought to the nearest end of each axis's range (R117). -/
def Axes.clamped (a : Axes) : Axes := ⟨a.focus.map (min 4095), a.iris.map (min 255), a.zoom.map (min 4095)⟩

/-- A LENS_MOVE's targets become the pending move (R117, R118). -/
def State.takeMove (s : State) (p : Port) (a : Axes) : State :=
  let t := s.setPending p ⟨.seek, a.clamped, 0, .host, none⟩
  if a.clamped = a then t.reply .ok else t.answer .clamped (axesBytes a.clamped)

/-- LENS_MOVE's owner acts (R117). DESIGN CHOICE: a presence byte above 1 is refused before checks 2 and 3
(notes/assumptions/73.md). -/
def State.lensMove (b : List Byte) (s : State) : State :=
  match portAt b 0 with
  | none => s.reply .outOfRange
  | some p =>
    if !axesOkAt b 1 then s.reply .outOfRange
    else match s.seekRefused p with
      | some st => s.reply st
      | none =>
        if (axesAt b 1).fitKind (s.profileOf p).lensKind then s.takeMove p (axesAt b 1) else s.reply .outOfRange

/-- LENS_MOVE (R117). -/
def execLensMove (s : State) : Result := s.serve 0x16 9 State.lensMove

/-- LENS_PRESET's owner acts (R117). -/
def State.lensPreset (b : List Byte) (s : State) : State :=
  match portAt b 0, finAt b 1 8 with
  | some p, some i =>
    match s.seekRefused p with
    | some st => s.reply st
    | none => (s.setPending p (s.presetMove p i .host)).reply .ok
  | _, _ => s.reply .outOfRange

/-- LENS_PRESET (R117). -/
def execLensPreset (s : State) : Result := s.serve 0x17 2 State.lensPreset

/-! ## LENS_PRESET_SET (R116) and LENS_HOME (R119) -/

/-- LENS_PRESET_SET's owner acts (R116). -/
def State.lensPresetSet (b : List Byte) (s : State) : State :=
  match portAt b 0, finAt b 1 8, presetOf b with
  | some p, some i, some e =>
    ({ s with settings := { s.settings with
      presets := upd s.settings.presets p (fun t => upd t i (fun _ => e)) } }).reply .ok
  | _, _, _ => s.reply .outOfRange

/-- LENS_PRESET_SET (R116). -/
def execLensPresetSet (s : State) : Result := s.serve 0x18 11 State.lensPresetSet

/-- LENS_HOME's owner acts (R119). -/
def State.lensHome (b : List Byte) (s : State) : State :=
  match portAt b 0 with
  | none => s.reply .outOfRange
  | some p => if s.lenses[p].state = .absent then s.reply .wrongState else (s.setPending p hostHome).reply .ok

/-- LENS_HOME (R119). -/
def execLensHome (s : State) : Result := s.serve 0x19 1 State.lensHome

/-! ## LENS_HALT (R120) -/

/-- A halt clears the pending move and withdraws its standing claim. -/
def State.haltPending (s : State) (p : Port) : State :=
  (s.setLens p (fun l => { l with pending := none, stage := .none, toBegin := false, waits := 0 })).withdrawLensClaim p

/-- The halt read begins (R120): the first REPORT, and 100 ms for a settled one. DESIGN CHOICE: the 10 ms of its repeats count
from the halt, also where the first REPORT waits (notes/assumptions/96.md). -/
def State.beginHaltRead (s : State) (p : Port) (move : Option Move) : State :=
  (s.setLens p (fun l => { l with halt := some ⟨move, s.clock + 100000, s.clock + 10000⟩ })).askTxn p .haltRead
    (txnBytes .haltRead)

/-- The move in flight ends for a halt: its transactions that still wait are not made. -/
def State.dropFlight (s : State) (p : Port) : State :=
  s.setLens p (fun l => l.ends l.state l.position none)

/-- A halt's action ends with no read (R120): the surge is released and HALTED is sent. -/
def State.haltEnds (s : State) (p : Port) (move : Option Move) : State :=
  (s.releaseSurge p).lensNotice p .halted move none

/-- STOP is sent where the port is ON (R120). -/
def State.stopIfOn (s : State) (p : Port) : State := if s.power[p].state = .on then s.sendStop p else s

/-- The halt acts on the lens by its state (R120). -/
def State.haltLens (s : State) (p : Port) : State :=
  let t := s.haltPending p
  let flight := t.lenses[p].flight
  let move := flight.map (·.move)
  match t.lenses[p].state with
  | .idle => t.beginHaltRead p none
  | .moving =>
    if flight.any (fun f => f.settleEndAt.isSome) then
      (t.setLens p (fun l => l.ends .idle l.position none)).haltEnds p move
    else ((t.dropFlight p).sendStop p).beginHaltRead p move
  | .homing => ((t.setLens p (fun l => l.ends .unknown {} none)).sendStop p).haltEnds p move
  | .unknown | .stalled | .fault => (t.stopIfOn p).haltEnds p none
  | .absent => t

/-- LENS_HALT's owner acts (R120): during a halt read it adds nothing. -/
def State.lensHalt (b : List Byte) (s : State) : State :=
  match portAt b 0 with
  | none => s.reply .outOfRange
  | some p =>
    if s.lenses[p].state = .absent then s.reply .wrongState
    else if s.lenses[p].halt.isSome then s.reply .ok
    else (s.haltLens p).reply .ok

/-- LENS_HALT (R120). -/
def execLensHalt (s : State) : Result := s.serve 0x1A 1 State.lensHalt

/-! ## LENS_STATUS (R133) -/

/-- A move as LENS_STATUS gives it (section 6.2). -/
def moveBytes (m : Move) : List Byte :=
  num1 m.kind.code ++ axesBytes m.targets ++ num2 m.settle ++ num1 m.origin.code ++ optNum 1 (m.preset.map (·.val))

/-- The move in flight as LENS_STATUS gives it: with its phase, moving or settling, its estimate and its deadline. DESIGN
CHOICE: the deadline is the cell clock time at which it passes (R121, R133, notes/assumptions/98.md). -/
def flightBytes (f : Flight) : List Byte :=
  moveBytes f.move ++ num1 (if f.settleEndAt.isSome then 1 else 0) ++ num2 f.estimate ++ num8 f.deadline

/-- A preset entry as LENS_STATUS gives it (R116). -/
def presetBytes (e : PresetEntry) : List Byte := num2 e.focus ++ optNum 1 e.iris ++ optNum 2 e.zoom ++ num2 e.settle

/-- A lens's counts, in the order of R133. -/
def lensCountBytes (c : LensCounts) : List Byte :=
  num4 c.begun ++ num4 c.done ++ num4 c.waits ++ num4 c.stalls ++ num4 c.noAnswers ++ num4 c.rejections ++
  num4 c.busTimeouts ++ num4 c.arbLosses ++ num4 c.headMessages ++ num4 c.headErrors ++ num4 c.reportErrors

/-- The fields of LENS_STATUS's reply (R133). -/
def State.lensStatusFields (s : State) (p : Port) : List Byte :=
  let l := s.lenses[p]
  num1 (s.profileOf p).lensKind.code ++ num1 l.state.code ++ axesBytes l.position ++ optField 14 moveBytes l.pending ++
  num1 l.stage.code ++ num1 l.waits ++ num1 l.claim.code ++ optNum 1 (s.supply.place p .lens) ++
  optField 25 flightBytes l.flight ++ flagByte l.halt.isSome ++ num1 l.noAnswer ++
  optNum 1 (l.lastFault.map (·.code)) ++ flagByte (s.seq.owns p) ++ num1 l.bus.state.code ++
  listField presetBytes s.settings.presets[p].toList ++ lensCountBytes l.counts

/-- LENS_STATUS (R133). -/
def execLensStatus (s : State) : Result :=
  s.serve 0x1B 1 (fun b s =>
    match portAt b 0 with
    | none => s.reply .outOfRange
    | some p => s.answer .ok (s.lensStatusFields p))

/-! ## Polls, deadlines and settle times (R126 to R128) -/

/-- The flight whose poll slot has come (R126): before its settle phase. -/
def State.pollDue (s : State) (p : Port) : Option Flight :=
  s.lenses[p].flight.filter (fun f => f.settleEndAt.isNone && f.nextPoll ≤ s.clock)

/-- The transaction a poll slot makes (R126, R128): a REPORT, or the retry of a SEEK or FIND_HOME not yet acknowledged. A
slot that finds the bus taken is passed over. -/
def State.poll (s : State) (p : Port) (f : Flight) : State :=
  let t := s.setLens p (fun l => { l with flight := some { f with nextPoll := f.nextPoll + 10000 } })
  if s.lenses[p].bus.state = .free && s.lenses[p].bus.waiting = [] then
    if f.acked then t.askTxn p .poll (txnBytes .poll) else t.askTxn p .motion (motionBytes f.move)
  else t

/-- POLL_SLOT (R126). -/
def execPollSlot (p : Port) (s : State) : Result :=
  match s.pollDue p with
  | some f => finish (s.poll p f)
  | none => .next s

/-- The flight whose settle time has run (R126). -/
def State.settleDue (s : State) (p : Port) : Option Flight :=
  s.lenses[p].flight.filter (fun f => due f.settleEndAt s.clock)

/-- SETTLE_END (R126). -/
def execSettleEnd (p : Port) (s : State) : Result :=
  match s.settleDue p with
  | some f => finish (s.moveDone p f.move s.lenses[p].position)
  | none => .next s

/-- Whether the deadline of the move in flight has passed with no settled REPORT (R127). -/
def State.moveLate (s : State) (p : Port) : Bool :=
  s.lenses[p].flight.any (fun f => f.settleEndAt.isNone && f.deadline ≤ s.clock)

/-- The lens becomes STALLED and the stall is counted (R133). DESIGN CHOICE: every entry to STALLED is counted, and no other
fault (notes/assumptions/72.md). -/
def State.stall (s : State) (p : Port) (fault : LensFault) : State :=
  (s.lensCount p (fun c => { c with stalls := sat32 c.stalls })).lensFails p .stalled fault .stalled

/-- MOVE_DEADLINE (R127): STOP is sent and the lens is STALLED. -/
def execMoveDeadline (p : Port) (s : State) : Result :=
  if s.moveLate p then finish ((s.sendStop p).stall p .stall) else .next s

/-- The halt read whose next REPORT is due (R120). -/
def State.haltPollDue (s : State) (p : Port) : Option HaltRead :=
  s.lenses[p].halt.filter (fun h => h.nextPoll ≤ s.clock && s.clock < h.deadline)

/-- Whether a REPORT of a halt read is under way or waits for the bus. -/
def Bus.readsHalt (b : Bus) : Bool := b.txn.any (fun t => t.kind = .haltRead) || b.waiting.any (fun t => t.kind = .haltRead)

/-- The REPORT of a halt read is repeated (R120), unless the last one has not been made yet. -/
def State.haltPoll (s : State) (p : Port) (h : HaltRead) : State :=
  let t := s.setLens p (fun l => { l with halt := some { h with nextPoll := h.nextPoll + 10000 } })
  if s.lenses[p].bus.readsHalt then t else t.askTxn p .haltRead (txnBytes .haltRead)

/-- HALT_READ_POLL (R120). -/
def execHaltReadPoll (p : Port) (s : State) : Result :=
  match s.haltPollDue p with
  | some h => finish (s.haltPoll p h)
  | none => .next s

/-- Whether the deadline of a halt read has passed (R120). -/
def State.haltLate (s : State) (p : Port) : Bool := s.lenses[p].halt.any (fun h => h.deadline ≤ s.clock)

/-- HALT_DEADLINE (R120): the lens is FAULT with last fault STALL. -/
def execHaltDeadline (p : Port) (s : State) : Result :=
  if s.haltLate p then finish (s.lensFails p .fault .stall .halted) else .next s

/-! ## The bus (R125, R128 to R132) -/

/-- The transaction under way on a port's sideband, while the bus is the hub's. -/
def State.hubTxn (s : State) (p : Port) : Option Txn :=
  if s.lenses[p].bus.state = .hub then s.lenses[p].bus.txn else none

/-- The bus is FREE with no transaction under way. -/
def State.busFree (s : State) (p : Port) : State := s.setLens p (fun l => { l with bus := { l.bus with state := .free, txn := none } })

/-- The outcome of a transaction acts on the lens (R126, R128, R129). -/
def State.txnOutcome (s : State) (p : Port) (k : TxnKind) : BusOutcome → State
  | .ack => s.acknowledged p k
  | .noAnswer => s.noAnswer p k
  | .rejected => s.rejected p k
  | .report bytes => s.reportTaken p k bytes

/-- SIDEBAND_TRANSACTION_END (R126, R128, R129). -/
def execSidebandTransactionEnd (p : Port) (outcome : BusOutcome) (s : State) : Result :=
  match s.hubTxn p with
  | some t => finish (((s.busFree p).txnOutcome p t.kind outcome).busPump p)
  | none => .next s

/-- The master enters RECOVERY (R130): the transaction under way is gone, and the hang is counted. -/
def State.enterRecovery (s : State) (p : Port) : State :=
  (s.setLens p (fun l => { l with bus := { l.bus with state := .recovery, txn := none } })).lensCount p
    (fun c => { c with busTimeouts := sat32 c.busTimeouts })

/-- Whether the hub's transaction under way on a bus is a STOP. -/
def Bus.sendsStop (b : Bus) : Bool := b.state = .hub && b.txn.any (fun t => t.kind = .stop)

/-- A hang acts on the lens (R130): an ABSENT or FAULT lens stays as it is, and so does a STALLED one whose STOP hung
(R127, notes/assumptions/61.md). `stop` tells that the transaction that hung was a STOP. -/
def State.hang (s : State) (p : Port) (stop : Bool) : State :=
  match s.lenses[p].state with
  | .absent | .fault => s
  | .stalled => if stop then s else s.lensFails p .fault .busTimeout .fault
  | .unknown | .homing | .idle | .moving => s.lensFails p .fault .busTimeout .fault

/-- BUS_TIMEOUT (R130, R128): an address byte of the hub's transaction that was acknowledged before the hang has set the
consecutive NO_ANSWER count to 0; with no transaction of the hub under way there was none (notes/assumptions/62.md). -/
def execBusTimeout (hang : BusHang) (s : State) : Result :=
  let bus := s.lenses[hang.port].bus
  let t := if hang.addressAcked && bus.state = .hub then s.answered hang.port else s
  match bus.state with
  | .off | .recovery => .next s
  | .free | .hub | .head => finish ((t.enterRecovery hang.port).hang hang.port bus.sendsStop)

/-- BUS_RECOVERY_END (R130). -/
def execBusRecoveryEnd (p : Port) (s : State) : Result :=
  if s.lenses[p].bus.state = .recovery then finish ((s.busFree p).busPump p) else .next s

/-- The hub loses the bus to the head (R131): the transaction is tried again after the head's message, up to 3 times.
DESIGN CHOICE: so is one whose move has ended, ahead of a STOP that waits (notes/assumptions/71.md). -/
def State.loseBus (s : State) (p : Port) (t : Txn) : State :=
  let u := s.lensCount p (fun c => { c with arbLosses := sat32 c.arbLosses })
  if t.losses < 3 then
    u.setLens p (fun l => { l with bus := ⟨.head, none, { t with losses := t.losses + 1 } :: l.bus.waiting⟩ })
  else (u.setLens p (fun l => { l with bus := { l.bus with state := .head, txn := none } })).arbLimit p t.kind

/-- ARBITRATION_LOST (R131). -/
def execArbitrationLost (p : Port) (s : State) : Result :=
  match s.hubTxn p with
  | some t => finish (s.loseBus p t)
  | none => .next s

/-- HEAD_START (R125): the head begins a message on a free bus. -/
def execHeadStart (p : Port) (s : State) : Result :=
  if s.lenses[p].bus.state = .free then
    finish (s.setLens p (fun l => { l with bus := { l.bus with state := .head } }))
  else .next s

/-- What a message addressed to the hub says (section 6.4): none where its check, length or command is wrong. DESIGN CHOICE:
a known command in the wrong number of bytes is such a message (R132, notes/assumptions/81.md). -/
def headMessageOf (bytes : List Byte) : Option HeadMessage :=
  if !sumsToZero bytes then none
  else match bytes with
    | [_, command, axis, _] => if command = 0x41 then some (.limit axis) else none
    | [_, command, _] => if command = 0x42 then some .overheat else none
    | _ => none

/-- Whether LIMIT stalls the lens (R132): MOVING before a settled REPORT, or HOMING. DESIGN CHOICE: during a halt read it
does not (R120, notes/assumptions/70.md). -/
def Lens.limitStalls (l : Lens) : Bool :=
  l.state.inMotion && l.flight.any (fun f => f.settleEndAt.isNone)

/-- The lens state after a head message (R132). -/
def Lens.afterMessage (l : Lens) : HeadMessage → LensState
  | .limit _ => if l.limitStalls then .stalled else l.state
  | .overheat => if l.state = .absent then .absent else .fault

/-- A head message taken acts on the lens (R132). -/
def State.headActs (s : State) (p : Port) (m : HeadMessage) : State :=
  match m with
  | .limit _ => if s.lenses[p].limitStalls then s.stall p .limit else s
  | .overheat =>
    match s.lenses[p].state with
    | .fault | .absent => s
    | .unknown | .idle | .moving | .homing | .stalled => (s.sendStop p).lensFails p .fault .overheat .fault

/-- A message of the camera head ends (R132). DESIGN CHOICE: one that is discarded raises the head message errors alone, and not
the head messages too (R133, notes/assumptions/88.md). -/
def State.headMessage (s : State) (p : Port) (bytes : List Byte) : State :=
  if bytes.headD 0 = 0x20 then
    match headMessageOf bytes with
    | none => s.lensCount p (fun c => { c with headErrors := sat32 c.headErrors })
    | some m =>
      let t := (s.lensCount p (fun c => { c with headMessages := sat32 c.headMessages })).post (some p)
        (.headEvent m (s.lenses[p].afterMessage m))
      t.headActs p m
  else s

/-- HEAD_MESSAGE (R132): the bus is FREE at the message's stop. -/
def execHeadMessage (p : Port) (bytes : List Byte) (s : State) : Result :=
  if s.lenses[p].bus.state = .head then finish (((s.headMessage p bytes).busFree p).busPump p) else .next s

end Sys2Proof.Machine
end

