-- ==== Sys2Proof/Machine/Breaks.lean ====
section
/-!
DEFINITION. The commands of chapter 7: MOTION_SEGMENT, EVIDENCE_CONFIG, BREAK_LIST, BREAK_CLEAR and the window close.
-/

namespace Sys2Proof.Machine

/-! ## MOTION_SEGMENT (R136) and EVIDENCE_CONFIG (R138) -/

/-- The segment, or NONE, that a byte carries; none where it is neither (R136, R174). -/
def segmentAt (b : List Byte) (offset : Nat) : Option Segment :=
  if numAt b offset 1 = 255 then some none else (finAt b offset 16).map some

/-- MOTION_SEGMENT's owner acts (R136); the sweep engine tests its conditions (R161). -/
def State.motionSegment (b : List Byte) (s : State) : State :=
  match segmentAt b 0 with
  | none => s.reply .outOfRange
  | some g =>
    if s.monitor.segment = g then s.reply .ok
    else ({ s with monitor := { s.monitor with segment := g } }).sweepResume.reply .ok

/-- MOTION_SEGMENT (R136). -/
def execMotionSegment (s : State) : Result := s.serve 0x1C 1 State.motionSegment

/-- EVIDENCE_CONFIG's owner acts (R138): the window under way keeps its end. -/
def State.evidenceConfig (b : List Byte) (s : State) : State :=
  if inRange 1 60 (numAt b 0 1) && inRange 1 65535 (numAt b 1 2) && inRange 1 8 (numAt b 3 1) then
    ({ s with settings := { s.settings with
      windowSeconds := numAt b 0 1, suspectThreshold := numAt b 1 2, confirmWindows := numAt b 3 1 } }).reply .ok
  else s.reply .outOfRange

/-- EVIDENCE_CONFIG (R138). -/
def execEvidenceConfig (s : State) : Result := s.serve 0x1D 4 State.evidenceConfig

/-! ## BREAK_LIST (R150) -/

/-- What BREAK_LIST holds in every case. -/
def State.breakListHead (s : State) : List Byte :=
  segmentByte s.monitor.segment ++ num8 s.monitor.windowStart ++ num8 s.monitor.windowEnd ++
  num1 s.settings.windowSeconds ++ num2 s.settings.suspectThreshold ++ num1 s.settings.confirmWindows ++
  num2 s.table.nextId ++ num1 s.table.records.length

/-- What BREAK_LIST holds for ALL: the records, whose number stands before them, and each port's counts. -/
def State.breakListAll (s : State) : List Byte :=
  (s.table.records.map breakRecordBytes).flatten ++
  listField (fun (p : Port) =>
    let e := s.monitor.ports[p]
    num4 e.errors ++ num1 e.above ++ num1 e.quiet ++ num4 e.saturated ++ num4 s.table.unrecorded[p]) allPorts

/-- What BREAK_LIST holds for a port. -/
def State.breakListPort (s : State) (p : Port) : List Byte :=
  let e := s.monitor.ports[p]
  listField breakRecordBytes (s.table.records.filter (fun r => r.port = p)) ++ num4 e.errors ++
  listField num4 e.bins.toList ++ num1 e.above ++ num1 e.quiet ++ num4 e.saturated ++ num4 s.table.unrecorded[p] ++
  flagByte (s.profileOf p).autoSweep

/-- BREAK_LIST's owner acts (R150). -/
def State.breakList (b : List Byte) (s : State) : State :=
  if numAt b 0 1 = 255 then s.answer .ok (s.breakListHead ++ s.breakListAll)
  else match portAt b 0 with
    | none => s.reply .outOfRange
    | some p => s.answer .ok (s.breakListHead ++ s.breakListPort p)

/-- BREAK_LIST (R150). -/
def execBreakList (s : State) : Result := s.serve 0x1E 1 State.breakList

/-! ## BREAK_CLEAR (R151) -/

/-- The monitor sets a port's above-count and quiet-count to 0 (R151). -/
def State.restartCounts (p : Port) (s : State) : State := s.setEvidence p (fun e => { e with above := 0, quiet := 0 })

/-- The records that satisfy a test and are not CLEARED become CLEARED, in table order, and the reply tells their number
(R151). -/
def State.clearWhere (s : State) (f : BreakRecord → Bool) : State :=
  let places := s.table.clearable f
  let ports := portsWhere (fun p =>
    s.table.records.any (fun r => f r && r.state != .cleared && r.port = p && r.kind = .dataErrors))
  (State.forPorts State.restartCounts ports (State.forPlaces State.clearBreak places s)).answer .ok (num1 places.length)

/-- BREAK_CLEAR's owner acts (R151): the target's kind is 0 for an id, 1 for a port and 2 for ALL. DESIGN CHOICE: with ALL
the 2 target bytes are not read (R174, notes/assumptions/83.md). -/
def State.breakClear (b : List Byte) (s : State) : State :=
  let target := numAt b 1 2
  match numAt b 0 1 with
  | 0 =>
    if s.table.records.any (fun r => r.id = target) then s.clearWhere (fun r => r.id = target) else s.reply .notFound
  | 1 => if target ≤ 7 then s.clearWhere (fun r => r.port.val = target) else s.reply .outOfRange
  | 2 => s.clearWhere (fun _ => true)
  | _ => s.reply .outOfRange

/-- BREAK_CLEAR (R151). -/
def execBreakClear (s : State) : Result := s.serve 0x1F 3 State.breakClear

/-! ## EVIDENCE_WINDOW_CLOSE (R138) -/

/-- Whether the evidence window has reached its end (R138). -/
def State.windowDue (s : State) : Bool := s.monitor.windowEnd ≤ s.clock

/-- EVIDENCE_WINDOW_CLOSE (R138): ports 0 to 7 are judged in order, and a new window begins. -/
def execEvidenceWindowClose (s : State) : Result :=
  if s.windowDue then finish (State.forPorts State.judgePort allPorts s).beginWindow else .next s

end Sys2Proof.Machine
end

