-- ==== Sys2Proof/Machine/Sweeps.lean ====
section
/-!
DEFINITION. The commands of chapter 8: CABLE_SET, the sweep requests, and the events of a sweep.
-/

namespace Sys2Proof.Machine

/-! ## CABLE_SET (R154) -/

/-- CABLE_SET's owner acts (R154). -/
def State.cableSet (b : List Byte) (s : State) : State :=
  match portAt b 0, cableOf b with
  | some p, some c =>
    if s.sweeps.busyWith p then s.reply .conflict
    else ({ s with settings := { s.settings with cables := upd s.settings.cables p (fun _ => c) } }).reply .ok
  | _, _ => s.reply .outOfRange

/-- CABLE_SET (R154). -/
def execCableSet (s : State) : Result := s.serveWhen 0x20 cableLengthOk (fun _ => true) State.cableSet

/-! ## SWEEP_REQUEST (R155) and SWEEP_CANCEL (R157) -/

/-- Whether a port is the port of the sweep in progress. -/
def SweepEngine.sweeping (e : SweepEngine) (p : Port) : Bool := e.sweep.any (fun w => w.entry.port = p)

/-- An entry takes a request's kind, K, quorum, segment and deadline, and its source becomes HOST (R155). -/
def SweepEntry.update (e request : SweepEntry) : SweepEntry :=
  { request with port := e.port, number := e.number, source := .host }

/-- The entry of a port on the queue is updated in place (R155): the reply gives its number and its place. -/
def State.updateEntry (s : State) (e : SweepEntry) (place : Nat) : State :=
  let number := ((s.sweeps.queue[place]?).map (·.number)).getD 0
  ({ s with sweeps := { s.sweeps with queue := s.sweeps.queue.modify place (fun q => q.update e) } }).answer .ok
    (num2 number ++ num1 (place + 1))

/-- A request for a port with no entry joins the queue (R155). -/
def State.newEntry (s : State) (e : SweepEntry) : State :=
  (s.joinSweepQueue e).answer .accepted (num2 (nextSweepNumber s.sweeps.counter) ++ num1 (s.sweeps.queue.length + 1))

/-- SWEEP_REQUEST's owner acts (R155). -/
def State.sweepRequest (b : List Byte) (s : State) : State :=
  match sweepOf b with
  | none => s.reply .outOfRange
  | some e =>
    if !(s.settings.cables[e.port]).isSet then s.reply .wrongState
    else if s.sweeps.sweeping e.port then s.reply .conflict
    else match s.sweeps.queue.findIdx? (fun q => q.port = e.port) with
      | some place => s.updateEntry e place
      | none => s.newEntry e

/-- SWEEP_REQUEST (R155). -/
def execSweepRequest (s : State) : Result := s.serve 0x21 8 State.sweepRequest

/-- SWEEP_CANCEL's owner acts (R157). -/
def State.sweepCancel (b : List Byte) (s : State) : State :=
  match portAt b 0 with
  | none => s.reply .outOfRange
  | some p =>
    if s.sweeps.queue.any (fun q => q.port = p) then
      ({ s with sweeps := { s.sweeps with queue := s.sweeps.queue.filter (fun q => q.port ≠ p) } }).reply .ok
    else if s.sweeps.sweeping p then (s.endSweep p .cancelled id).reply .ok
    else s.reply .notFound

/-- SWEEP_CANCEL (R157). -/
def execSweepCancel (s : State) : Result := s.serve 0x22 1 State.sweepCancel

/-! ## SWEEP_RESULT (R170) -/

/-- A cable record as SWEEP_RESULT gives it (R153). -/
def cableBytes (c : CableRecord) : List Byte :=
  flagByte c.isSet ++ optNum 2 c.length ++ num2 c.velocity ++ optNum 1 c.launch ++ listField num2 c.couplers ++
  num2 c.threshold

/-- A number that may lie below 0, in two bytes (R174). -/
def int2 (n : Int) : List Byte := num2 (n % 65536).toNat

/-- A reported reflection as SWEEP_RESULT gives it. DESIGN CHOICE: dropped is an absent record id, as in a class that has none
(R170, R174, notes/assumptions/91.md), and the class is an optional field (R169, notes/assumptions/100.md). -/
def reflectionBytes (r : Reflection) : List Byte :=
  num2 r.index ++ num1 r.polarity.code ++ int2 r.mean ++ optNum 1 (r.cls.map (·.code)) ++ optNum 2 r.distance ++
  optNum 2 r.record

/-- A result record as SWEEP_RESULT gives it (R170). DESIGN CHOICE: its reflections are a counted list with no presence
byte, empty where they are absent (R158, R171, notes/assumptions/85.md), more is an optional field (notes/assumptions/90.md)
and the calibration count takes 2 bytes (R159, notes/assumptions/92.md). -/
def resultBytes (r : SweepResult) : List Byte :=
  num1 r.state.code ++ optNum 2 (r.entry.map (·.number)) ++ optNum 1 (r.entry.map (·.kind.code)) ++
  optNum 1 (r.entry.map (·.acquisitions)) ++ optNum 1 (r.entry.map (·.quorum.code)) ++
  optNum 1 (r.entry.bind (fun e => e.segment.map (·.val))) ++ optNum 1 (r.entry.map (·.deadline)) ++
  optNum 1 (r.entry.map (·.source.code)) ++ optNum 8 r.startAt ++ optNum 8 r.endAt ++ optNum 2 r.calibration ++
  optNum 1 r.gathered ++ optNum 4 r.restarts ++ optNum 4 r.suspensions ++ optNum 1 r.used ++ optNum 1 r.required ++
  optNum 1 (r.verdict.map (·.code)) ++ listField reflectionBytes r.reflections ++ optNum 2 r.more ++
  optField 5 locationBytes r.location

/-- A queue entry with its place as SWEEP_RESULT gives it (section 8.2). -/
def entryBytes (e : SweepEntry × Nat) : List Byte :=
  num1 e.1.port.val ++ num1 e.1.kind.code ++ num1 e.1.acquisitions ++ num1 e.1.quorum.code ++
  optNum 1 (e.1.segment.map (·.val)) ++ num1 e.1.deadline ++ num2 e.1.number ++ num1 e.1.source.code ++ num1 e.2

/-- The entry of a port on the queue, with its place counting the head as 1. -/
def SweepEngine.entryOf (e : SweepEngine) (p : Port) : Option (SweepEntry × Nat) :=
  (e.queue.findIdx? (fun q => q.port = p)).bind (fun i => (e.queue[i]?).map (fun q => (q, i + 1)))

/-- A stage of R158 as a field of its own: the stages number from 0 (R174), where a result record's state begins at
NONE. -/
def SweepState.stageCode (st : SweepState) : Nat := st.code - SweepState.calibrating.code

/-- The fields of SWEEP_RESULT's reply (R170). -/
def State.sweepResultFields (s : State) (p : Port) : List Byte :=
  cableBytes s.settings.cables[p] ++ resultBytes s.sweeps.results[p] ++ optField 11 entryBytes (s.sweeps.entryOf p) ++
  optField 2 (fun (w : Sweep) => num1 w.entry.port.val ++ num1 (s.sweeps.results[w.entry.port]).state.stageCode)
    s.sweeps.sweep ++ num2 s.sweeps.counter

/-- SWEEP_RESULT (R170). -/
def execSweepResult (s : State) : Result :=
  s.serve 0x23 1 (fun b s =>
    match portAt b 0 with
    | none => s.reply .outOfRange
    | some p => s.answer .ok (s.sweepResultFields p))

/-! ## The events of a sweep -/

/-- The sweep in progress, changed. -/
def State.setSweep (s : State) (f : Sweep → Sweep) : State :=
  { s with sweeps := { s.sweeps with sweep := s.sweeps.sweep.map f } }

/-- The sweep whose calibration has run its 1 ms (R159). -/
def State.calibrationDue (s : State) : Option Sweep :=
  s.sweeps.sweep.filter (fun w => due w.calibrationEndAt s.clock)

/-- The calibration ends with a count (R159). -/
def State.calibrated (s : State) (w : Sweep) (count : Nat) : State :=
  let p := w.entry.port
  if inRange 320 480 count then
    ((s.setSweep (fun w => { w with calibrationEndAt := none })).setResult p
      (fun r => { r with calibration := some count })).sweepTest
  else s.endSweep p .calFault (fun r => { r with calibration := some count })

/-- CALIBRATION_END (R159). -/
def execCalibrationEnd (count : Nat) (s : State) : Result :=
  match s.calibrationDue with
  | some w => finish (s.calibrated w count)
  | none => .next s

/-- The deviations of an acquisition (R160): 16,384 of them, each from −2,048 to 2,047 (notes/assumptions/12.md). -/
def acquired (deviations : List Int) : List Int :=
  (deviations.take 16384).map (fun d => max (-2048) (min 2047 d))

/-- The acquisition under way, when its 200 µs have run (R160). -/
def State.acquisitionDue (s : State) : Option Acquisition :=
  s.sweeps.acquisition.filter (fun a => a.endAt ≤ s.clock)

/-- An acquisition that was not dropped is gathered for the sweep of its port (R160). -/
def State.gather (s : State) (a : Acquisition) (deviations : List Int) : State :=
  if a.live && s.sweeps.sweeping a.port then
    (s.setSweep (fun w => { w with samples := acquired deviations :: w.samples })).setResult a.port
      (fun r => { r with gathered := r.gathered.map (· + 1) })
  else s

/-- The lane at the end of an acquisition on its port (R32, R35): in QUIET it retrains for 100 µs; in DOWN, a retry that
the acquisition put off is made, and a lane kept DOWN at its port's entry to ON makes its first attempt. -/
def State.laneAfterAcquisition (s : State) (a : Acquisition) : State :=
  let l := s.lanes[a.port]
  match l.state with
  | .quiet => s.setLane a.port (fun l => { l with retrainAt := some (a.endAt + 100) })
  | .down =>
    if s.retryDue a.port then s.startTraining a.port s.clock
    else if s.power[a.port].state = .on && l.retryAt.isNone then s.laneFirstTraining a.port
    else s
  | .training | .locked => s

/-- What the sweep does when an acquisition has ended: K gathered enter ANALYSING (R160), and a lane that is not in QUIET
lets the conditions be tested (R161). DESIGN CHOICE: so does a lane that left QUIET before this end, when its port left ON
(notes/assumptions/89.md). -/
def State.sweepAfterAcquisition (s : State) (p : Port) : State :=
  match s.sweeps.sweep with
  | none => s.takeNextSweep
  | some w =>
    if s.sweepIn .acquiring && w.entry.acquisitions ≤ w.samples.length then s.beginAnalysis w
    else if s.lanes[p].state = .quiet then s
    else s.laneLeftQuiet p

/-- An acquisition has run its 200 µs (R160). -/
def State.acquisitionEnds (s : State) (a : Acquisition) (deviations : List Int) : State :=
  ((({ s with sweeps := { s.sweeps with acquisition := none } }).gather a deviations).laneAfterAcquisition
    a).sweepAfterAcquisition a.port

/-- ACQUISITION_END (R160). -/
def execAcquisitionEnd (deviations : List Int) (s : State) : Result :=
  match s.acquisitionDue with
  | some a => finish (s.acquisitionEnds a deviations)
  | none => .next s

/-- The sweep whose deadline has come in ACQUIRING or SUSPENDED (R163). -/
def State.sweepLate (s : State) : Option Sweep :=
  s.sweeps.sweep.filter (fun w => (s.sweepIn .acquiring || s.sweepIn .suspended) && w.deadlineAt ≤ s.clock)

/-- The deadline ends the gathering (R163): a quarter of K is enough to analyse. -/
def State.gatheringEnds (s : State) (w : Sweep) : State :=
  if w.entry.acquisitions ≤ w.samples.length * 4 then s.dropAcquisition.beginAnalysis w
  else s.endSweep w.entry.port .timedOut id

/-- SWEEP_DEADLINE (R163). -/
def execSweepDeadline (s : State) : Result :=
  match s.sweepLate with
  | some w => finish (s.gatheringEnds w)
  | none => .next s

/-- The sweep whose analysis has run its 2 ms (R158). -/
def State.analysisDue (s : State) : Option Sweep := s.sweeps.sweep.filter (fun w => due w.analysisEndAt s.clock)

/-- The analysis ends (R164 to R169): DONE with K acquisitions, PARTIAL with fewer. -/
def State.analysed (s : State) (w : Sweep) : State :=
  let n := w.samples.length
  let outcome := if w.entry.acquisitions ≤ n then SweepState.done else .partly
  let required := requiredCount n w.entry.quorum
  let found := reflectionsOf w.cable.threshold required w.samples
  let calibration := ((s.sweeps.results[w.entry.port]).calibration).getD 0
  match w.entry.kind with
  | .fault => s.endFaultSweep w outcome found calibration required
  | .baseline => s.endBaselineSweep w outcome found calibration required

/-- ANALYSIS_END (R168). -/
def execAnalysisEnd (s : State) : Result :=
  match s.analysisDue with
  | some w => finish (s.analysed w)
  | none => .next s

end Sys2Proof.Machine
end

