-- ==== Sys2Proof/Machine/Resets.lean ====
section
/-!
DEFINITION. The resets (R29, R30, R49, R76, R77, R97, R98, R113, R114, R134, R135, R152, R171, R179, R183, R184) and the
commands of the PROFILE STORE (R180 to R182).
-/

namespace Sys2Proof.Machine

/-! ## Power-on reset, NRESET and start-up (R183) -/

/-- The part at its reset values, with what a reset keeps: the profile image, unless a write of it was under way (R180),
the bytes of the frame DRAM, and the model's own counter and queue. -/
def State.rebooted (s : State) : State :=
  { State.reset with
    dram := s.dram
    freeCount := s.freeCount
    pending := s.pending
    profile := { image := if s.profile.write.isSome then none else s.profile.image } }

/-- The working settings are loaded from a valid image, or take their factory defaults with a PROFILE notice (R183
step 1). No snapshot was taken for that notice, and the time in its body is a free value (notes/assumptions/64.md). -/
def State.loadProfile (s : State) : State :=
  match s.profile.image with
  | some image => { s with settings := image, profile := { s.profile with origin := .profile } }
  | none =>
    (({ s with settings := {}, profile := { s.profile with origin := .defaults } }).post none
      (.profile .defaults (s.freeBelow 18446744073709551616) s.profile.imageState)).usedFree

/-- A lens is ABSENT or UNKNOWN by the kind its port's profile gives (R134). -/
def State.lensFromKind (p : Port) (s : State) : State :=
  s.setLens p (fun l => { l with state := if (s.profileOf p).lensKind = .none then .absent else .unknown })

/-- Each port whose auto-power field is yes raises its power claim (R29, R183 step 2). -/
def State.autoPower (s : State) : State :=
  State.forPorts (fun p t => t.raisePowerClaim p) (s.byPriority (fun p => (s.profileOf p).autoPower)) s

/-- A READY notice (R183 step 3). -/
def State.readyNotice (s : State) : State := s.post none (.ready s.profile.origin s.profile.imageState)

/-- A reset of the part with its start-up (R183). -/
def State.startUp (s : State) : State :=
  ((State.forPorts State.lensFromKind allPorts s.rebooted.loadProfile).beginWindow).autoPower.readyNotice

/-- POWER_ON_RESET (R183). -/
def execPowerOnReset (s : State) : Result := finish s.startUp

/-- NRESET (R183). -/
def execNreset (s : State) : Result := finish s.startUp

/-! ## CELL_RESET (R179) -/

/-- The sweep engine's cell reset (R171): a sweep in progress ends CANCELLED with its SWEEP_DONE, and the queue is
emptied. -/
def State.resetSweeps (s : State) : State :=
  let t := { s with sweeps := { s.sweeps with queue := [], acquisition := none, sweep := none } }
  match s.sweeps.sweep with
  | none => t
  | some w =>
    (t.setResult w.entry.port (fun r => { r with state := .cancelled, endAt := some s.clock })).sweepDone w.entry.port

/-- The sequencer's cell reset (R77). -/
def State.resetPlan (s : State) : State :=
  let t := s.setSeq (fun _ => {})
  if s.seq.state = .empty then t else t.planNotice s.seq.state .reset

/-- The switch's cell reset (R30). -/
def PortPower.cellReset (w : PortPower) (f : PortProfile) (now : Time) : PortPower :=
  let off := if w.state = .locked then w else w.enter f now .off .reset
  { off with presence := .unseen, shedMark := false, overdrawSent := false }

/-- The lane's cell reset (R49): its window closes without report, and its frame is discarded. -/
def Lane.cellReset (l : Lane) (now : Time) : Lane := { since := if l.state = .down then l.since else now }

/-- One port's cell reset (R30, R49, R135), with its notices. DESIGN CHOICE: the lane is cleared before its PORT_OFF notice
is made, which so carries a failed-attempt run of 0 (R36, notes/assumptions/77.md). -/
def State.resetPort (p : Port) (s : State) : State :=
  let power := s.power[p].state
  let lane := s.lanes[p].state
  let t := s.setPower p (fun w => w.cellReset (s.profileOf p) s.clock)
  let told := if power = .off || power = .locked then t else t.portStateNotice p power
  let down := told.setLane p (fun l => l.cellReset s.clock)
  let laned := if lane = .down then down else down.laneNotice p lane .portOff
  (laned.lensOff p).setLens p (fun l => { l with counts := {} })

/-- The FRAME STORE's cell reset (R98): the frame id counter alone is kept. -/
def Store.cellReset (t : Store) : Store := { idCounter := t.idCounter }

/-- The item in flight with the packet under way sent to its end: a LINE counts among the lines sent (R114). -/
def Item.withPacket (i : Item) (p : Option Packet) : Item :=
  match p with
  | some ⟨.line, bytes⟩ => { i with sent := i.sent + 1, crc := crc32Feed i.crc (linePixels bytes) }
  | _ => i

/-- The flags of a frame with ABORTED added (R114). -/
def Store.abortedFlags (t : Store) (id : Nat) : FrameFlags :=
  match t.frame? id with
  | none => { aborted := true }
  | some f => { f.flags with aborted := true }

/-- The pending trailer that a cell reset leaves for an item (R114): none when the packet under way is its TRAILER. -/
def State.trailerOf (s : State) (i : Item) : Option PendingTrailer :=
  if s.uplink.packet.any (fun p => p.kind = .trailer) then none
  else
    let j := i.withPacket s.uplink.packet
    some ⟨i.frame, s.store.abortedFlags i.frame, j.sent, j.crc⟩

/-- The transmitter's cell reset (R114): the link and its credits are kept. DESIGN CHOICE: the packet under way is then no
item's, so that a TRAILER sent to its end counts no frame or region as sent (notes/assumptions/60.md), and a wait for a
credit goes on uncounted (notes/assumptions/68.md). -/
def State.resetUplink (s : State) : State :=
  let cleared := s.setUplink (fun u => { u with regions := [], regionCounter := 0, counts := {} })
  match s.uplink.item with
  | none => cleared
  | some i =>
    cleared.setUplink (fun u => { u with
      item := none
      trailer := s.trailerOf i
      packet := u.packet.map (fun p => { p with kind := .orphan }) })

/-- The monitor's cell reset (R152): a new window begins with the W in force. -/
def State.resetMonitor (s : State) : State :=
  ({ s with monitor := { s.monitor with segment := none, ports := Vector.replicate 8 {} } }).beginWindow

/-- Every block takes the cell reset (R179). -/
def State.cellReset (s : State) : State :=
  let ported := State.forPorts State.resetPort allPorts s.resetSweeps.resetPlan
  let freed := (ported.setClaims (fun _ => [])).resetUplink.setStore (·.cellReset)
  freed.resetMonitor.uplinkNext

/-- CELL_RESET (R179). -/
def execCellReset (s : State) : Result := s.serve 0x25 0 (fun _ s => s.cellReset.reply .ok)

/-! ## The PROFILE STORE (R181, R182) -/

/-- PROFILE_SAVE's owner acts (R181). -/
def State.profileSave (s : State) : State :=
  if s.profile.write.isSome then s.reply .busy
  else ({ s with profile := { s.profile with write := some ⟨s.settings, s.clock, s.clock + 200000⟩ } }).reply .accepted

/-- PROFILE_SAVE (R181). -/
def execProfileSave (s : State) : Result := s.serve 0x26 0 (fun _ s => s.profileSave)

/-- The write has ended (R181): the image agrees with the snapshot, or is INVALID. -/
def State.writeEnds (s : State) (w : ProfileWrite) (agrees : Bool) : State :=
  let t := { s with profile := { s.profile with image := if agrees then some w.snapshot else none, write := none } }
  t.post none (.profile (if agrees then .saved else .failed) w.snapshotAt t.profile.imageState)

/-- The profile write whose 200 ms have run (R181). -/
def State.writeDue (s : State) : Option ProfileWrite := s.profile.write.filter (fun w => w.endAt ≤ s.clock)

/-- PROFILE_WRITE_END (R181). -/
def execProfileWriteEnd (agrees : Bool) (s : State) : Result :=
  match s.writeDue with
  | some w => finish (s.writeEnds w agrees)
  | none => .next s

/-- Whether PROFILE_RESTORE_DEFAULTS is taken (R182). -/
def State.takesDefaults (s : State) : Bool :=
  !s.seq.state.inService &&
  allPorts.all (fun p =>
    match s.power[p].state with
    | .off | .probing | .locked => true
    | .waiting | .ramping | .on | .cooldown => false)

/-- Every working setting takes its factory default, each port's profile as PORT_CONFIG's would (R182). -/
def State.restoreDefaults (s : State) : State :=
  let t := State.forPorts (fun p t => t.takeProfile p {}) allPorts s
  ({ t with settings := {}, profile := { t.profile with origin := .defaults } }).walk

/-- PROFILE_RESTORE_DEFAULTS (R182). -/
def execProfileRestoreDefaults (s : State) : Result :=
  s.serve 0x27 0 (fun _ s => if s.takesDefaults then s.restoreDefaults.reply .ok else s.reply .wrongState)

end Sys2Proof.Machine
end

