-- ==== Sys2Proof/Machine/LinkCommands.lean ====
section
/-!
DEFINITION. The commands of the control link (R172 to R178): frames received, the end of a frame sent, requests of no known
kind, IDENTIFY and LINK_STATUS.
-/

namespace Sys2Proof.Machine

/-- The link changed. -/
def State.setLink (s : State) (f : Link → Link) : State := { s with link := f s.link }

/-- The link errors counted by their cause (R172). -/
def LinkCounts.judged (c : LinkCounts) : Judgement → LinkCounts
  | .idleFill => c
  | .framing => { c with framing := sat32 c.framing }
  | .escape => { c with escape := sat32 c.escape }
  | .length => { c with length := sat32 c.length }
  | .short => { c with short := sat32 c.short }
  | .check => { c with check := sat32 c.check }
  | .wellFormed _ => { c with wellFormed := sat32 c.wellFormed }

/-- A well-formed frame joins the request queue, or is refused BUSY, or is left unanswered (R175). -/
def Link.enqueue (l : Link) (r : Request) : Link :=
  if l.requests.length < 8 then { l with requests := l.requests ++ [r] }
  else if l.refusals < 8 then
    { l with
      replies := l.replies ++ [⟨true, r.kind, r.tag, .busy, []⟩]
      counts := { l.counts with busy := sat32 l.counts.busy } }
  else { l with counts := { l.counts with unanswered := sat32 l.counts.unanswered } }

/-- The link takes the judgement of a frame (R172, R175). -/
def Link.take (l : Link) (j : Judgement) : Link :=
  let counted := { l with counts := l.counts.judged j }
  match j with
  | .wellFormed r => counted.enqueue r
  | _ => counted

/-- A delimiter arrives (R172): it ends the frame being gathered and begins a new one. -/
def Link.delimiter (l : Link) (bytes : List LineByte) : Link :=
  let next := { l with framer := .gathering }
  match l.framer with
  | .waiting | .discarding => next
  | .gathering => next.take (judge bytes)

/-- CONTROL_FRAME_RECEIVED (R172). -/
def execControlFrameReceived (bytes : List LineByte) (s : State) : Result :=
  finish (s.setLink (fun l => l.delimiter bytes))

/-- GATHERED_CONTENT_OVERLONG (R172): the frame is judged LENGTH, and bytes are discarded up to the next delimiter. -/
def execGatheredContentOverlong (s : State) : Result :=
  if s.link.framer = .gathering then
    finish (s.setLink (fun l => { l with
      framer := .discarding, counts := { l.counts with length := sat32 l.counts.length } }))
  else .next s

/-- Whether a request kind is one of the catalogue (R173). -/
def knownKind (k : Byte) : Bool := 0x01 ≤ k.toNat && k.toNat ≤ 0x28

/-- UNKNOWN_REQUEST (R173). -/
def execUnknownRequest (s : State) : Result :=
  match s.link.toServe with
  | none => .next s
  | some r => if knownKind r.kind then .next s else finish (s.reply .unknownRequest)

/-- The last byte of a frame has been sent (R175, R177, R179): a reply's request leaves the queue, and a CELL_RESET's reply
empties the notice queue. -/
def Link.sent (l : Link) (k : TxKind) : Link :=
  match k with
  | .reply reset =>
    let left := { l with
      sending := none
      requests := l.requests.tail
      answered := false
      counts := { l.counts with repliesSent := sat32 l.counts.repliesSent } }
    if reset then { left with notices := [], lost := 0 } else left
  | .refusal => { l with sending := none, counts := { l.counts with repliesSent := sat32 l.counts.repliesSent } }
  | .notice => { l with sending := none, counts := { l.counts with noticesSent := sat32 l.counts.noticesSent } }

/-- TX_FRAME_END (R177). -/
def execTxFrameEnd (s : State) : Result :=
  match s.link.sending with
  | some f => finish (s.setLink (fun l => l.sent f.kind))
  | none => .next s

/-- A text (R174). -/
def textBytes (t : List Nat) : List Byte := num1 t.length ++ (t.map num1).flatten

/-- The fields of IDENTIFY's reply (R178): "IVJ", "VCH-8", "B", 8 ports and 48 buffers. -/
def State.identifyFields (s : State) : List Byte :=
  textBytes [0x49, 0x56, 0x4A] ++ textBytes [0x56, 0x43, 0x48, 0x2D, 0x38] ++ textBytes [0x42] ++ num1 8 ++ num1 48 ++
  num1 s.profile.imageState.code ++ num1 s.profile.origin.code

/-- IDENTIFY (R178). -/
def execIdentify (s : State) : Result := s.serve 0x24 0 (fun _ s => s.answer .ok s.identifyFields)

/-- The counts of LINK_STATUS, in the order of R178. -/
def linkCountBytes (c : LinkCounts) : List Byte :=
  num4 c.wellFormed ++ num4 c.framing ++ num4 c.escape ++ num4 c.length ++ num4 c.short ++ num4 c.check ++
  num4 c.unknown ++ num4 c.badLength ++ num4 c.served ++ num4 c.busy ++ num4 c.unanswered ++ num4 c.repliesSent ++
  num4 c.noticesSent ++ num4 c.noticesLost

/-- The fields of LINK_STATUS's reply (R178). -/
def Link.statusFields (l : Link) : List Byte :=
  listField (fun (r : Request) => [r.kind, r.tag]) l.requests ++ num1 l.refusals ++ num1 l.notices.length ++ num1 l.lost ++
  linkCountBytes l.counts

/-- LINK_STATUS (R178). -/
def execLinkStatus (s : State) : Result := s.serve 0x28 0 (fun _ s => s.answer .ok s.link.statusFields)

end Sys2Proof.Machine
end

