-- ==== Sys2Proof/Machine/Dispatch.lean ====
section
/-!
DEFINITION. The dispatch: one arm for each command, each one call of its meaning.
-/

namespace Sys2Proof.Machine

def exec (i : Instr) (s : State) : Host.Outcome State Fault Refusal :=
  match i with
  | .powerOnReset => Sys2Proof.Machine.execPowerOnReset s
  | .nreset => Sys2Proof.Machine.execNreset s
  | .controlFrameReceived bytes => Sys2Proof.Machine.execControlFrameReceived bytes s
  | .unknownRequest => Sys2Proof.Machine.execUnknownRequest s
  | .txFrameEnd => Sys2Proof.Machine.execTxFrameEnd s
  | .portConfig => Sys2Proof.Machine.execPortConfig s
  | .portPowerOn => Sys2Proof.Machine.execPortPowerOn s
  | .portPowerOff => Sys2Proof.Machine.execPortPowerOff s
  | .portPowerProbe => Sys2Proof.Machine.execPortPowerProbe s
  | .portUnlock => Sys2Proof.Machine.execPortUnlock s
  | .portStatus => Sys2Proof.Machine.execPortStatus s
  | .setCapacity => Sys2Proof.Machine.execSetCapacity s
  | .setSupplyPolicy => Sys2Proof.Machine.execSetSupplyPolicy s
  | .supplyStatus => Sys2Proof.Machine.execSupplyStatus s
  | .probePulseStart p => Sys2Proof.Machine.execProbePulseStart p s
  | .probePulseEnd p milliamps => Sys2Proof.Machine.execProbePulseEnd p milliamps s
  | .rampEnd p => Sys2Proof.Machine.execRampEnd p s
  | .currentSample p milliamps => Sys2Proof.Machine.execCurrentSample p milliamps s
  | .thresholdTrip p => Sys2Proof.Machine.execThresholdTrip p s
  | .hardLimitTrip p milliamps => Sys2Proof.Machine.execHardLimitTrip p milliamps s
  | .openLoad p => Sys2Proof.Machine.execOpenLoad p s
  | .cooldownEnd p => Sys2Proof.Machine.execCooldownEnd p s
  | .tripDecay p => Sys2Proof.Machine.execTripDecay p s
  | .supplyLow millivolts heldMicros => Sys2Proof.Machine.execSupplyLow millivolts heldMicros s
  | .supplyFullShedCheck millivolts => Sys2Proof.Machine.execSupplyFullShedCheck millivolts s
  | .supplyRecovered millivolts heldMicros => Sys2Proof.Machine.execSupplyRecovered millivolts heldMicros s
  | .laneStatus => Sys2Proof.Machine.execLaneStatus s
  | .laneLockAcquired p => Sys2Proof.Machine.execLaneLockAcquired p s
  | .trainingDeadline p => Sys2Proof.Machine.execTrainingDeadline p s
  | .trainingRetry p => Sys2Proof.Machine.execTrainingRetry p s
  | .lockLost p => Sys2Proof.Machine.execLockLost p s
  | .quietRetrainEnd p hasLock => Sys2Proof.Machine.execQuietRetrainEnd p hasLock s
  | .packetUnknownType p => Sys2Proof.Machine.execPacketUnknownType p s
  | .frameStart p tag width height depth => Sys2Proof.Machine.execFrameStart p tag width height depth s
  | .line p number pixels crc => Sys2Proof.Machine.execLine p number pixels crc s
  | .frameEnd p tag lineCount => Sys2Proof.Machine.execFrameEnd p tag lineCount s
  | .receptionDeadline p => Sys2Proof.Machine.execReceptionDeadline p s
  | .exposureWindowEnd p => Sys2Proof.Machine.execExposureWindowEnd p s
  | .planLoad => Sys2Proof.Machine.execPlanLoad s
  | .planArm => Sys2Proof.Machine.execPlanArm s
  | .planStop => Sys2Proof.Machine.execPlanStop s
  | .planAbort => Sys2Proof.Machine.execPlanAbort s
  | .planClear => Sys2Proof.Machine.execPlanClear s
  | .planFire => Sys2Proof.Machine.execPlanFire s
  | .planStatus => Sys2Proof.Machine.execPlanStatus s
  | .signalConfig => Sys2Proof.Machine.execSignalConfig s
  | .periodExpiry => Sys2Proof.Machine.execPeriodExpiry s
  | .trigInEdge edge => Sys2Proof.Machine.execTrigInEdge edge s
  | .heldCycleStart => Sys2Proof.Machine.execHeldCycleStart s
  | .slotDispatch slot => Sys2Proof.Machine.execSlotDispatch slot s
  | .frameHold => Sys2Proof.Machine.execFrameHold s
  | .frameRelease => Sys2Proof.Machine.execFrameRelease s
  | .storeStatus => Sys2Proof.Machine.execStoreStatus s
  | .combineComplete => Sys2Proof.Machine.execCombineComplete s
  | .regionRead => Sys2Proof.Machine.execRegionRead s
  | .uplinkStatus => Sys2Proof.Machine.execUplinkStatus s
  | .ready grant => Sys2Proof.Machine.execReady grant s
  | .grant grant => Sys2Proof.Machine.execGrant grant s
  | .idle => Sys2Proof.Machine.execIdle s
  | .returnError => Sys2Proof.Machine.execReturnError s
  | .returnSilence => Sys2Proof.Machine.execReturnSilence s
  | .uplinkPacketEnd => Sys2Proof.Machine.execUplinkPacketEnd s
  | .lensMove => Sys2Proof.Machine.execLensMove s
  | .lensPreset => Sys2Proof.Machine.execLensPreset s
  | .lensPresetSet => Sys2Proof.Machine.execLensPresetSet s
  | .lensHome => Sys2Proof.Machine.execLensHome s
  | .lensHalt => Sys2Proof.Machine.execLensHalt s
  | .lensStatus => Sys2Proof.Machine.execLensStatus s
  | .pollSlot p => Sys2Proof.Machine.execPollSlot p s
  | .sidebandTransactionEnd p outcome => Sys2Proof.Machine.execSidebandTransactionEnd p outcome s
  | .settleEnd p => Sys2Proof.Machine.execSettleEnd p s
  | .moveDeadline p => Sys2Proof.Machine.execMoveDeadline p s
  | .haltReadPoll p => Sys2Proof.Machine.execHaltReadPoll p s
  | .haltDeadline p => Sys2Proof.Machine.execHaltDeadline p s
  | .busTimeout hang => Sys2Proof.Machine.execBusTimeout hang s
  | .arbitrationLost p => Sys2Proof.Machine.execArbitrationLost p s
  | .headMessage p bytes => Sys2Proof.Machine.execHeadMessage p bytes s
  | .motionSegment => Sys2Proof.Machine.execMotionSegment s
  | .evidenceConfig => Sys2Proof.Machine.execEvidenceConfig s
  | .breakList => Sys2Proof.Machine.execBreakList s
  | .breakClear => Sys2Proof.Machine.execBreakClear s
  | .evidenceWindowClose => Sys2Proof.Machine.execEvidenceWindowClose s
  | .cableSet => Sys2Proof.Machine.execCableSet s
  | .sweepRequest => Sys2Proof.Machine.execSweepRequest s
  | .sweepCancel => Sys2Proof.Machine.execSweepCancel s
  | .sweepResult => Sys2Proof.Machine.execSweepResult s
  | .calibrationEnd count => Sys2Proof.Machine.execCalibrationEnd count s
  | .acquisitionEnd deviations => Sys2Proof.Machine.execAcquisitionEnd deviations s
  | .sweepDeadline => Sys2Proof.Machine.execSweepDeadline s
  | .analysisEnd => Sys2Proof.Machine.execAnalysisEnd s
  | .identify => Sys2Proof.Machine.execIdentify s
  | .linkStatus => Sys2Proof.Machine.execLinkStatus s
  | .cellReset => Sys2Proof.Machine.execCellReset s
  | .profileSave => Sys2Proof.Machine.execProfileSave s
  | .profileWriteEnd agrees => Sys2Proof.Machine.execProfileWriteEnd agrees s
  | .profileRestoreDefaults => Sys2Proof.Machine.execProfileRestoreDefaults s
  | .headStart p => Sys2Proof.Machine.execHeadStart p s
  | .busRecoveryEnd p => Sys2Proof.Machine.execBusRecoveryEnd p s
  | .gatheredContentOverlong => Sys2Proof.Machine.execGatheredContentOverlong s

end Sys2Proof.Machine
end

