-- ==== Sys2Proof/Machine/Events.lean ====
section
/-!
DEFINITION. What the part does of its own accord when no command waits: the first of its events that is due, and the passing
of one microsecond of the cell clock (notes/assumptions/5.md).
-/

namespace Sys2Proof.Machine

/-- The command of PORT_POWER whose value a request carries (R15, R16). -/
def portPowerCommand (body : List Byte) : Instr :=
  match numAt body 1 1 with
  | 0 => .portPowerOn
  | 1 => .portPowerOff
  | _ => .portPowerProbe

/-- The command that serves a request, by its kind (R173). -/
def serveCommand (r : Request) : Instr :=
  match r.kind.toNat with
  | 0x01 => .portConfig
  | 0x02 => portPowerCommand r.body
  | 0x03 => .portUnlock
  | 0x04 => .portStatus
  | 0x05 => .setCapacity
  | 0x06 => .setSupplyPolicy
  | 0x07 => .supplyStatus
  | 0x08 => .laneStatus
  | 0x09 => .planLoad
  | 0x0A => .planArm
  | 0x0B => .planStop
  | 0x0C => .planAbort
  | 0x0D => .planClear
  | 0x0E => .planFire
  | 0x0F => .planStatus
  | 0x10 => .signalConfig
  | 0x11 => .frameHold
  | 0x12 => .frameRelease
  | 0x13 => .storeStatus
  | 0x14 => .regionRead
  | 0x15 => .uplinkStatus
  | 0x16 => .lensMove
  | 0x17 => .lensPreset
  | 0x18 => .lensPresetSet
  | 0x19 => .lensHome
  | 0x1A => .lensHalt
  | 0x1B => .lensStatus
  | 0x1C => .motionSegment
  | 0x1D => .evidenceConfig
  | 0x1E => .breakList
  | 0x1F => .breakClear
  | 0x20 => .cableSet
  | 0x21 => .sweepRequest
  | 0x22 => .sweepCancel
  | 0x23 => .sweepResult
  | 0x24 => .identify
  | 0x25 => .cellReset
  | 0x26 => .profileSave
  | 0x27 => .profileRestoreDefaults
  | 0x28 => .linkStatus
  | _ => .unknownRequest

/-- A command where it is due. -/
def whenDue (b : Bool) (i : Instr) : List Instr := if b then [i] else []

/-- The events of one port that are due. -/
def State.portEvents (s : State) (p : Port) : List Instr :=
  whenDue (s.rampDue p) (.rampEnd p) ++ whenDue (s.cooldownDue p) (.cooldownEnd p) ++
  whenDue (s.decayDue p) (.tripDecay p) ++ whenDue (s.probePulseDue p) (.probePulseStart p) ++
  whenDue (s.thresholdDue p) (.thresholdTrip p) ++ whenDue (s.openLoadDue p) (.openLoad p) ++
  whenDue (s.trainingDue p) (.trainingDeadline p) ++ whenDue (s.retryDue p) (.trainingRetry p) ++
  whenDue (s.deadlineDue p) (.receptionDeadline p) ++ whenDue (s.exposureDue p) (.exposureWindowEnd p) ++
  whenDue (s.pollDue p).isSome (.pollSlot p) ++ whenDue (s.settleDue p).isSome (.settleEnd p) ++
  whenDue (s.moveLate p) (.moveDeadline p) ++ whenDue (s.haltPollDue p).isSome (.haltReadPoll p) ++
  whenDue (s.haltLate p) (.haltDeadline p)

/-- The events of the shared blocks that are due; the serving of the request at the head comes first. -/
def State.sharedEvents (s : State) : List Instr :=
  (s.link.toServe.map serveCommand).toList ++ whenDue s.heldDue .heldCycleStart ++ whenDue s.expiryDue .periodExpiry ++
  ([0, 1, 2, 3] : List (Fin 4)).flatMap (fun k => whenDue (s.dispatchDue k).isSome (.slotDispatch k)) ++
  whenDue s.combineDue.isSome .combineComplete ++ whenDue s.silenceDue .returnSilence ++
  whenDue s.windowDue .evidenceWindowClose ++ whenDue s.sweepLate.isSome .sweepDeadline ++
  whenDue s.analysisDue.isSome .analysisEnd

/-- The first event of the part's own that is due: those of the shared blocks, then those of the ports in their order. -/
def State.nextEvent (s : State) : Option Instr := (s.sharedEvents ++ allPorts.flatMap s.portEvents).head?

/-- One microsecond passes. What follows the last value of the 64-bit cell clock the spec does not state: it is a free
value (notes/assumptions/2.md). -/
def State.tick (s : State) : State :=
  if s.clock < 18446744073709551615 then { s with clock := s.clock + 1 }
  else { s.usedFree with clock := s.freeBelow 18446744073709551616 }

end Sys2Proof.Machine
end

