-- ==== Sys2Proof/Safety.lean ====
section
/-!
DEFINITION. What counts as a safe state of the part: the properties that the spec says hold at every moment, in the terms
that statements use. Each is a proposition about one state; a run is safe when every state of it is.
-/

namespace Sys2Proof.Safety

open Sys2Proof.Machine

/-- Each port's trip count lies between 0 and 5, and equals 5 exactly when the port is LOCKED (R11). -/
abbrev Trips (s : State) : Prop :=
  ∀ p : Port, s.power[p].tripCount ≤ 5 ∧ (s.power[p].tripCount = 5 ↔ s.power[p].state = .locked)

/-- A port holds a power claim on the list only in WAITING, and holds at most one (R6, R20). -/
abbrev PowerClaims (s : State) : Prop :=
  (∀ c ∈ s.supply.claims, c.kind = .power → s.power[c.port].state = .waiting) ∧
  ((s.supply.claims.filter (fun c => c.kind = .power)).map (·.port)).Nodup

/-- The committed sum never exceeds the capacity (R19). -/
abbrev Budget (s : State) : Prop := s.committed ≤ s.settings.capacity

/-- The lane of a port that is not ON is DOWN (R31). -/
abbrev LanesFollowPower (s : State) : Prop := ∀ p : Port, s.power[p].state ≠ .on → s.lanes[p].state = .down

/-- The frame DRAM is in its canonical form. -/
abbrev MemoryCanonical (s : State) : Prop := Memory.wf s.dram = true

/-- The number of FREE buffers equals the length of the free list, which names FREE buffers, each once (R78, R79). -/
abbrev Buffers (s : State) : Prop :=
  s.store.freeList.Nodup ∧ ∀ b : Fin 48, s.store.buffers[b] = .free ↔ b ∈ s.store.freeList

/-- The sum of a port's 17 segment bins equals its window data-error count (R137). -/
abbrev Bins (s : State) : Prop := ∀ p : Port, s.monitor.ports[p].bins.toList.sum = s.monitor.ports[p].errors

/-- The break table holds at most 32 records (R145). -/
abbrev TableBound (s : State) : Prop := s.table.records.length ≤ 32

/-- Among the records that are not CLEARED no two share port and kind unless both are REFLECTION (R145). -/
abbrev RecordsApart (s : State) : Prop :=
  s.table.records.Pairwise (fun a b =>
    a.state ≠ .cleared → b.state ≠ .cleared → a.port = b.port → a.kind = b.kind → a.kind = .reflection)

/-- The credit count is at most 4,096, and 0 while the link is DOWN (R99 to R102). -/
abbrev Credits (s : State) : Prop := s.uplink.credits ≤ 4096 ∧ (s.uplink.up = false → s.uplink.credits = 0)

/-- The request queue and the refusal list hold at most 8, the notice queue at most 32, and the lost count is at most 255
(R175, R176). -/
abbrev LinkBounds (s : State) : Prop :=
  s.link.requests.length ≤ 8 ∧ s.link.refusals ≤ 8 ∧ s.link.notices.length ≤ 32 ∧ s.link.lost ≤ 255

/-- The region queue holds at most 4 entries (R106). -/
abbrev RegionBound (s : State) : Prop := s.uplink.regions.length ≤ 4

/-- No port appears twice among the sweep queue entries and the sweep in progress together (R156). -/
abbrev SweepPorts (s : State) : Prop :=
  (s.sweeps.queue.map (·.port) ++ (s.sweeps.sweep.map (·.entry.port)).toList).Nodup

/-- While a reflection acquisition is under way on a port the port has no reception window and its lane is QUIET or DOWN with no
retrain begun, so that no trigger is sent into it; and only a QUIET lane has a retrain begun (R35, R39, R160). -/
def AcquisitionsAreQuiet (s : State) : Prop :=
  (∀ a, s.sweeps.acquisition = some a → s.lanes[a.port].window = none ∧ s.lanes[a.port].retrainAt = none ∧
    (s.lanes[a.port].state = .quiet ∨ s.lanes[a.port].state = .down)) ∧
  ∀ p : Port, s.lanes[p].retrainAt ≠ none → s.lanes[p].state = .quiet

/-- A port that is not ON drives no lens: its lens is UNKNOWN or ABSENT with no claim, no start stage, nothing in flight and
its bus OFF (R115, R125). -/
abbrev LensesAtRest (s : State) : Prop :=
  ∀ p : Port, s.power[p].state ≠ .on →
    (s.lenses[p].state = .unknown ∨ s.lenses[p].state = .absent) ∧ s.lenses[p].claim = .none ∧
    s.lenses[p].stage = .none ∧ s.lenses[p].toBegin = false ∧ s.lenses[p].flight = none ∧ s.lenses[p].halt = none ∧
    s.lenses[p].bus = {}

/-- A lens claim stands on the list exactly once for a lens whose claim is standing, and a port holds at most one (R20,
R124). -/
abbrev LensClaims (s : State) : Prop :=
  (∀ c ∈ s.supply.claims, c.kind = .lens → s.lenses[c.port].claim = .standing) ∧
  ((s.supply.claims.filter (fun c => c.kind = .lens)).map (·.port)).Nodup

/-- A claim on the list asks for its port's base reservation or lens surge (R6, R124). -/
abbrev ClaimNeeds (s : State) : Prop :=
  ∀ c ∈ s.supply.claims,
    (c.kind = .power → c.need = s.settings.ports[c.port].baseReservation) ∧
    (c.kind = .lens → c.need = s.settings.ports[c.port].lensSurge)

/-- The shed mark stands only at a port that is OFF (R27). -/
abbrev ShedMarksOff (s : State) : Prop := ∀ p : Port, s.power[p].shedMark = true → s.power[p].state = .off

/-- The power side of the part is sound: the trip counts, the claims, the lanes, the lenses and the shed marks agree with the
power states (R6, R11, R20, R27, R31, R115, R124). -/
abbrev PowerSound (s : State) : Prop :=
  Trips s ∧ PowerClaims s ∧ LanesFollowPower s ∧ LensesAtRest s ∧ LensClaims s ∧ ShedMarksOff s

/-- The books of the frame store balance: ids name one record each, records hold one buffer each, and a buffer is FREE exactly
when it is on the free list, which names the buffers that no record holds, each once (R78 to R80). -/
abbrev StoreSound (s : State) : Prop :=
  (s.store.frames.map (·.id)).Nodup ∧ (s.store.frames.map (·.buffer)).Nodup ∧ Buffers s ∧
  ∀ b : Fin 48, b ∈ s.store.freeList ↔ ∀ f ∈ s.store.frames, f.buffer ≠ b

/-! ## The terms of the statements -/

/-- The request in service is of this kind, tag and body, and waits to be served (R175). -/
abbrev Serves (s : State) (kind tag : Byte) (body : List Byte) : Prop := s.link.toServe = some ⟨kind, tag, body⟩

/-- A request frame as it stands on CL_RX between its delimiters, every stop bit high (section 9.1). -/
def lineOf (kind tag : Byte) (body : List Byte) : List LineByte :=
  (escapeBytes (withCrc16 ([kind, tag] ++ num2 body.length ++ body))).map (fun b => ⟨b, true⟩)

/-- The commands whose request kind has one body length, with the kind and that length (R173, R174). -/
def bodyLengths : List (Instr × Byte × Nat) :=
  [(.portConfig, 0x01, 36), (.portPowerOn, 0x02, 2), (.portPowerOff, 0x02, 2), (.portPowerProbe, 0x02, 2),
   (.portUnlock, 0x03, 1), (.portStatus, 0x04, 1), (.setCapacity, 0x05, 2), (.setSupplyPolicy, 0x06, 2),
   (.supplyStatus, 0x07, 0), (.laneStatus, 0x08, 1), (.planArm, 0x0A, 0), (.planStop, 0x0B, 0), (.planAbort, 0x0C, 0),
   (.planClear, 0x0D, 0), (.planFire, 0x0E, 0), (.planStatus, 0x0F, 0), (.signalConfig, 0x10, 2), (.frameHold, 0x11, 4),
   (.frameRelease, 0x12, 4), (.storeStatus, 0x13, 5), (.regionRead, 0x14, 9), (.uplinkStatus, 0x15, 0),
   (.lensMove, 0x16, 9), (.lensPreset, 0x17, 2), (.lensPresetSet, 0x18, 11), (.lensHome, 0x19, 1), (.lensHalt, 0x1A, 1),
   (.lensStatus, 0x1B, 1), (.motionSegment, 0x1C, 1), (.evidenceConfig, 0x1D, 4), (.breakList, 0x1E, 1),
   (.breakClear, 0x1F, 3), (.sweepRequest, 0x21, 8), (.sweepCancel, 0x22, 1), (.sweepResult, 0x23, 1),
   (.identify, 0x24, 0), (.cellReset, 0x25, 0), (.profileSave, 0x26, 0), (.profileRestoreDefaults, 0x27, 0),
   (.linkStatus, 0x28, 0)]

/-- The body of a PORT_CONFIG: the port number and the profile's fields in their order (R174). -/
def portConfigBody (p : Nat) (f : PortProfile) : List Byte :=
  num1 p ++ num2 f.baseReservation ++ num2 f.overcurrent ++ num2 f.underload ++ num1 f.priority ++ flagByte f.autoPower ++
  flagByte f.probeEnable ++ num2 f.probePeriod ++ num2 f.lensSurge ++ num2 f.strobePeak ++ num2 f.width ++ num2 f.height ++
  num1 f.depth ++ num4 f.readout ++ num2 f.ambientThreshold ++ num1 f.ambientLimit.code ++ num1 f.lensKind.code ++
  num1 f.focusSpeed ++ num1 f.irisSpeed ++ num1 f.zoomSpeed ++ flagByte f.autoHome ++ num2 f.sidebandClock ++
  flagByte f.autoSweep

/-- Each number of a profile fits the bytes that carry it (R174). -/
abbrev ProfileFits (f : PortProfile) : Prop :=
  f.baseReservation < 65536 ∧ f.overcurrent < 65536 ∧ f.underload < 65536 ∧ f.priority < 256 ∧ f.probePeriod < 65536 ∧
  f.lensSurge < 65536 ∧ f.strobePeak < 65536 ∧ f.width < 65536 ∧ f.height < 65536 ∧ f.depth < 256 ∧
  f.readout < 4294967296 ∧ f.ambientThreshold < 65536 ∧ f.focusSpeed < 256 ∧ f.irisSpeed < 256 ∧ f.zoomSpeed < 256 ∧
  f.sidebandClock < 65536

/-- Each number of a profile lies in its range (sections 1.2, 2.2, 3.7 and 6.1). -/
abbrev ProfileInRange (f : PortProfile) : Prop :=
  f.baseReservation ≤ 3000 ∧ 100 ≤ f.overcurrent ∧ f.overcurrent ≤ 4000 ∧ f.baseReservation ≤ f.overcurrent ∧
  5 ≤ f.underload ∧ f.underload ≤ 500 ∧ f.priority ≤ 3 ∧ 250 ≤ f.probePeriod ∧ f.probePeriod ≤ 2000 ∧
  f.probePeriod % 250 = 0 ∧ f.lensSurge ≤ 1500 ∧ f.strobePeak ≤ 3000 ∧ 16 ≤ f.width ∧ f.width ≤ 4096 ∧
  f.width % 16 = 0 ∧ 1 ≤ f.height ∧ f.height ≤ 2048 ∧ (f.depth = 8 ∨ f.depth = 10 ∨ f.depth = 12) ∧ 100 ≤ f.readout ∧
  f.readout ≤ 200000 ∧ f.ambientThreshold ≤ 4095 ∧ 1 ≤ f.focusSpeed ∧ f.focusSpeed ≤ 64 ∧ 1 ≤ f.irisSpeed ∧
  f.irisSpeed ≤ 16 ∧ 1 ≤ f.zoomSpeed ∧ f.zoomSpeed ≤ 64 ∧ (f.sidebandClock = 100 ∨ f.sidebandClock = 400)

/-- The port named in the loaded plan while the plan is ARMED, RUNNING or STOPPING (R3 check 3). -/
abbrev PlanHolds (s : State) (p : Port) : Prop :=
  (s.seq.state = .armed ∨ s.seq.state = .running ∨ s.seq.state = .stopping) ∧ s.seq.marks p = true

/-- A slot as a PLAN_LOAD body carries it: its fields in the order of section 3.2 (R174). -/
def slotBody (k : Slot) : List Byte :=
  portMask (allPorts.filter k.marks) ++ num4 k.offset ++ num4 k.exposure ++ num1 k.pulses ++ num4 k.firstPulse ++
  num2 k.pulseWidth ++ num2 k.pulsePeriod ++ k.fire.map (fun f => if f then 0 else 1) ++
  k.signs.map (fun g => BitVec.ofNat 8 g.code) ++ optNum 1 (k.preset.map (·.val)) ++ flagByte k.hold

/-- The body of a PLAN_LOAD: the slot count and L, the plan fields and the slots (R174). -/
def planBody (q : Plan) : List Byte :=
  num1 q.slots.length ++ num1 q.length ++ num1 q.mode.code ++ optNum 4 q.period ++ optNum 1 (q.edge.map edgeCode) ++
  (q.slots.map slotBody).flatten

/-- Each number of a plan fits the bytes that carry it, and each pattern has L marks (R174). -/
def PlanFits (q : Plan) : Prop :=
  q.slots.length < 256 ∧ q.length < 256 ∧ (∀ n, q.period = some n → n < 4294967296) ∧
  ∀ k ∈ q.slots, k.offset < 4294967296 ∧ k.exposure < 4294967296 ∧ k.pulses < 256 ∧ k.firstPulse < 4294967296 ∧
    k.pulseWidth < 65536 ∧ k.pulsePeriod < 65536 ∧ k.fire.length = q.length ∧ k.signs.length = q.length ∧
    k.used = k.pulses

/-- Each field of a plan lies in its range, and each slot marks a port (section 3.2, R51 check 1). -/
def PlanInRange (q : Plan) : Prop :=
  1 ≤ q.slots.length ∧ q.slots.length ≤ 4 ∧ 1 ≤ q.length ∧ q.length ≤ 8 ∧
  (q.mode = .freeRun → q.edge = none ∧ ∃ n, q.period = some n ∧ 1000 ≤ n ∧ n ≤ 1000000) ∧
  (q.mode = .lineTrigger → q.period = none ∧ q.edge.isSome = true) ∧
  ∀ k ∈ q.slots, (∃ p : Port, k.marks p = true) ∧ k.offset ≤ 1000000 ∧ 10 ≤ k.exposure ∧ k.exposure ≤ 100000 ∧
    k.pulses ≤ 16 ∧ k.firstPulse ≤ 100000 ∧ 2 ≤ k.pulseWidth ∧ k.pulseWidth ≤ 1000 ∧
    k.pulseWidth + 2 ≤ k.pulsePeriod ∧ k.pulsePeriod ≤ 10000

/-- The plan in FREE_RUN, or in LINE_TRIGGER with its edge. -/
def RunsFree (s : State) : Prop := ∃ q, s.seq.plan = some q ∧ q.mode = .freeRun
def RunsOnEdge (s : State) (edge : Edge) : Prop :=
  ∃ q, s.seq.plan = some q ∧ q.mode = .lineTrigger ∧ q.edge = some edge

/-- A port of the plan has its lane in QUIET (R62). -/
abbrev PlanQuiet (s : State) : Prop := ∃ p : Port, s.seq.marks p = true ∧ s.lanes[p].state = .quiet

/-! ## The terms of the lens statements -/

/-- Each target of a LENS_MOVE fits the bytes that carry it (R174). -/
def TargetsFit (a : Axes) : Prop :=
  (∀ n, a.focus = some n → n < 65536) ∧ (∀ n, a.iris = some n → n < 256) ∧ (∀ n, a.zoom = some n → n < 65536)

/-- The lens kind drives iris, or zoom (section 6.1); each kind but NONE drives focus. -/
abbrev DrivesIris (k : LensKind) : Prop := k = .focusIris ∨ k = .focusIrisZoom
abbrev DrivesZoom (k : LensKind) : Prop := k = .focusIrisZoom

/-- The targets name at least one axis and none that the lens lacks (R117 check 4). -/
abbrev TargetsAllowed (k : LensKind) (a : Axes) : Prop :=
  (a.focus ≠ none ∨ a.iris ≠ none ∨ a.zoom ≠ none) ∧ (a.focus ≠ none → k ≠ .none) ∧ (a.iris ≠ none → DrivesIris k) ∧
  (a.zoom ≠ none → DrivesZoom k)

/-- Nothing is pending, starting or in flight for a lens, and it holds no claim (section 6.1). -/
abbrev LensFree (s : State) (p : Port) : Prop :=
  s.lenses[p].pending = none ∧ s.lenses[p].stage = .none ∧ s.lenses[p].toBegin = false ∧ s.lenses[p].claim = .none ∧
  s.lenses[p].flight = none ∧ s.lenses[p].halt = none

/-- A port's sideband bus is free and no transaction waits for it (R125). -/
abbrev BusIdle (s : State) (p : Port) : Prop := s.lenses[p].bus = ⟨.free, none, []⟩

/-- The lens surge of a port is granted at once: no other claim waits, and it fits the capacity (R21, R124). -/
abbrev SurgeFits (s : State) (p : Port) : Prop :=
  s.supply.claims = [] ∧ s.supply.low = none ∧ s.committed + s.settings.ports[p].lensSurge ≤ s.settings.capacity

/-- A move is in flight and not settling (R126). -/
abbrev InFlight (s : State) (p : Port) (f : Flight) : Prop :=
  (s.lenses[p].state = .moving ∨ s.lenses[p].state = .homing) ∧ s.lenses[p].flight = some f ∧ f.settleEndAt = none ∧
  s.lenses[p].halt = none ∧ s.lenses[p].pending = none ∧ s.lenses[p].toBegin = false ∧ s.supply.claims = [] ∧
  s.lenses[p].claim ≠ .standing

/-- A good REPORT (section 6.4): 8 bytes that sum to 0 modulo 256, its positions within the ranges of the axes. -/
abbrev GoodReport (bytes : List Byte) : Prop :=
  bytes.length = 8 ∧ bytes.foldl (· + ·) 0 = 0 ∧ bytesNum ((bytes.drop 1).take 2) ≤ 4095 ∧
  bytesNum ((bytes.drop 4).take 2) ≤ 4095

/-- The positions that a REPORT gives for the axes of a lens kind (R126). -/
def reportPositions (k : LensKind) (bytes : List Byte) : Axes :=
  ⟨if k = LensKind.none then none else some (bytesNum ((bytes.drop 1).take 2)),
   if k = LensKind.focusIris ∨ k = LensKind.focusIrisZoom then some (bytesNum ((bytes.drop 3).take 1)) else none,
   if k = LensKind.focusIrisZoom then some (bytesNum ((bytes.drop 4).take 2)) else none⟩

/-- A lens changed, with its bus free and nothing waiting for it (R125). -/
def lensFreed (s : State) (p : Port) (f : Lens → Lens) : State :=
  { s with lenses := upd s.lenses p (fun (l : Lens) => { f l with bus := ⟨.free, none, []⟩ }) }

/-! ## The terms of the sweep statements -/

/-- The body of a CABLE_SET (R174). -/
def cableBody (p length velocity launch : Nat) (couplers : List Nat) (threshold : Nat) : List Byte :=
  num1 p ++ num2 length ++ num2 velocity ++ num1 launch ++ num1 couplers.length ++ (couplers.map num2).flatten ++
  num2 threshold

/-- How many of some acquisitions deviate at an index at or above a threshold, and at or below minus it (R164). -/
def deviatingUp (threshold : Nat) (acquisitions : List (List Int)) (i : Nat) : Nat :=
  (acquisitions.filter (fun a => (a[i]?).any (fun d => (threshold : Int) ≤ d))).length
def deviatingDown (threshold : Nat) (acquisitions : List (List Int)) (i : Nat) : Nat :=
  (acquisitions.filter (fun a => (a[i]?).any (fun d => d ≤ -(threshold : Int)))).length

end Sys2Proof.Safety
end

