-- ==== Sys2Proof/Certificates/Slice0/Obligations.lean ====
section
/-!
DEFINITION. The statements of this model for its provers, in the order of OBLIGATIONS.json: the step and the link first, then
chapters 1 to 9, then what every step keeps. A statement of the form "exec c s = .next t" says that the command completes and,
t being given whole or field by field, what it changes and what it leaves.
-/

open Sys2Proof Sys2Proof.Machine Sys2Proof.Safety

/-! ## The step -/

/-- One step runs the command at the front of the queue on the state with the queue's rest. With no command waiting,
which is the model's choice (notes/assumptions/5.md), the part takes its first event that is due, or one microsecond
passes and nothing else changes. -/
def Obligations.StepRunsFrontCommand : Prop :=
  (∀ (c : Instr) (rest : List Instr) (s : State), s.pending = c :: rest → step s = exec c { s with pending := rest }) ∧
  (∀ s : State, s.pending = [] →
    (∀ c, s.nextEvent = some c → step s = exec c s) ∧
    (s.nextEvent = none → s.clock < 18446744073709551615 → step s = .next { s with clock := s.clock + 1 }))

/-- Every command of every state answers a next state, and leaves the queue of waiting commands as it is: the model
faults and refuses nowhere (notes/assumptions/46.md). -/
def Obligations.EveryCommandCompletesOffQueue : Prop :=
  ∀ (c : Instr) (s : State), ∃ t, exec c s = .next t ∧ t.pending = s.pending

/-! ## Chapter 9: the link and the profile store -/

/-- A frame that the cell computer spells by section 9.1 is received whole, whatever its kind, tag and body: it joins
the request queue, or is refused BUSY, or is left unanswered (R175). That a refusal being sent is off the refusal list is
the model's choice (notes/assumptions/86.md). -/
def Obligations.SpelledFrameIsReceived : Prop :=
  ∀ (s : State) (kind tag : Byte) (body : List Byte), s.link.framer = .gathering → body.length ≤ 1024 →
    exec (.controlFrameReceived (lineOf kind tag body)) s =
      .next { s with link := (
        if s.link.requests.length < 8 then
          { s.link with
            requests := s.link.requests ++ [Request.mk kind tag body]
            counts := { s.link.counts with wellFormed := sat32 s.link.counts.wellFormed } }
        else if s.link.refusals < 8 then
          { s.link with
            replies := s.link.replies ++ [Reply.mk true kind tag .busy []]
            counts := { s.link.counts with
              wellFormed := sat32 s.link.counts.wellFormed, busy := sat32 s.link.counts.busy } }
        else
          { s.link with counts := { s.link.counts with
              wellFormed := sat32 s.link.counts.wellFormed
              unanswered := sat32 s.link.counts.unanswered } }).transmit }

/-- A frame that fails a test of R172 is discarded and counted under the first cause that applies: nothing else
changes but what the line sends next. Bytes before the first delimiter, and those of an overlong frame, are discarded
up to the next delimiter, which begins a frame; a content that passes 1,030 bytes is counted LENGTH as it does. -/
def Obligations.BadFramesAreDiscarded : Prop :=
  (∀ (s : State) (bytes : List LineByte), s.link.framer = .gathering →
    (bytes = [] → exec (.controlFrameReceived bytes) s = .next s.transmit) ∧
    (bytes ≠ [] → gatheredCount (bytes.map (·.value)) ≤ 1030 →
      ((∃ b ∈ bytes, b.stopHigh = false) →
        exec (.controlFrameReceived bytes) s = .next { s with link :=
          ({ s.link with counts := { s.link.counts with framing := sat32 s.link.counts.framing } }).transmit }) ∧
      ((∀ b ∈ bytes, b.stopHigh = true) →
        (unescape (bytes.map (·.value)) = none →
          exec (.controlFrameReceived bytes) s = .next { s with link :=
            ({ s.link with counts := { s.link.counts with escape := sat32 s.link.counts.escape } }).transmit }) ∧
        (∀ content : List Byte, unescape (bytes.map (·.value)) = some content →
          (4 ≤ content.length → 1024 < bytesNum ((content.drop 2).take 2) →
            exec (.controlFrameReceived bytes) s = .next { s with link :=
              ({ s.link with counts := { s.link.counts with length := sat32 s.link.counts.length } }).transmit }) ∧
          (content.length < 6 ∨ content.length ≠ 6 + bytesNum ((content.drop 2).take 2) →
            bytesNum ((content.drop 2).take 2) ≤ 1024 →
            exec (.controlFrameReceived bytes) s = .next { s with link :=
              ({ s.link with counts := { s.link.counts with short := sat32 s.link.counts.short } }).transmit }) ∧
          (content.length = 6 + bytesNum ((content.drop 2).take 2) → bytesNum ((content.drop 2).take 2) ≤ 1024 →
            withCrc16 (content.take (content.length - 2)) ≠ content →
            exec (.controlFrameReceived bytes) s = .next { s with link :=
              ({ s.link with counts := { s.link.counts with check := sat32 s.link.counts.check } }).transmit }))))) ∧
  (∀ s : State,
    (∀ bytes, s.link.framer ≠ .gathering →
      exec (.controlFrameReceived bytes) s = .next { s with link := ({ s.link with framer := .gathering }).transmit }) ∧
    (s.link.framer = .gathering →
      exec .gatheredContentOverlong s = .next { s with link :=
        ({ s.link with
          framer := .discarding
          counts := { s.link.counts with length := sat32 s.link.counts.length } }).transmit }))

/-- The transmit choice (R177): with a frame under way nothing changes; with the line free, the earliest ready reply
is sent, else the notice at the head with the lost count, else nothing. A notice joins the tail of the queue with its
time of posting, or is counted lost at 32 (R176). At the end of a frame the line is free and the choice is made again:
a reply's end takes its request off the queue, and that of a CELL_RESET empties the notice queue. That a reply of more
than the 1,024 bytes of section 9.1 is sent whole is the model's choice (notes/assumptions/58.md), and so is that a
BUSY reply leaves the refusal list when its sending begins (notes/assumptions/86.md). -/
def Obligations.LinkSendsRepliesFirst : Prop :=
  (∀ l : Link,
    (l.sending.isSome = true → l.transmit = l) ∧
    (l.sending = none →
      (∀ r rest, l.replies = r :: rest → l.transmit = { l with
        replies := rest
        sending := some ⟨if r.refusal then .refusal else .reply (r.kind = 0x25 && r.status = .ok),
          wireFrame 0x80 r.tag (r.kind :: BitVec.ofNat 8 r.status.code :: r.fields)⟩ }) ∧
      (l.replies = [] →
        (∀ n rest, l.notices = n :: rest → l.transmit = { l with
          notices := rest
          lost := 0
          sending := some ⟨.notice, wireFrame n.body.kindByte 0
            ((match n.port with
              | none => [0xFF]
              | some p => num1 p.val) ++ num8 n.time ++ num1 l.lost ++ n.body.bytes)⟩ }) ∧
        (l.notices = [] → l.transmit = l)))) ∧
  (∀ (s : State) (port : Option Port) (body : NoticeBody),
    (s.link.notices.length < 32 →
      s.post port body = { s with link := { s.link with notices := s.link.notices ++ [⟨port, s.clock, body⟩] } }) ∧
    (32 ≤ s.link.notices.length →
      s.post port body = { s with link := { s.link with
        lost := min 255 (s.link.lost + 1)
        counts := { s.link.counts with noticesLost := min 4294967295 (s.link.counts.noticesLost + 1) } } })) ∧
  (∀ (s : State) (wire : List Byte) (reset : Bool),
    (s.link.sending = some ⟨.reply reset, wire⟩ →
      exec .txFrameEnd s = .next { s with link :=
        ({ s.link with
          sending := none
          requests := s.link.requests.tail
          answered := false
          notices := if reset then [] else s.link.notices
          lost := if reset then 0 else s.link.lost
          counts := { s.link.counts with repliesSent := sat32 s.link.counts.repliesSent } }).transmit }) ∧
    (s.link.sending = some ⟨.refusal, wire⟩ →
      exec .txFrameEnd s = .next { s with link :=
        ({ s.link with
          sending := none
          counts := { s.link.counts with repliesSent := sat32 s.link.counts.repliesSent } }).transmit }) ∧
    (s.link.sending = some ⟨.notice, wire⟩ →
      exec .txFrameEnd s = .next { s with link :=
        ({ s.link with
          sending := none
          counts := { s.link.counts with noticesSent := sat32 s.link.counts.noticesSent } }).transmit }))

/-- Replies (R173, R178): a reply carries the tag and kind of the request in service, and is counted; a kind that is
not of the catalogue is answered UNKNOWN_REQUEST; a body that has not the one length of its kind is answered
BAD_LENGTH and does not reach its owner. -/
def Obligations.RequestsAreAnswered : Prop :=
  (∀ (s : State) (r : Request) (rest : List Request) (status : Status) (fields : List Byte), s.link.requests = r :: rest →
    s.answer status fields = { s with link := { s.link with
      answered := true
      replies := s.link.replies ++ [⟨false, r.kind, r.tag, status, fields⟩]
      counts := { s.link.counts with
        served := sat32 s.link.counts.served
        unknown := if status = .unknownRequest then sat32 s.link.counts.unknown else s.link.counts.unknown
        badLength := if status = .badLength then sat32 s.link.counts.badLength else s.link.counts.badLength } } }) ∧
  (∀ (s : State) (kind tag : Byte) (body : List Byte), Serves s kind tag body → kind = 0x00 ∨ 0x29 ≤ kind.toNat →
    exec .unknownRequest s = .next (s.reply .unknownRequest).transmit) ∧
  (∀ (c : Instr) (kind : Byte) (size : Nat), (c, kind, size) ∈ bodyLengths → ∀ (s : State) (tag : Byte) (body : List Byte),
    Serves s kind tag body → body.length ≠ size → exec c s = .next (s.reply .badLength).transmit)

/-- The status requests of every chapter answer, and change nothing but the link that carries the reply; a port beyond
7 is answered OUT_OF_RANGE, and an id that names no frame NOT_FOUND. The fields of each reply are those of the
functions named (notes/assumptions/39.md, 56.md, 80.md, 85.md, 87.md, 90.md, 91.md, 92.md,
98.md, 100.md). -/
def Obligations.StatusRequestsOnlyReply : Prop :=
  ∀ (s : State) (tag : Byte),
    (∀ p : Port,
      (Serves s 0x04 tag (num1 p.val) → exec .portStatus s = .next (s.answer .ok (s.portStatusFields p)).transmit) ∧
      (Serves s 0x08 tag (num1 p.val) → exec .laneStatus s = .next (s.answer .ok (s.laneStatusFields p)).transmit) ∧
      (Serves s 0x1B tag (num1 p.val) → exec .lensStatus s = .next (s.answer .ok (s.lensStatusFields p)).transmit) ∧
      (Serves s 0x1E tag (num1 p.val) →
        exec .breakList s = .next (s.answer .ok (s.breakListHead ++ s.breakListPort p)).transmit) ∧
      (Serves s 0x23 tag (num1 p.val) → exec .sweepResult s = .next (s.answer .ok (s.sweepResultFields p)).transmit)) ∧
    (∀ n : Byte, 7 < n.toNat →
      (Serves s 0x04 tag [n] → exec .portStatus s = .next (s.reply .outOfRange).transmit) ∧
      (Serves s 0x08 tag [n] → exec .laneStatus s = .next (s.reply .outOfRange).transmit) ∧
      (Serves s 0x1B tag [n] → exec .lensStatus s = .next (s.reply .outOfRange).transmit) ∧
      (Serves s 0x1E tag [n] → n ≠ 0xFF → exec .breakList s = .next (s.reply .outOfRange).transmit) ∧
      (Serves s 0x23 tag [n] → exec .sweepResult s = .next (s.reply .outOfRange).transmit)) ∧
    (Serves s 0x1E tag [0xFF] →
      exec .breakList s = .next (s.answer .ok (s.breakListHead ++ s.breakListAll)).transmit) ∧
    (Serves s 0x07 tag [] → exec .supplyStatus s = .next (s.answer .ok s.supplyStatusFields).transmit) ∧
    (Serves s 0x0F tag [] → exec .planStatus s = .next (s.answer .ok s.planStatusFields).transmit) ∧
    (Serves s 0x15 tag [] → exec .uplinkStatus s = .next (s.answer .ok s.uplinkStatusFields).transmit) ∧
    (Serves s 0x13 tag (0 :: num4 0) → exec .storeStatus s = .next (s.answer .ok s.store.statusFields).transmit) ∧
    (∀ id : Nat, id < 4294967296 → Serves s 0x13 tag (1 :: num4 id) →
      (s.store.frame? id = none → exec .storeStatus s = .next (s.reply .notFound).transmit) ∧
      (∀ f, s.store.frame? id = some f →
        exec .storeStatus s = .next (s.answer .ok (frameRecordBytes f s.store.buffers[f.buffer])).transmit))

/-- IDENTIFY and LINK_STATUS reply with the fields of R178, and change nothing but the link that carries the reply.
The widths of the fields are those the model reads from R174 (notes/assumptions/38.md), and the counts are as they
stand before the reply (notes/assumptions/41.md), and a refusal being sent is off the refusal list
(notes/assumptions/86.md). -/
def Obligations.LinkAnswersIdentifyAndStatus : Prop :=
  ∀ (s : State) (tag : Byte),
    (Serves s 0x24 tag [] →
      exec .identify s = .next (s.answer .ok ([3, 0x49, 0x56, 0x4A, 5, 0x56, 0x43, 0x48, 0x2D, 0x38, 1, 0x42, 8, 48,
        if s.profile.write.isSome then 2 else if s.profile.image.isSome then 0 else 1,
        match s.profile.origin with
        | .profile => 0
        | .defaults => 1])).transmit) ∧
    (Serves s 0x28 tag [] →
      exec .linkStatus s = .next (s.answer .ok
        (num1 s.link.requests.length ++ (s.link.requests.map (fun r => [r.kind, r.tag])).flatten ++
          num1 (s.link.replies.filter (·.refusal)).length ++ num1 s.link.notices.length ++ num1 s.link.lost ++
          num4 s.link.counts.wellFormed ++ num4 s.link.counts.framing ++ num4 s.link.counts.escape ++
          num4 s.link.counts.length ++ num4 s.link.counts.short ++ num4 s.link.counts.check ++
          num4 s.link.counts.unknown ++ num4 s.link.counts.badLength ++ num4 s.link.counts.served ++
          num4 s.link.counts.busy ++ num4 s.link.counts.unanswered ++ num4 s.link.counts.repliesSent ++
          num4 s.link.counts.noticesSent ++ num4 s.link.counts.noticesLost)).transmit)

/-- A save takes a snapshot of the working settings and lasts 200 ms; one under way is answered BUSY; at its end the
image is the snapshot, or INVALID, and a PROFILE notice tells which (R181). PROFILE_RESTORE_DEFAULTS (R182) sets every
working setting to its default, keeps the image and walks the claim list; a port in PROBING goes on with the default probe
period, and each lens is ABSENT; in any other state of a port or of the plan it is refused. -/
def Obligations.ProfileStoreSavesAndRestores : Prop :=
  (∀ (s : State) (tag : Byte),
    (Serves s 0x26 tag [] → s.profile.write = none →
      exec .profileSave s = .next (({ s with profile := { s.profile with
        write := some ⟨s.settings, s.clock, s.clock + 200000⟩ } }).reply .accepted).transmit) ∧
    (Serves s 0x26 tag [] → s.profile.write.isSome = true → exec .profileSave s = .next (s.reply .busy).transmit) ∧
    (∀ w : ProfileWrite, s.profile.write = some w → w.endAt ≤ s.clock →
      exec (.profileWriteEnd true) s = .next (({ s with profile := { s.profile with
        image := some w.snapshot, write := none } }).post none (.profile .saved w.snapshotAt .valid)).transmit ∧
      exec (.profileWriteEnd false) s = .next (({ s with profile := { s.profile with
        image := none, write := none } }).post none (.profile .failed w.snapshotAt .invalid)).transmit)) ∧
  (∀ (s : State) (tag : Byte), Serves s 0x27 tag [] →
    (s.seq.state = .empty ∨ s.seq.state = .loaded →
      (∀ p : Port, s.power[p].state = .off ∨ s.power[p].state = .probing ∨ s.power[p].state = .locked) →
      ∃ (power : Vector PortPower 8) (lenses : Vector Lens 8),
        exec .profileRestoreDefaults s = .next ((({ s with
          settings := {}, profile := { s.profile with origin := .defaults }, power := power, lenses := lenses }).walk).reply
            .ok).transmit ∧
        (∀ p : Port, s.power[p].state ≠ .probing → power[p] = s.power[p]) ∧
        (∀ p : Port, s.power[p].state = .probing → power[p] = { s.power[p] with
          probeAt := some (s.clock + 1000000)
          pulseEndAt := if s.settings.ports[p].probeEnable then s.power[p].pulseEndAt else some (s.clock + 2000) }) ∧
        (∀ p : Port, lenses[p] = { s.lenses[p] with
          state := .absent, pending := none, stage := .none, toBegin := false, waits := 0, lastFault := none })) ∧
    (s.seq.state = .armed ∨ s.seq.state = .running ∨ s.seq.state = .stopping ∨
        (∃ p : Port, s.power[p].state = .waiting ∨ s.power[p].state = .ramping ∨ s.power[p].state = .on ∨
          s.power[p].state = .cooldown) →
      exec .profileRestoreDefaults s = .next (s.reply .wrongState).transmit))

/-- NRESET and POWER_ON_RESET (R29, R76, R97, R113, R134, R152, R171, R183, R184): the part starts with the image's
settings where a valid image stands, and with the factory defaults and a PROFILE notice where none does; every block
is at its reset values, and each port with auto-power raises its claim, in order of priority and then of number: the
first of them are granted while the capacity covers their base reservations, and the others wait on the claim list.
Their PORT_STATE notices are posted in that order, and READY after them. That the image, the bytes of the frame DRAM
and the model's own counter and queue are kept is the model's choice (notes/assumptions/19.md), and so are the CELL_IN
voltage of 0 mV (notes/assumptions/20.md), the first sample of a port at clock 1,000 µs (notes/assumptions/50.md) and
that the time in the PROFILE notice is a free value (notes/assumptions/64.md). -/
def Obligations.ResetsStartThePart : Prop :=
  ∀ (s : State) (c : Instr), c = .nreset ∨ c = .powerOnReset →
    (s.profile.image = none ∨ s.profile.write.isSome = true →
      ∃ time : Time, time < 18446744073709551616 ∧
        exec c s = .next ((({ State.reset with
          dram := s.dram, freeCount := s.freeCount + 1, pending := s.pending }).post none
          (.profile .defaults time .invalid)).post none (.ready .defaults .invalid)).transmit) ∧
    (∀ (image : Settings) (order : List Port), s.profile.image = some image → s.profile.write = none →
      (∀ p : Port, p ∈ order ↔ image.ports[p].autoPower = true ∧ image.ports[p].priority ≤ 3) →
      order.Pairwise (fun p q => image.ports[q].priority < image.ports[p].priority ∨
        (image.ports[p].priority = image.ports[q].priority ∧ p < q)) →
      ∃ (granted waiting : List Port) (t : State), exec c s = .next t ∧ order = granted ++ waiting ∧
        (granted.map (fun p => image.ports[p].baseReservation)).sum ≤ image.capacity ∧
        (∀ p rest, waiting = p :: rest →
          image.capacity < (granted.map (fun q => image.ports[q].baseReservation)).sum + image.ports[p].baseReservation) ∧
        t.settings = image ∧ t.clock = 0 ∧ t.profile = { image := some image, write := none, origin := .profile } ∧
        t.lanes = State.reset.lanes ∧ t.seq = {} ∧ t.store = {} ∧ t.uplink = {} ∧ t.table = {} ∧ t.sweeps = {} ∧
        t.monitor = { ({} : Monitor) with windowEnd := image.windowSeconds * 1000000 } ∧
        t.supply = { State.reset.supply with
          claims := waiting.map (fun p => ⟨p, .power, image.ports[p].baseReservation, image.ports[p].priority, 0⟩) } ∧
        t.dram = s.dram ∧ t.freeCount = s.freeCount ∧ t.pending = s.pending ∧
        t.link = ({ ({} : Link) with
          notices := granted.map (fun p => (⟨some p, 0, .portState .state .ramping .off .reset⟩ : Notice)) ++
            waiting.map (fun p => (⟨some p, 0, .portState .state .waiting .off .reset⟩ : Notice)) ++
            [(⟨none, 0, .ready .profile .valid⟩ : Notice)] }).transmit ∧
        (∀ p : Port,
          (p ∉ order → t.power[p] = {}) ∧
          (p ∈ granted → t.power[p] = { ({} : PortPower) with state := .ramping, rampEndAt := some 20000 }) ∧
          (p ∈ waiting → t.power[p] = { ({} : PortPower) with state := .waiting }) ∧
          t.lenses[p] = { ({} : Lens) with
            state := if image.ports[p].lensKind = LensKind.none then .absent else .unknown }))

/-- CELL_RESET (R30, R49, R77, R98, R114, R135, R152, R171, R179): a port is OFF, or stays LOCKED, with its trip count
kept; its lane is DOWN and its lens at rest; the plan is EMPTY, the store empty but for its id counter, the claim
list, the region queue and the sweep queue empty, a new evidence window begun; the working settings, the break table,
the frame DRAM, the cell clock and the profile store are kept. The result record of a sweep in progress ends CANCELLED.
The uplink keeps its link and credits with its counts at 0; an item in flight leaves its packet to be sent to its end
and, unless that is its TRAILER, a pending TRAILER with ABORTED, the lines sent and their CRC-32. The reply is OK, and
the notices of the reset stand behind those that wait. What a LOCKED port keeps is read as notes/assumptions/24.md
says; that the packet under way is then no item's is the model's choice (notes/assumptions/60.md), and so is that a
wait for a credit is not counted again (notes/assumptions/68.md) and that the field more of that result record stays as
it was, absent (notes/assumptions/90.md). -/
def Obligations.CellResetRestsTheCell : Prop :=
  ∀ (s : State) (tag : Byte), Serves s 0x25 tag [] →
    ∃ t, exec .cellReset s = .next t ∧
      (∀ p : Port,
        (s.power[p].state = .locked →
          t.power[p] = { s.power[p] with presence := .unseen, shedMark := false, overdrawSent := false }) ∧
        (s.power[p].state ≠ .locked →
          t.power[p] = { s.power[p] with
            state := .off
            reason := .reset
            presence := .unseen
            overRun := none
            underRun := none
            shedMark := false
            overdrawSent := false
            pulseEndAt := none
            probeAt := none
            rampEndAt := none
            cooldownEndAt := none }) ∧
        t.lanes[p] = { since := if s.lanes[p].state = .down then s.lanes[p].since else s.clock } ∧
        t.lenses[p] = { ({} : Lens) with
          state := if s.lenses[p].state = .absent then .absent else .unknown, lastFault := s.lenses[p].lastFault } ∧
        t.monitor.ports[p] = {}) ∧
      t.supply = { s.supply with claims := [] } ∧ t.seq = {} ∧ t.store = { idCounter := s.store.idCounter } ∧
      t.monitor.segment = none ∧ t.monitor.windowStart = s.clock ∧
      t.monitor.windowEnd = s.clock + s.settings.windowSeconds * 1000000 ∧
      t.sweeps.queue = [] ∧ t.sweeps.sweep = none ∧ t.sweeps.acquisition = none ∧ t.sweeps.counter = s.sweeps.counter ∧
      (∀ p : Port,
        (∀ w, s.sweeps.sweep = some w → w.entry.port = p →
          t.sweeps.results[p] = { s.sweeps.results[p] with state := .cancelled, endAt := some s.clock }) ∧
        ((∀ w, s.sweeps.sweep = some w → w.entry.port ≠ p) → t.sweeps.results[p] = s.sweeps.results[p])) ∧
      (∃ (link : Link) (posted : List Notice), t.link = link.transmit ∧
        link.requests = s.link.requests ∧ link.answered = true ∧ link.sending = s.link.sending ∧
        link.replies = s.link.replies ++ [⟨false, 0x25, tag, .ok, []⟩] ∧ (∀ n ∈ posted, n.time = s.clock) ∧
        link.notices = s.link.notices ++ posted.take (32 - s.link.notices.length) ∧
        link.counts.served = sat32 s.link.counts.served) ∧
      t.uplink.up = s.uplink.up ∧ t.uplink.item = none ∧ t.uplink.regions = [] ∧ t.uplink.regionCounter = 0 ∧
      (∀ (kept : Uplink) (flags : FrameFlags),
        kept = { s.uplink with item := none, regions := [], regionCounter := 0, counts := {} } →
        (s.uplink.item = none → s.uplink.trailer = none → t.uplink = kept) ∧
        (∀ (i : Item) (f : FrameRecord), s.uplink.item = some i → s.store.frame? i.frame = some f →
          flags = { f.flags with aborted := true } →
          (s.uplink.packet = none → s.uplink.waiting = true → s.uplink.credits = 0 →
            t.uplink = { kept with trailer := some ⟨i.frame, flags, i.sent, i.crc⟩ }) ∧
          (∀ packet, s.uplink.packet = some packet →
            (packet.kind = .header → t.uplink = { kept with
              packet := some { packet with kind := .orphan }, trailer := some ⟨i.frame, flags, i.sent, i.crc⟩ }) ∧
            (∀ (number : Nat) (pixels : List Byte), packet.kind = .line →
              packet.bytes = withCrc16 (0xC2 :: (num4 i.frame ++ num2 number ++ pixels)) →
              t.uplink = { kept with
                packet := some { packet with kind := .orphan }
                trailer := some ⟨i.frame, flags, i.sent + 1, crc32Feed i.crc pixels⟩ }) ∧
            (packet.kind = .trailer → t.uplink = { kept with
              packet := some { packet with kind := .orphan }, trailer := none })))) ∧
      t.settings = s.settings ∧ t.clock = s.clock ∧ t.table = s.table ∧ t.dram = s.dram ∧ t.profile = s.profile ∧
      t.pending = s.pending

/-! ## Chapter 1: port power and the supply -/

/-- PORT_CONFIG checks its fields, the port's state and the plan in that order, and replaces the whole profile with
its configured mark set; a port in PROBING goes on with the new probe fields, and a lens whose kind becomes or leaves
NONE changes with it. Every field of the body is read where R174 puts it. The widths of the fields are those the model
reads from R174 (notes/assumptions/38.md). -/
def Obligations.PortConfigReplacesProfile : Prop :=
  ∀ (s : State) (tag : Byte) (f : PortProfile), ProfileFits f →
    (∀ n : Nat, n < 256 → Serves s 0x01 tag (portConfigBody n f) → 7 < n ∨ ¬ ProfileInRange f →
      exec .portConfig s = .next (s.reply .outOfRange).transmit) ∧
    (∀ p : Port, Serves s 0x01 tag (portConfigBody p.val f) → ProfileInRange f →
      (s.power[p].state = .waiting ∨ s.power[p].state = .ramping ∨ s.power[p].state = .on ∨ s.power[p].state = .cooldown ∨
          PlanHolds s p →
        exec .portConfig s = .next (s.reply .wrongState).transmit) ∧
      (s.power[p].state = .off ∨ s.power[p].state = .probing ∨ s.power[p].state = .locked → ¬ PlanHolds s p →
        exec .portConfig s = .next (({ s with
          settings := { s.settings with ports := upd s.settings.ports p (fun _ => { f with configured := true }) }
          power := upd s.power p (fun (w : PortPower) =>
            if w.state = PowerState.probing then
              if f.probeEnable then
                { w with
                  probeAt := some (s.clock + f.probePeriod * 1000)
                  pulseEndAt := if s.settings.ports[p].probeEnable then w.pulseEndAt else some (s.clock + 2000) }
              else { w with probeAt := none, pulseEndAt := none }
            else w)
          lenses := upd s.lenses p (fun (l : Lens) =>
            if f.lensKind = LensKind.none then
              { l with
                state := .absent, pending := none, stage := .none, toBegin := false, waits := 0, lastFault := none }
            else if s.settings.ports[p].lensKind = LensKind.none then { l with state := .unknown } else l) }).reply
          .ok).transmit))

/-- PORT_POWER(ON) (R15): from OFF or PROBING the port goes to RAMPING where its claim comes to the head of the list and fits
the capacity, no claim behind it fitting any more, and to WAITING with its claim in its place on the list while the supply
is LOW or the claim at the head, its own or one that waited, does not fit (R6, R20, R21); from the other states it changes
nothing.
PORT_POWER names a port from 0 to 7 and one of ON, OFF and PROBE: any other is answered OUT_OF_RANGE (section 1.6).
That each of the three rows of PORT_POWER answers a value above 2 is the model's choice (notes/assumptions/15.md). -/
def Obligations.PortPowerOnRaisesClaim : Prop :=
  (∀ (s : State) (tag : Byte) (p : Port), Serves s 0x02 tag (num1 p.val ++ num1 0) →
    (s.power[p].state = .waiting ∨ s.power[p].state = .ramping ∨ s.power[p].state = .on ∨ s.power[p].state = .cooldown →
      exec .portPowerOn s = .next (s.reply .ok).transmit) ∧
    (s.power[p].state = .locked → exec .portPowerOn s = .next (s.reply .wrongState).transmit) ∧
    (s.power[p].state = .off ∨ s.power[p].state = .probing →
      ((∀ d, s.supply.claims.head? = some d → d.priority < s.settings.ports[p].priority ∧
          s.settings.capacity < s.committed + s.settings.ports[p].baseReservation + d.need) →
        (∀ d ∈ s.supply.claims, d.port = p → d.kind ≠ .power) → s.supply.low = none →
        s.committed + s.settings.ports[p].baseReservation ≤ s.settings.capacity →
        exec .portPowerOn s = .next ((({ s with power := upd s.power p (fun w => { w with
          state := .ramping
          underRun := none
          shedMark := if w.state = PowerState.off then false else w.shedMark
          pulseEndAt := none
          probeAt := none
          rampEndAt := some (s.clock + 20000)
          cooldownEndAt := none }) }).post (some p)
            (.portState .state .ramping s.power[p].state s.power[p].reason)).reply .ok).transmit) ∧
      (s.supply.low.isSome = true ∨ (∃ d, (insertClaim (Claim.mk p .power s.settings.ports[p].baseReservation
            s.settings.ports[p].priority s.clock) s.supply.claims).head? = some d ∧
          s.settings.capacity < s.committed + d.need) →
        exec .portPowerOn s = .next ((({ s with
          supply := { s.supply with claims := insertClaim (Claim.mk p .power s.settings.ports[p].baseReservation
              s.settings.ports[p].priority s.clock) s.supply.claims }
          power := upd s.power p (fun w => { w with
            state := .waiting
            overRun := none
            underRun := none
            shedMark := if w.state = PowerState.off then false else w.shedMark
            pulseEndAt := none
            probeAt := none
            rampEndAt := none
            cooldownEndAt := none }) }).post (some p)
            (.portState .state .waiting s.power[p].state s.power[p].reason)).reply .ok).transmit))) ∧
  (∀ (s : State) (tag : Byte) (port value : Nat), port < 256 → value < 256 → Serves s 0x02 tag (num1 port ++ num1 value) →
    (2 < value → exec .portPowerOn s = .next (s.reply .outOfRange).transmit ∧
      exec .portPowerOff s = .next (s.reply .outOfRange).transmit ∧
      exec .portPowerProbe s = .next (s.reply .outOfRange).transmit) ∧
    (7 < port →
      (value = 0 → exec .portPowerOn s = .next (s.reply .outOfRange).transmit) ∧
      (value = 1 → exec .portPowerOff s = .next (s.reply .outOfRange).transmit) ∧
      (value = 2 → exec .portPowerProbe s = .next (s.reply .outOfRange).transmit)))

/-- PORT_POWER(OFF) and PORT_POWER(PROBE) away from ON (R16): the port goes to OFF or to PROBING with last-off reason
HOST and its shed mark clear, with its claim withdrawn from the list; PROBE in PROBING keeps the pulses; LOCKED
refuses both. -/
def Obligations.PortPowerOffAndProbeAtRest : Prop :=
  ∀ (s : State) (tag : Byte) (p : Port),
    (s.power[p].state = .locked →
      (Serves s 0x02 tag (num1 p.val ++ num1 1) → exec .portPowerOff s = .next (s.reply .wrongState).transmit) ∧
      (Serves s 0x02 tag (num1 p.val ++ num1 2) → exec .portPowerProbe s = .next (s.reply .wrongState).transmit)) ∧
    (s.power[p].state = .off → Serves s 0x02 tag (num1 p.val ++ num1 1) →
      exec .portPowerOff s = .next (({ s with power := upd s.power p (fun w => { w with
        reason := .host, shedMark := false }) }).reply .ok).transmit) ∧
    (s.power[p].state = .probing → Serves s 0x02 tag (num1 p.val ++ num1 2) →
      exec .portPowerProbe s = .next (({ s with power := upd s.power p (fun w => { w with
        shedMark := false }) }).reply .ok).transmit) ∧
    (∀ rest : List Claim,
      (s.power[p].state = .probing ∧ rest = s.supply.claims) ∨ (s.power[p].state = .cooldown ∧ rest = s.supply.claims) ∨
        (s.power[p].state = .ramping ∧ s.supply.claims = [] ∧ rest = []) ∨
        (s.power[p].state = .waiting ∧ rest = [] ∧ ∀ c ∈ s.supply.claims, c.port = p ∧ c.kind = .power) →
      Serves s 0x02 tag (num1 p.val ++ num1 1) →
      exec .portPowerOff s = .next ((({ s with
        supply := { s.supply with claims := rest }
        power := upd s.power p (fun w => { w with
          state := .off
          reason := .host
          overRun := none
          underRun := none
          shedMark := false
          pulseEndAt := none
          probeAt := none
          rampEndAt := none
          cooldownEndAt := none }) }).post (some p) (.portState .state .off s.power[p].state .host)).reply .ok).transmit) ∧
    (∀ rest : List Claim,
      (s.power[p].state = .off ∧ rest = s.supply.claims) ∨ (s.power[p].state = .cooldown ∧ rest = s.supply.claims) ∨
        (s.power[p].state = .ramping ∧ s.supply.claims = [] ∧ rest = []) ∨
        (s.power[p].state = .waiting ∧ rest = [] ∧ ∀ c ∈ s.supply.claims, c.port = p ∧ c.kind = .power) →
      Serves s 0x02 tag (num1 p.val ++ num1 2) →
      exec .portPowerProbe s = .next ((({ s with
        supply := { s.supply with claims := rest }
        power := upd s.power p (fun w => { w with
          state := .probing
          reason := .host
          presence := .unseen
          overRun := none
          underRun := none
          shedMark := false
          pulseEndAt := if s.settings.ports[p].probeEnable then some (s.clock + 2000) else none
          probeAt := if s.settings.ports[p].probeEnable then some (s.clock + s.settings.ports[p].probePeriod * 1000)
            else none
          rampEndAt := none
          cooldownEndAt := none }) }).post (some p)
            (.portState .state .probing s.power[p].state .host)).reply .ok).transmit)

/-- A port that leaves ON at a PORT_POWER(OFF) or PORT_POWER(PROBE) (R4, R8, R16, R32, R115, R162): the port is OFF, or
PROBING with its presence UNSEEN and its first pulse begun where probing is enabled; its lane is DOWN with no window and
no exposure, its lens at rest with nothing pending and no claim; a sweep of the port that is not yet analysed keeps
nothing it gathered, and an acquisition under way will not be gathered; another port's power changes only by the grant of
its waiting claim; and the settings, the clock, the evidence, the break table and the profile store stay as they are. -/
def Obligations.LeavingOnRestsThePort : Prop :=
  ∀ (s : State) (tag : Byte) (p : Port) (c : Instr) (new : PowerState), PowerClaims s → s.power[p].state = .on →
    (c = .portPowerOff ∧ new = .off ∧ Serves s 0x02 tag (num1 p.val ++ num1 1)) ∨
      (c = .portPowerProbe ∧ new = .probing ∧ Serves s 0x02 tag (num1 p.val ++ num1 2)) →
    ∃ t, exec c s = .next t ∧
      t.power[p].state = new ∧ t.power[p].reason = .host ∧ t.power[p].shedMark = false ∧
      t.power[p].tripCount = s.power[p].tripCount ∧
      (new = .off → t.power[p].presence = s.power[p].presence ∧ t.power[p].pulseEndAt = none ∧
        t.power[p].probeAt = none) ∧
      (new = .probing → t.power[p].presence = .unseen ∧
        t.power[p].pulseEndAt = (if s.settings.ports[p].probeEnable then some (s.clock + 2000) else none) ∧
        t.power[p].probeAt =
          if s.settings.ports[p].probeEnable then some (s.clock + s.settings.ports[p].probePeriod * 1000) else none) ∧
      t.lanes[p].state = .down ∧ t.lanes[p].window = none ∧ t.lanes[p].exposure = none ∧
      (t.lenses[p].state = .unknown ∨ t.lenses[p].state = .absent) ∧ t.lenses[p].position = {} ∧
      t.lenses[p].pending = none ∧ t.lenses[p].flight = none ∧ t.lenses[p].halt = none ∧ t.lenses[p].claim = .none ∧
      (∀ d ∈ t.supply.claims, d ∈ s.supply.claims ∧ d.port ≠ p ∨ d.kind = .lens ∧ d.port ≠ p) ∧
      (∀ w, s.sweeps.sweep = some w → w.entry.port = p → s.sweeps.results[p].state = .calibrating ∨
          s.sweeps.results[p].state = .acquiring ∨ s.sweeps.results[p].state = .suspended →
        t.sweeps.sweep = some { w with samples := [] } ∧ t.sweeps.results[p].gathered = some 0 ∧
        t.sweeps.results[p].restarts = s.sweeps.results[p].restarts.map (fun n => min 4294967295 (n + 1)) ∧
        (∀ a, s.sweeps.acquisition = some a → t.sweeps.acquisition = some { a with live := false })) ∧
      (∀ q : Port, q ≠ p → t.power[q].state = s.power[q].state ∨
        (s.power[q].state = .waiting ∧ t.power[q].state = .ramping)) ∧
      t.settings = s.settings ∧ t.clock = s.clock ∧ t.monitor = s.monitor ∧ t.table = s.table ∧ t.profile = s.profile ∧
      t.pending = s.pending

/-- PORT_UNLOCK takes a LOCKED port to OFF with its trip count at 0, its decay timer idle and its last-off reason
kept; on any other port it changes nothing (R17). The link's choice at a command's end is the model's
(notes/assumptions/7.md). -/
def Obligations.PortUnlockClearsTrips : Prop :=
  ∀ (s : State) (tag : Byte) (p : Port), Serves s 0x03 tag (num1 p.val) →
    (s.power[p].state = .locked →
      exec .portUnlock s = .next ((({ s with power := upd s.power p (fun w => { w with
        state := .off
        tripCount := 0
        decayAt := none
        overRun := none
        underRun := none
        pulseEndAt := none
        probeAt := none
        rampEndAt := none
        cooldownEndAt := none }) }).post (some p)
          (.portState .state .off .locked s.power[p].reason)).reply .ok).transmit) ∧
    (s.power[p].state ≠ .locked → exec .portUnlock s = .next (s.reply .wrongState).transmit)

/-- The walk grants the claim at the head while the supply is not LOW and the committed sum with its need stays within
the capacity, and stops at the first claim that does not fit, or at the end of the list; a power claim's grant takes
its port to RAMPING for 20 ms, and a lens claim's commits the surge (R21, R7, R124). The list is kept in order of
priority, highest first: a joining claim stands after every claim of its own or higher priority and before every claim
of lower priority, and the others keep their order (R20). -/
def Obligations.WalkGrantsFromTheHead : Prop :=
  (∀ s : State,
    (s.supply.claims = [] → s.walk = s) ∧
    (∀ (c : Claim) (rest : List Claim), s.supply.claims = c :: rest →
      (s.supply.low.isSome = true ∨ s.settings.capacity < s.committed + c.need → s.walk = s) ∧
      (s.supply.low = none → s.committed + c.need ≤ s.settings.capacity →
        ∃ u : State, s.walk = u.walk ∧ u.supply.claims = rest ∧
          (c.kind = .power →
            u = ({ s with
              supply := { s.supply with claims := rest }
              power := upd s.power c.port (fun w => { w with
                state := .ramping
                underRun := none
                shedMark := if w.state = PowerState.off then false else w.shedMark
                pulseEndAt := none
                probeAt := none
                rampEndAt := some (s.clock + 20000)
                cooldownEndAt := none }) }).post (some c.port)
                (.portState .state .ramping s.power[c.port].state s.power[c.port].reason)) ∧
          (c.kind = .lens → u.lenses[c.port].claim = .granted ∧ u.power = s.power)))) ∧
  (∀ (c : Claim) (cs : List Claim), cs.Pairwise (fun a b => b.priority ≤ a.priority) →
    (insertClaim c cs).Pairwise (fun a b => b.priority ≤ a.priority) ∧
    ∃ before after, cs = before ++ after ∧ insertClaim c cs = before ++ c :: after ∧
      (∀ d ∈ before, c.priority ≤ d.priority) ∧ (∀ d ∈ after, d.priority < c.priority))

/-- SET_CAPACITY refuses a value outside 500 to 40,000 mA, and one below the committed sum, which the reply then
carries; otherwise the capacity takes the value and the claim list is walked (R24). The committed sum is the sum of
its three parts (R19, R23); the effective threshold is the overcurrent threshold with the ramp, strobe and lens
allowances, at most 4,500 mA; the averages are those of the latest 100 and 1,000 samples, rounded down (R9). -/
def Obligations.CapacityCoversCommitted : Prop :=
  (∀ (s : State) (p : Port),
    s.committed =
      (allPorts.map (fun q =>
        if s.power[q].state = .ramping ∨ s.power[q].state = .on then s.settings.ports[q].baseReservation else 0)).sum +
      (allPorts.map (fun q => if s.lenses[q].claim = .granted then s.settings.ports[q].lensSurge else 0)).sum +
      (if s.seq.state = .armed ∨ s.seq.state = .running ∨ s.seq.state = .stopping then
        (allPorts.map (fun q =>
          if s.seq.slots.any (fun k => k.ports[q] && 0 < k.used) then s.settings.ports[q].strobePeak else 0)).sum
      else 0) ∧
    s.effectiveThreshold p = min 4500 (s.settings.ports[p].overcurrent +
      (if s.power[p].state = .ramping then s.settings.ports[p].overcurrent else 0) +
      (if s.power[p].strobes.any (fun i => i.1 ≤ s.clock && s.clock ≤ i.2) then s.settings.ports[p].strobePeak else 0) +
      (if s.lenses[p].state = .moving ∨ s.lenses[p].state = .homing then s.settings.ports[p].lensSurge else 0)) ∧
    s.power[p].average 100 = (s.power[p].samples.take 100).sum / 100 ∧
    s.power[p].average 1000 = (s.power[p].samples.take 1000).sum / 1000) ∧
  (∀ (s : State) (tag : Byte) (n : Nat), n < 65536 → Serves s 0x05 tag (num2 n) →
    (n < 500 ∨ 40000 < n → exec .setCapacity s = .next (s.reply .outOfRange).transmit) ∧
    (500 ≤ n → n ≤ 40000 → n < s.committed →
      exec .setCapacity s = .next (s.answer .noBudget (num2 s.committed)).transmit) ∧
    (500 ≤ n → n ≤ 40000 → s.committed ≤ n →
      exec .setCapacity s = .next ((({ s with settings := { s.settings with capacity := n } }).walk).reply .ok).transmit))

/-- Probing (R4, R5): a pulse begins each probe period and lasts 2 ms; at its end a current below 2 mA tells ABSENT, 2
to 20 mA tells PRESENT, and more is a short that leaves the presence as it is and posts POWER_SHORT evidence; ATTACHED
and DETACHED are told once, and a port with auto-power raises its claim. -/
def Obligations.ProbePulseTellsPresence : Prop :=
  ∀ (s : State) (p : Port) (milliamps : Nat) (at_ : Time), s.power[p].state = .probing →
    (s.settings.ports[p].probeEnable = true → s.power[p].probeAt = some at_ → at_ ≤ s.clock →
      exec (.probePulseStart p) s = .next ({ s with power := upd s.power p (fun w => { w with
        pulseEndAt := some (s.clock + 2000)
        probeAt := some (s.clock + s.settings.ports[p].probePeriod * 1000) }) }).transmit) ∧
    (s.power[p].pulseEndAt = some at_ → at_ ≤ s.clock →
      (milliamps < 2 → s.power[p].presence = .present →
        exec (.probePulseEnd p milliamps) s = .next (({ s with power := upd s.power p (fun w => { w with
          pulseEndAt := none, presence := .absent }) }).post (some p)
          (.portState .detached .probing .probing s.power[p].reason)).transmit) ∧
      (milliamps < 2 → s.power[p].presence ≠ .present →
        exec (.probePulseEnd p milliamps) s = .next ({ s with power := upd s.power p (fun w => { w with
          pulseEndAt := none, presence := .absent }) }).transmit) ∧
      (2 ≤ milliamps → milliamps ≤ 20 → s.settings.ports[p].autoPower = false →
        (s.power[p].presence = .present →
          exec (.probePulseEnd p milliamps) s = .next ({ s with power := upd s.power p (fun w => { w with
            pulseEndAt := none, presence := .present }) }).transmit) ∧
        (s.power[p].presence ≠ .present →
          exec (.probePulseEnd p milliamps) s = .next (({ s with power := upd s.power p (fun w => { w with
            pulseEndAt := none, presence := .present }) }).post (some p)
            (.portState .attached .probing .probing s.power[p].reason)).transmit)) ∧
      (2 ≤ milliamps → milliamps ≤ 20 → s.settings.ports[p].autoPower = true → PowerClaims s →
        ∃ t, exec (.probePulseEnd p milliamps) s = .next t ∧
          (t.power[p].state = .ramping ∨ t.power[p].state = .waiting) ∧ t.power[p].presence = .present) ∧
      (20 < milliamps →
        exec (.probePulseEnd p milliamps) s = .next (({ s with power := upd s.power p (fun w => { w with
          pulseEndAt := none }) }).submitEvidence p .powerShort .suspect).1.transmit))

/-- The end of the ramp (R7, R8, R32): with the last sample below the underload threshold, no claim waiting and no
auto-sweep, the port goes to PROBING with reason OPEN_LOAD and posts POWER_OPEN evidence; at or above it, with no
pending move and no auto-home, it goes to ON, its sideband bus is free and its lane begins to train, unless a reflection
acquisition is under way on the port: then the lane stays DOWN, and it trains when that acquisition ends (R35). A sweep of
the port that is not yet analysed keeps nothing it gathered and counts a restart, an acquisition under way will not be
gathered, and the calibration and the stage stand, but that a suspended sweep whose conditions hold goes on (R161, R162).
At the end of an acquisition that is not gathered, the lane kept DOWN makes its first attempt, and the sweep of the port
takes its next acquisition or is suspended. An over-threshold run goes on into ON (notes/assumptions/26.md). That PORT_STATE
is posted before the BREAK notice of the evidence is the model's choice (notes/assumptions/65.md). -/
def Obligations.RampEndsOnOrOpen : Prop :=
  (∀ (s : State) (p : Port) (at_ : Time), s.power[p].state = .ramping → s.power[p].rampEndAt = some at_ → at_ ≤ s.clock →
    (s.settings.ports[p].underload ≤ s.power[p].samples.headD 0 → s.lenses[p].pending = none →
      s.settings.ports[p].autoHome = false →
      ∀ (on : Lane → SweepEngine → State) (trained : Lane) (kept : SweepEngine),
      (∀ l e, on l e = ({ s with
        power := upd s.power p (fun w => { w with
          state := .on
          underRun := none
          overdrawSent := false
          pulseEndAt := none
          probeAt := none
          rampEndAt := none
          cooldownEndAt := none })
        lanes := upd s.lanes p (fun _ => l)
        lenses := upd s.lenses p (fun l => { l with bus := ⟨.free, none, []⟩ })
        sweeps := e }).post (some p) (.portState .state .on .ramping s.power[p].reason)) →
      trained = { s.lanes[p] with
        state := .training
        since := s.clock
        deadlineAt := some (s.clock + 50000)
        retryAt := none
        retrainAt := none
        failedRun := 0
        counts := { s.lanes[p].counts with attempts := sat32 s.lanes[p].counts.attempts } } →
      (∀ w, s.sweeps.sweep = some w → w.entry.port = p →
        s.sweeps.results[p].state = .calibrating ∨ s.sweeps.results[p].state = .acquiring ∨
          s.sweeps.results[p].state = .suspended →
        kept = { s.sweeps with
          sweep := some { w with samples := [] }
          acquisition := s.sweeps.acquisition.map (fun (a : Acquisition) => { a with live := false })
          results := upd s.sweeps.results p (fun r => { r with
            gathered := some 0, restarts := r.restarts.map (fun n => min 4294967295 (n + 1)) }) }) →
      ((∀ w, s.sweeps.sweep = some w → w.entry.port = p → s.sweeps.results[p].state = .analysing) →
        kept = s.sweeps) →
      (∀ a, s.sweeps.acquisition = some a → a.port = p →
        (∀ w, s.sweeps.sweep = some w → w.entry.port = p → s.sweeps.results[p].state = .calibrating ∨
          s.sweeps.results[p].state = .acquiring ∨ s.sweeps.results[p].state = .suspended ∨
          s.sweeps.results[p].state = .analysing) →
        exec (.rampEnd p) s = .next (on { s.lanes[p] with failedRun := 0 } kept).transmit) ∧
      ((∀ a, s.sweeps.acquisition = some a → a.port ≠ p) →
        (∀ w, s.sweeps.sweep = some w →
          (w.entry.port = p → s.sweeps.results[p].state = .calibrating ∨ s.sweeps.results[p].state = .acquiring ∨
            s.sweeps.results[p].state = .suspended ∨ s.sweeps.results[p].state = .analysing) ∧
          (s.sweeps.results[w.entry.port].state = .suspended →
            s.sweeps.acquisition.isSome = true ∨ s.gapOpen w.entry = false)) →
        exec (.rampEnd p) s = .next ((on trained kept).post (some p)
          (.laneState .training s.lanes[p].state .portOn 0)).transmit) ∧
      (∀ w, s.sweeps.acquisition = none → s.sweeps.sweep = some w → w.entry.port = p →
        s.sweeps.results[p].state = .suspended → s.gapOpen w.entry = true →
        exec (.rampEnd p) s = .next ((on { trained with state := .quiet, deadlineAt := none } { kept with
          acquisition := some ⟨p, s.clock + 200, true⟩
          results := upd kept.results p (fun r => { r with state := .acquiring }) }).post (some p)
          (.laneState .training s.lanes[p].state .portOn 0)).transmit)) ∧
    (s.power[p].samples.headD 0 < s.settings.ports[p].underload → s.supply.claims = [] →
      s.settings.ports[p].autoSweep = false →
      exec (.rampEnd p) s = .next ((({ s with power := upd s.power p (fun w => { w with
        state := .probing
        reason := .openLoad
        presence := .unseen
        overRun := none
        underRun := none
        pulseEndAt := if s.settings.ports[p].probeEnable then some (s.clock + 2000) else none
        probeAt := if s.settings.ports[p].probeEnable then some (s.clock + s.settings.ports[p].probePeriod * 1000) else none
        rampEndAt := none
        cooldownEndAt := none }) }).post (some p)
          (.portState .state .probing .ramping .openLoad)).submitEvidence p .powerOpen .suspect).1.transmit)) ∧
  (∀ (s : State) (p : Port) (at_ : Time) (deviations : List Int), s.sweeps.acquisition = some ⟨p, at_, false⟩ →
    at_ ≤ s.clock → s.power[p].state = .on → s.lanes[p].state = .down → s.lanes[p].retryAt = none →
    ∀ (ended : Lane → SweepEngine → State) (trained : Lane),
    (∀ l e, ended l e = ({ s with lanes := upd s.lanes p (fun _ => l), sweeps := e }).post (some p)
      (.laneState .training .down .portOn 0)) →
    trained = { s.lanes[p] with
      state := .training
      since := s.clock
      deadlineAt := some (s.clock + 50000)
      retrainAt := none
      failedRun := 0
      counts := { s.lanes[p].counts with attempts := sat32 s.lanes[p].counts.attempts } } →
    (s.sweeps.sweep = none → s.sweeps.queue = [] →
      exec (.acquisitionEnd deviations) s = .next (ended trained { s.sweeps with acquisition := none }).transmit) ∧
    (∀ w, s.sweeps.sweep = some w → w.entry.port = p →
      (s.sweeps.results[p].state = .calibrating →
        exec (.acquisitionEnd deviations) s = .next (ended trained { s.sweeps with acquisition := none }).transmit) ∧
      (s.sweeps.results[p].state = .suspended ∨
          (s.sweeps.results[p].state = .acquiring ∧ w.samples.length < w.entry.acquisitions) →
        (s.gapOpen w.entry = true →
          exec (.acquisitionEnd deviations) s = .next (ended { trained with state := .quiet, deadlineAt := none }
            { s.sweeps with
              acquisition := some ⟨p, s.clock + 200, true⟩
              results := upd s.sweeps.results p (fun r => { r with state := .acquiring }) }).transmit) ∧
        (s.gapOpen w.entry = false →
          exec (.acquisitionEnd deviations) s = .next (ended trained { s.sweeps with
            acquisition := none
            results := upd s.sweeps.results p (fun r => { r with
              state := .suspended
              suspensions := if r.state = .acquiring then r.suspensions.map sat32 else r.suspensions }) }).transmit))))

/-- A sample (R9, R10, R13, R14): it joins the latest 1,000, as 0 mA with the switch open; in RAMPING and ON it
begins, carries on or ends the over-threshold run; in ON it does so for the underload run by the 100 ms average, and
sends OVERDRAW once the 1 s average exceeds 5/4 of the base reservation, the flag returning to armed below the base
reservation. -/
def Obligations.SampleKeepsRunsAndOverdraw : Prop :=
  ∀ (s : State) (p : Port) (milliamps : Nat), s.power[p].nextSampleAt ≤ s.clock → milliamps ≤ 4500 →
    (s.power[p].state ≠ .ramping → s.power[p].state ≠ .on →
      exec (.currentSample p milliamps) s = .next ({ s with power := upd s.power p (fun w => { w with
        samples := (0 :: w.samples).take 1000, nextSampleAt := w.nextSampleAt + 1000 }) }).transmit) ∧
    (∀ overNow : Option Run,
      (milliamps ≤ s.effectiveThreshold p → overNow = none) →
      (s.effectiveThreshold p < milliamps → s.power[p].overRun = none → overNow = some ⟨s.clock, s.clock⟩) →
      (∀ r : Run, s.effectiveThreshold p < milliamps → s.power[p].overRun = some r → overNow = some ⟨r.start, s.clock⟩) →
      (s.power[p].state = .ramping →
        exec (.currentSample p milliamps) s = .next ({ s with power := upd s.power p (fun w => { w with
          samples := (milliamps :: w.samples).take 1000
          nextSampleAt := w.nextSampleAt + 1000
          overRun := overNow }) }).transmit) ∧
      (s.power[p].state = .on → ∀ (underNow : Option Run) (average base : Nat),
        ((((milliamps :: s.power[p].samples).take 1000).take 100).sum / 100 < s.settings.ports[p].underload →
          s.power[p].underRun = none → underNow = some ⟨s.clock, s.clock⟩) →
        (∀ r : Run, (((milliamps :: s.power[p].samples).take 1000).take 100).sum / 100 < s.settings.ports[p].underload →
          s.power[p].underRun = some r → underNow = some ⟨r.start, s.clock⟩) →
        (s.settings.ports[p].underload ≤ (((milliamps :: s.power[p].samples).take 1000).take 100).sum / 100 →
          underNow = none) →
        average = (((milliamps :: s.power[p].samples).take 1000).take 1000).sum / 1000 →
        base = s.settings.ports[p].baseReservation →
        (s.power[p].overdrawSent = true →
          exec (.currentSample p milliamps) s = .next ({ s with power := upd s.power p (fun w => { w with
            samples := (milliamps :: w.samples).take 1000
            nextSampleAt := w.nextSampleAt + 1000
            overRun := overNow
            underRun := underNow
            overdrawSent := decide (base ≤ average) }) }).transmit) ∧
        (s.power[p].overdrawSent = false → average * 4 ≤ base * 5 →
          exec (.currentSample p milliamps) s = .next ({ s with power := upd s.power p (fun w => { w with
            samples := (milliamps :: w.samples).take 1000
            nextSampleAt := w.nextSampleAt + 1000
            overRun := overNow
            underRun := underNow }) }).transmit) ∧
        (s.power[p].overdrawSent = false → base * 5 < average * 4 →
          exec (.currentSample p milliamps) s = .next (({ s with power := upd s.power p (fun w => { w with
            samples := (milliamps :: w.samples).take 1000
            nextSampleAt := w.nextSampleAt + 1000
            overRun := overNow
            underRun := underNow
            overdrawSent := true }) }).post (some p) (.overdraw average base)).transmit)))

/-- A trip in RAMPING (R10, R11): an over-threshold run that has lasted 2 ms, or a current of 4,500 mA, counts the
trip, restarts the decay timer, sends PORT_TRIP and PORT_STATE, takes the port to COOLDOWN, or to LOCKED at the fifth,
and posts POWER_SHORT evidence at the third, SUSPECT, and at the fifth, CONFIRMED; the reservation released, the claim
list is walked (R21). That PORT_TRIP tells the threshold as it stood before the switch opened is the model's choice
(notes/assumptions/30.md), and so is that it is posted before the PORT_STATE of the trip (notes/assumptions/51.md) and
the evidence after every other notice (notes/assumptions/65.md). -/
def Obligations.TripInRampCountsAndCools : Prop :=
  ∀ (s : State) (p : Port) (milliamps : Nat) (run : Run) (cause : TripCause) (current : Nat) (new : PowerState)
      (reason : OffReason) (result : State),
    s.power[p].state = .ramping → s.power[p].tripCount < 5 →
    (s.power[p].tripCount < 4 → new = .cooldown ∧ reason = .trip) →
    (s.power[p].tripCount = 4 → new = .locked ∧ reason = .lock) →
    result = ((({ s with power := upd s.power p (fun w => { w with
      state := new
      reason := reason
      tripCount := w.tripCount + 1
      decayAt := if w.tripCount = 4 then none else some (s.clock + 45000000)
      overRun := none
      underRun := none
      pulseEndAt := none
      probeAt := none
      rampEndAt := none
      cooldownEndAt := if w.tripCount = 4 then none else some (s.clock + 400000) }) }).post (some p)
        (.portTrip cause current (s.effectiveThreshold p) (s.power[p].tripCount + 1) new)).post (some p)
        (.portState .state new .ramping reason)).walk →
    (∀ t : State,
      (s.power[p].tripCount ≠ 2 → s.power[p].tripCount ≠ 4 → t = result.transmit) →
      (s.power[p].tripCount = 2 → t = (result.submitEvidence p .powerShort .suspect).1.transmit) →
      (s.power[p].tripCount = 4 → t = (result.submitEvidence p .powerShort .confirmed).1.transmit) →
      (cause = .threshold → current = s.power[p].samples.headD 0 → s.power[p].overRun = some run →
        run.start + 2000 ≤ run.last → exec (.thresholdTrip p) s = .next t) ∧
      (cause = .hardLimit → current = milliamps → 4500 ≤ milliamps → exec (.hardLimitTrip p milliamps) s = .next t))

/-- A trip or an open load in ON (R8, R11, R13): the port leaves ON for COOLDOWN, LOCKED or PROBING, its lane is DOWN
and its lens at rest; a trip raises the count by 1 and an open load leaves it; other ports' power changes only by the
grant of a waiting claim. -/
def Obligations.TripOrOpenLoadLeavesOn : Prop :=
  ∀ (s : State) (p : Port) (milliamps : Nat) (run : Run), PowerClaims s → s.power[p].state = .on →
    s.power[p].tripCount < 5 →
    (∀ c : Instr,
      (c = .thresholdTrip p ∧ s.power[p].overRun = some run ∧ run.start + 2000 ≤ run.last) ∨
        (c = .hardLimitTrip p milliamps ∧ 4500 ≤ milliamps) →
      ∃ t, exec c s = .next t ∧
        t.power[p].tripCount = s.power[p].tripCount + 1 ∧
        (s.power[p].tripCount < 4 → t.power[p].state = .cooldown ∧ t.power[p].reason = .trip ∧
          t.power[p].decayAt = some (s.clock + 45000000) ∧ t.power[p].cooldownEndAt = some (s.clock + 400000)) ∧
        (s.power[p].tripCount = 4 → t.power[p].state = .locked ∧ t.power[p].reason = .lock ∧ t.power[p].decayAt = none) ∧
        t.lanes[p].state = .down ∧ (t.lenses[p].state = .unknown ∨ t.lenses[p].state = .absent) ∧
        (∀ q : Port, q ≠ p → t.power[q].tripCount = s.power[q].tripCount ∧ (t.power[q].state = s.power[q].state ∨
          (s.power[q].state = .waiting ∧ t.power[q].state = .ramping))) ∧
        t.settings = s.settings ∧ t.clock = s.clock ∧ t.monitor = s.monitor ∧ t.profile = s.profile) ∧
    (s.power[p].underRun = some run → run.start + 200000 ≤ run.last →
      ∃ t, exec (.openLoad p) s = .next t ∧
        t.power[p].state = .probing ∧ t.power[p].reason = .openLoad ∧ t.power[p].presence = .unseen ∧
        t.power[p].tripCount = s.power[p].tripCount ∧
        t.lanes[p].state = .down ∧ (t.lenses[p].state = .unknown ∨ t.lenses[p].state = .absent) ∧
        (s.table.records.length < 32 → ∃ r ∈ t.table.records, r.port = p ∧ r.kind = .powerOpen ∧ r.state ≠ .cleared) ∧
        (∀ q : Port, q ≠ p → t.power[q].tripCount = s.power[q].tripCount ∧ (t.power[q].state = s.power[q].state ∨
          (s.power[q].state = .waiting ∧ t.power[q].state = .ramping))) ∧
        t.settings = s.settings ∧ t.clock = s.clock ∧ t.monitor = s.monitor ∧ t.profile = s.profile)

/-- The end of the cooldown raises the port's power claim: it is granted where it comes to the head of the list and fits, no
claim behind it fitting any more, and the port goes to WAITING while the supply is LOW or the claim at the head does not
fit (R6, R11, R20, R21). Each 45 s without a trip the count falls by 1 with no notice, the timer going idle at 0 (R12).
-/
def Obligations.CooldownEndsAndTripsDecay : Prop :=
  ∀ (s : State) (p : Port) (at_ : Time), at_ ≤ s.clock →
    (s.power[p].state = .cooldown → s.power[p].cooldownEndAt = some at_ →
      ((∀ d, s.supply.claims.head? = some d → d.priority < s.settings.ports[p].priority ∧
          s.settings.capacity < s.committed + s.settings.ports[p].baseReservation + d.need) →
        (∀ d ∈ s.supply.claims, d.port = p → d.kind ≠ .power) → s.supply.low = none →
        s.committed + s.settings.ports[p].baseReservation ≤ s.settings.capacity →
        exec (.cooldownEnd p) s = .next (({ s with power := upd s.power p (fun w => { w with
          state := .ramping
          underRun := none
          pulseEndAt := none
          probeAt := none
          rampEndAt := some (s.clock + 20000)
          cooldownEndAt := none }) }).post (some p)
            (.portState .state .ramping .cooldown s.power[p].reason)).transmit) ∧
      (s.supply.low.isSome = true ∨ (∃ d, (insertClaim (Claim.mk p .power s.settings.ports[p].baseReservation
            s.settings.ports[p].priority s.clock) s.supply.claims).head? = some d ∧
          s.settings.capacity < s.committed + d.need) →
        exec (.cooldownEnd p) s = .next (({ s with
          supply := { s.supply with claims := insertClaim (Claim.mk p .power s.settings.ports[p].baseReservation
              s.settings.ports[p].priority s.clock) s.supply.claims }
          power := upd s.power p (fun w => { w with
            state := .waiting
            overRun := none
            underRun := none
            pulseEndAt := none
            probeAt := none
            rampEndAt := none
            cooldownEndAt := none }) }).post (some p)
            (.portState .state .waiting .cooldown s.power[p].reason)).transmit)) ∧
    (s.power[p].state ≠ .locked → s.power[p].decayAt = some at_ →
      exec (.tripDecay p) s = .next ({ s with power := upd s.power p (fun w => { w with
        tripCount := w.tripCount - 1
        decayAt := if 2 ≤ w.tripCount then some (s.clock + 45000000) else none }) }).transmit)

/-- CELL_IN below 19.0 V for 1 ms makes the supply LOW at stage FIRST (R25): every port in RAMPING or ON whose
priority is below the keep level goes to OFF with reason SHED and its shed mark set, no other port's power changes,
and the look of R26 is due 50 ms later; a shorter dip changes only the voltage last measured. At the one look 50 ms
later (R26): still below 19.0 V, the stage becomes FULL and every port still in RAMPING or ON is shed; otherwise no
port is shed. That a measurement which changes no stage is recorded is the model's choice (notes/assumptions/25.md).
-/
def Obligations.LowSupplySheds : Prop :=
  (∀ (s : State) (millivolts held : Nat),
    (s.supply.low = none → millivolts < 19000 → 1000 ≤ held →
      ∃ t, exec (.supplyLow millivolts held) s = .next t ∧
        t.supply.low = some .first ∧ t.supply.fullCheckAt = some (s.clock + 50000) ∧ t.supply.millivolts = millivolts ∧
        (∀ p : Port,
          ((s.power[p].state = .ramping ∨ s.power[p].state = .on) ∧
              s.settings.ports[p].priority < s.settings.keepLevel →
            t.power[p].state = .off ∧ t.power[p].reason = .shed ∧ t.power[p].shedMark = true ∧
            t.power[p].tripCount = s.power[p].tripCount) ∧
          (¬ ((s.power[p].state = .ramping ∨ s.power[p].state = .on) ∧
              s.settings.ports[p].priority < s.settings.keepLevel) →
            t.power[p] = s.power[p])) ∧
        t.settings = s.settings ∧ t.clock = s.clock ∧ t.monitor = s.monitor ∧ t.table = s.table ∧ t.profile = s.profile) ∧
    (s.supply.low.isSome = true ∨ 19000 ≤ millivolts ∨ held < 1000 →
      exec (.supplyLow millivolts held) s = .next ({ s with supply := { s.supply with
        millivolts := millivolts } }).transmit)) ∧
  (∀ (s : State) (millivolts : Nat) (at_ : Time), s.supply.fullCheckAt = some at_ → at_ ≤ s.clock →
    (s.supply.low.isSome = true → millivolts < 19000 →
      ∃ t, exec (.supplyFullShedCheck millivolts) s = .next t ∧
        t.supply.low = some .full ∧ t.supply.fullCheckAt = none ∧ t.supply.millivolts = millivolts ∧
        (∀ p : Port,
          (s.power[p].state = .ramping ∨ s.power[p].state = .on →
            t.power[p].state = .off ∧ t.power[p].reason = .shed ∧ t.power[p].shedMark = true) ∧
          (s.power[p].state ≠ .ramping → s.power[p].state ≠ .on → t.power[p] = s.power[p])) ∧
        t.settings = s.settings ∧ t.clock = s.clock ∧ t.monitor = s.monitor ∧ t.table = s.table ∧ t.profile = s.profile) ∧
    (19000 ≤ millivolts →
      exec (.supplyFullShedCheck millivolts) s = .next ({ s with supply := { s.supply with
        fullCheckAt := none, millivolts := millivolts } }).transmit))

/-- CELL_IN above 20.5 V for 100 ms lets a LOW supply recover (R27): the supply is NORMAL and RECOVERED is told with
the ports that hold the shed mark; under LATCHED, or with no mark, nothing more happens where no claim waits; under
AUTO each marked port raises its claim and its mark clears, RECOVERED being the first of the notices posted. That a measurement which changes no stage is recorded is
the model's choice (notes/assumptions/25.md). -/
def Obligations.RecoveryRaisesShedPorts : Prop :=
  ∀ (s : State) (millivolts held : Nat),
    (s.supply.low.isSome = true → 20500 < millivolts → 100000 ≤ held →
      (s.supply.claims = [] →
        s.settings.policy = .latched ∨ (∀ p : Port, s.power[p].shedMark = false) →
        exec (.supplyRecovered millivolts held) s = .next (({ s with supply := { s.supply with
          low := none, fullCheckAt := none, millivolts := millivolts } }).post none
          (.supply .recovered millivolts (allPorts.filter (fun p => s.power[p].shedMark)))).transmit) ∧
      (s.settings.policy = .auto →
        ∃ (t : State) (link : Link) (more : List Notice), exec (.supplyRecovered millivolts held) s = .next t ∧
          t.supply.low = none ∧ t.supply.millivolts = millivolts ∧ t.link = link.transmit ∧
          link.notices = s.link.notices ++ (⟨none, s.clock, .supply .recovered millivolts
            (allPorts.filter (fun p => s.power[p].shedMark))⟩ :: more).take (32 - s.link.notices.length) ∧
          link.sending = s.link.sending ∧ link.requests = s.link.requests ∧ link.replies = s.link.replies ∧
          (∀ p : Port, s.settings.ports[p].priority ≤ 3 → s.power[p].state = .off → s.power[p].shedMark = true →
            (t.power[p].state = .waiting ∨ t.power[p].state = .ramping) ∧ t.power[p].shedMark = false) ∧
          t.settings = s.settings ∧ t.clock = s.clock ∧ t.monitor = s.monitor ∧ t.table = s.table ∧
          t.store = s.store ∧ t.dram = s.dram ∧ t.uplink = s.uplink ∧ t.profile = s.profile)) ∧
    (s.supply.low = none ∨ millivolts ≤ 20500 ∨ held < 100000 →
      exec (.supplyRecovered millivolts held) s = .next ({ s with supply := { s.supply with
        millivolts := millivolts } }).transmit)

/-! ## Chapter 2: the camera lanes -/

/-- Training and its losses (R33, R34, R35, R36, R38): lock, a failed attempt, its retry, a lock lost in LOCKED and
the retrain of a QUIET period, each with its counts, timers, data errors and notice; a packet of unknown type is a
protocol error in LOCKED, and no packet is decoded in any other state. When a retrain is judged is the model's choice
(notes/assumptions/48.md), and so is that the failed-attempt run is kept from QUIET to LOCKED
(notes/assumptions/53.md). -/
def Obligations.LaneTrainsAndLosesLock : Prop :=
  ∀ (s : State) (p : Port) (at_ : Time),
    (s.lanes[p].state = .training →
      exec (.laneLockAcquired p) s = .next (({ s with lanes := upd s.lanes p (fun l => { l with
        state := .locked, since := s.clock, deadlineAt := none, failedRun := 0 }) }).post (some p)
        (.laneState .locked .training .locked s.lanes[p].failedRun)).transmit) ∧
    (s.lanes[p].state = .training → s.lanes[p].deadlineAt = some at_ → at_ ≤ s.clock →
      s.lanes[p].failedRun < 65535 → ∀ failed : State,
      failed = { s with
        lanes := upd s.lanes p (fun l => { l with
          state := .down
          since := s.clock
          deadlineAt := none
          retryAt := some (s.clock + 250000)
          failedRun := l.failedRun + 1
          counts := { l.counts with
            lockLosses := sat32 l.counts.lockLosses, dataErrors := sat32 l.counts.dataErrors } })
        monitor := { s.monitor with ports := upd s.monitor.ports p (fun e => e.addError s.monitor.segment) } } →
      (s.lanes[p].failedRun = 0 → exec (.trainingDeadline p) s = .next (failed.post (some p)
        (.laneState .down .training .trainFailed 1)).transmit) ∧
      (s.lanes[p].failedRun ≠ 0 → exec (.trainingDeadline p) s = .next failed.transmit)) ∧
    (s.power[p].state = .on → s.lanes[p].state = .down → s.lanes[p].retryAt = some at_ → at_ ≤ s.clock →
      (∀ a : Acquisition, s.sweeps.acquisition = some a → a.port ≠ p) →
      exec (.trainingRetry p) s = .next ({ s with lanes := upd s.lanes p (fun l => { l with
        state := .training
        since := s.clock
        deadlineAt := some (s.clock + 50000)
        retryAt := none
        retrainAt := none
        counts := { l.counts with attempts := sat32 l.counts.attempts } }) }).transmit) ∧
    (s.lanes[p].state = .locked →
      (s.lanes[p].frame = none →
        exec (.lockLost p) s = .next (({ s with
          lanes := upd s.lanes p (fun l => { l with
            state := .training
            since := s.clock
            deadlineAt := some (s.clock + 50000)
            retryAt := none
            retrainAt := none
            counts := { l.counts with
              attempts := sat32 l.counts.attempts
              lockLosses := sat32 l.counts.lockLosses
              dataErrors := sat32 l.counts.dataErrors } })
          monitor := { s.monitor with ports := upd s.monitor.ports p (fun e => e.addError s.monitor.segment) } }).post
            (some p) (.laneState .training .locked .lockLost s.lanes[p].failedRun)).transmit) ∧
      (∀ f : RxFrame, s.lanes[p].frame = some f →
        ∃ t, exec (.lockLost p) s = .next t ∧
          t.lanes[p].state = .training ∧ t.lanes[p].frame = none ∧ t.lanes[p].window = s.lanes[p].window ∧
          t.lanes[p].lastMean = f.pixelSum / (f.width * f.height) ∧
          t.lanes[p].counts = { s.lanes[p].counts with
            attempts := sat32 s.lanes[p].counts.attempts
            lockLosses := sat32 s.lanes[p].counts.lockLosses
            lockTruncations := sat32 s.lanes[p].counts.lockTruncations
            dataErrors := sat32 (sat32 s.lanes[p].counts.dataErrors)
            closed := sat32 s.lanes[p].counts.closed } ∧
          t.monitor.ports[p] = (s.monitor.ports[p].addError s.monitor.segment).addError s.monitor.segment ∧
          (∀ q : Port, q ≠ p → t.lanes[q] = s.lanes[q] ∧ t.monitor.ports[q] = s.monitor.ports[q]) ∧
          t.power = s.power ∧ t.settings = s.settings ∧ t.clock = s.clock ∧ t.table = s.table ∧ t.lenses = s.lenses) ∧
      exec (.packetUnknownType p) s = .next ({ s with lanes := upd s.lanes p (fun l => { l with
        counts := { l.counts with protocolErrors := sat32 l.counts.protocolErrors } }) }).transmit) ∧
    (s.lanes[p].state = .quiet → s.lanes[p].retrainAt = some at_ → at_ ≤ s.clock → s.sweeps.sweep = none →
      exec (.quietRetrainEnd p true) s = .next ({ s with lanes := upd s.lanes p (fun l => { l with
        state := .locked, since := s.clock, retrainAt := none }) }).transmit ∧
      exec (.quietRetrainEnd p false) s = .next (({ s with lanes := upd s.lanes p (fun l => { l with
        state := .training
        since := s.clock
        deadlineAt := some (at_ - 100 + 50000)
        retryAt := none
        retrainAt := none
        counts := { l.counts with attempts := sat32 l.counts.attempts } }) }).post (some p)
          (.laneState .training .quiet .retrainSlow s.lanes[p].failedRun)).transmit) ∧
    (s.lanes[p].state ≠ .locked → ∀ (tag : Byte) (width height depth number count : Nat) (pixels : List Byte)
        (crc : BitVec 32),
      exec (.packetUnknownType p) s = .next s ∧ exec (.frameStart p tag width height depth) s = .next s ∧
      exec (.line p number pixels crc) s = .next s ∧ exec (.frameEnd p tag count) s = .next s)

/-- A FRAME_START in LOCKED (R41, R82): one that matches its window opens a frame in the buffer at the head of the
free list, under a new id, and the window goes to RECEIVING; with no free buffer the window goes to DROPPED and the
drop is counted; one that finds no window is a stray, and any other is a protocol error. -/
def Obligations.FrameStartOpensFrame : Prop :=
  ∀ (s : State) (p : Port) (tag : Byte) (width height depth : Nat), s.lanes[p].state = .locked →
    (s.lanes[p].window = none →
      exec (.frameStart p tag width height depth) s = .next ({ s with lanes := upd s.lanes p (fun l => { l with
        counts := { l.counts with strays := sat32 l.counts.strays } }) }).transmit) ∧
    (∀ w : RxWindow, s.lanes[p].window = some w →
      (w.rx ≠ .awaitingStart ∨ tag ≠ w.tag ∨ width ≠ s.settings.ports[p].width ∨ height ≠ s.settings.ports[p].height ∨
          depth ≠ s.settings.ports[p].depth →
        exec (.frameStart p tag width height depth) s = .next ({ s with lanes := upd s.lanes p (fun l => { l with
          counts := { l.counts with protocolErrors := sat32 l.counts.protocolErrors } }) }).transmit) ∧
      (w.rx = .awaitingStart → tag = w.tag → width = s.settings.ports[p].width → height = s.settings.ports[p].height →
        depth = s.settings.ports[p].depth →
        (∀ (b : Fin 48) (rest : List (Fin 48)), s.store.freeList = b :: rest →
          exec (.frameStart p tag width height depth) s = .next ({ s with
            store := { s.store with
              buffers := upd s.store.buffers b (fun _ => .filling)
              freeList := rest
              idCounter := s.store.newId
              frames := s.store.frames ++ [FrameRecord.mk s.store.newId b p w.slot w.cycle w.position w.sendTime width height
                depth none w.flags (match s.seq.slots[w.slot.val]? with
                  | some k => k.hold
                  | none => false) false none] }
            lanes := upd s.lanes p (fun l => { l with
              frame := some {
                tag := tag
                buffer := b
                id := s.store.newId
                slot := w.slot
                cycle := w.cycle
                position := w.position
                triggerTime := w.sendTime
                width := width
                height := height
                depth := depth
                flags := w.flags }
              window := some { w with rx := .receiving }
              counts := { l.counts with started := sat32 l.counts.started } }) }).transmit) ∧
        (s.store.freeList = [] → (s.seq.signAt w.slot w.position).signed = false → ∀ dropped : State,
          dropped = { s with
            store := { s.store with drops := upd s.store.drops p sat32 }
            lanes := upd s.lanes p (fun l => { l with
              window := some { w with rx := .dropped }
              counts := { l.counts with dropped := sat32 l.counts.dropped } }) } →
          (s.store.notified[p] = some w.cycle →
            exec (.frameStart p tag width height depth) s = .next dropped.transmit) ∧
          (s.store.notified[p] ≠ some w.cycle →
            exec (.frameStart p tag width height depth) s = .next (({ dropped with store := { dropped.store with
              notified := upd s.store.notified p (fun _ => some w.cycle) } }).post (some p)
              (.frameDropped w.slot w.cycle w.position false (sat32 s.store.drops[p]))).transmit))))

/-- A LINE in LOCKED (R42): in order, its pixels, cut to the full scale of the depth, are stored at its line number in
the frame's buffer and no other byte of the frame DRAM changes; a pixel beyond full scale and a wrong CRC-32 are
counted and flag LINE_ERRORS, the CRC error as evidence too; out of order it is discarded and flags LINE_ERRORS; with
no frame it is a stray, and in DROPPED it is discarded uncounted. That the store's record of the frame does not show
LINE_ERRORS yet is the model's choice (notes/assumptions/87.md). -/
def Obligations.LineStoresItsPixels : Prop :=
  ∀ (s : State) (p : Port) (number : Nat) (bytes : List Byte) (crc : BitVec 32), s.lanes[p].state = .locked →
    (∀ (w : RxWindow) (f : RxFrame) (values : List Nat) (clamped bad : Bool), s.lanes[p].window = some w →
      w.rx = .receiving → s.lanes[p].frame = some f →
      (number < f.height → (∀ k, f.lastLine = some k → k < number) → values.length = f.width →
        (number + 1) * f.width * 2 ≤ 16777216 → MemoryCanonical s →
        (f.depth = 8 ∧ (∀ v ∈ values, v < 256) ∧ bytes = values.map (BitVec.ofNat 8)) ∨
          (f.depth ≠ 8 ∧ (∀ v ∈ values, v < 65536) ∧ bytes = (values.map pixelBytes).flatten) →
        (clamped = true ↔ ∃ v ∈ values, 2 ^ f.depth - 1 < v) → (bad = true ↔ crc32 bytes ≠ crc) →
        ∃ dram, exec (.line p number bytes crc) s = .next ({ s with
            dram := dram
            lanes := upd s.lanes p (fun l => { l with
              frame := some { f with
                lastLine := some number
                stored := number :: f.stored
                pixelSum := f.pixelSum + (values.map (fun v => min v (2 ^ f.depth - 1))).sum
                flags := { f.flags with lineErrors := f.flags.lineErrors || clamped || bad } }
              counts := { l.counts with
                protocolErrors := if clamped then sat32 l.counts.protocolErrors else l.counts.protocolErrors
                crcErrors := if bad then sat32 l.counts.crcErrors else l.counts.crcErrors
                dataErrors := if bad then sat32 l.counts.dataErrors else l.counts.dataErrors } })
            monitor := { s.monitor with ports := upd s.monitor.ports p (fun e =>
              if bad then e.addError s.monitor.segment else e) } }).transmit ∧
          (∀ i v, values[i]? = some v →
            Memory.readPixel dram f.buffer (number * f.width + i) = min v (2 ^ f.depth - 1)) ∧
          (∀ a, (∀ i, i < f.width * 2 → a ≠ bufferAddr f.buffer (number * f.width * 2 + i)) →
            Memory.read dram a = Memory.read s.dram a)) ∧
      (f.height ≤ number ∨ (∃ k, f.lastLine = some k ∧ number ≤ k) →
        exec (.line p number bytes crc) s = .next ({ s with lanes := upd s.lanes p (fun l => { l with
          frame := some { f with flags := { f.flags with lineErrors := true } } }) }).transmit)) ∧
    (s.lanes[p].window = none ∨ (∃ w, s.lanes[p].window = some w ∧ w.rx = .awaitingStart) →
      exec (.line p number bytes crc) s = .next ({ s with lanes := upd s.lanes p (fun l => { l with
        counts := { l.counts with strays := sat32 l.counts.strays } }) }).transmit) ∧
    ((∃ w, s.lanes[p].window = some w ∧ w.rx = .dropped) →
      exec (.line p number bytes crc) s = .next s.transmit)

/-- A frame ends and windows close (R40, R43, R44, R45, R46): at a matching FRAME_END, or at the deadline, the frame
in reception is closed, its missing lines read 0 and no other byte of the frame DRAM changes, its mean is the pixel
sum over width times height, and the window closes; a deadline with no frame is counted no-start; an exposure window
closes at its end. A whole frame of a position that is DARK, in a slot whose strobe count used is above 0, whose mean is
above the port's threshold is flagged AMBIENT_HIGH and counted, and at the port's limit an AMBIENT notice tells it and the
count is 0 again; every other frame, and every frame with the limit OFF, leaves the count and posts no such notice (R71,
R72). The closed frame takes its flags, its mean and, where the break table suspects its port's cable, CABLE_SUSPECT; with
an unsigned position it goes to the output queue as it is, and with a signed one while no plan is in service, flagged
UNCOMBINED, its buffer QUEUED, or SENDING where the idle transmitter takes it at once, its HEADER begun for one credit, or
waiting for one (R81, R83, R92, R93, R102, R104). That the store's
record takes the lane's flags at the close is the model's choice (notes/assumptions/87.md). -/
def Obligations.FrameEndAndDeadlineCloseWindow : Prop :=
  ∀ (s : State) (p : Port),
    (∀ (tag : Byte) (count : Nat), s.lanes[p].state = .locked → s.lanes[p].window = none →
      exec (.frameEnd p tag count) s = .next ({ s with lanes := upd s.lanes p (fun l => { l with
        counts := { l.counts with strays := sat32 l.counts.strays } }) }).transmit) ∧
    (∀ (w : RxWindow) (tag : Byte) (count : Nat), s.lanes[p].window = some w →
      (s.lanes[p].state = .locked →
        (w.rx = .awaitingStart ∨ tag ≠ w.tag →
          exec (.frameEnd p tag count) s = .next ({ s with lanes := upd s.lanes p (fun l => { l with
            counts := { l.counts with protocolErrors := sat32 l.counts.protocolErrors } }) }).transmit) ∧
        (w.rx = .dropped → tag = w.tag →
          ∃ t, exec (.frameEnd p tag count) s = .next t ∧ t.lanes[p].window = none ∧
            t.lanes[p].counts = s.lanes[p].counts ∧ t.dram = s.dram ∧ t.monitor = s.monitor)) ∧
      (w.deadline ≤ s.clock → w.rx = .awaitingStart →
        ∃ t, exec (.receptionDeadline p) s = .next t ∧ t.lanes[p].window = none ∧
          t.lanes[p].counts = { s.lanes[p].counts with noStart := sat32 s.lanes[p].counts.noStart } ∧
          t.dram = s.dram ∧ t.monitor = s.monitor ∧ t.table = s.table) ∧
      (∀ (f : RxFrame) (c : Instr), w.rx = .receiving → s.lanes[p].frame = some f → MemoryCanonical s →
        f.height * f.width * 2 ≤ 16777216 →
        (c = .frameEnd p tag count ∧ s.lanes[p].state = .locked ∧ tag = w.tag) ∨
          (c = .receptionDeadline p ∧ w.deadline ≤ s.clock) →
        ∃ t, exec c s = .next t ∧ t.lanes[p].window = none ∧ t.lanes[p].frame = none ∧
          t.lanes[p].lastMean = f.pixelSum / (f.width * f.height) ∧
          t.lanes[p].counts.closed = sat32 s.lanes[p].counts.closed ∧
          (c = .frameEnd p tag count → t.lanes[p].counts.lostLines =
            min 4294967295 (s.lanes[p].counts.lostLines + (count - f.stored.length))) ∧
          (c = .receptionDeadline p → t.lanes[p].counts.deadlineTruncations =
            if ∃ k ∈ List.range f.height, k ∉ f.stored then sat32 s.lanes[p].counts.deadlineTruncations
            else s.lanes[p].counts.deadlineTruncations) ∧
          (∀ k x, k < f.height → k ∉ f.stored → x < f.width →
            Memory.readPixel t.dram f.buffer (k * f.width + x) = 0) ∧
          (∀ a, (∀ k i, k < f.height → k ∉ f.stored → i < f.width * 2 →
              a ≠ bufferAddr f.buffer (k * f.width * 2 + i)) → Memory.read t.dram a = Memory.read s.dram a) ∧
          t.monitor = s.monitor ∧ t.settings = s.settings ∧ t.clock = s.clock ∧ t.profile = s.profile ∧
          (∀ (high : Bool) (limit : Nat),
            (high = true ↔ (∀ k, k < f.height → k ∈ f.stored) ∧ f.flags.truncated = false ∧
              s.settings.ports[p].ambientThreshold < f.pixelSum / (f.width * f.height) ∧
              s.settings.ports[p].ambientLimit ≠ .off ∧
              ∃ k, s.seq.slots[f.slot.val]? = some k ∧ 0 < k.used ∧ k.fire[f.position]? = some false) →
            (s.settings.ports[p].ambientLimit, limit) ∈ [(AmbientLimit.off, 0), (.one, 1), (.eight, 8), (.thirtyTwo, 32)] →
            t.seq.exceed[p] = (if high = true then
                if limit ≤ s.seq.exceed[p] + 1 then 0 else s.seq.exceed[p] + 1
              else s.seq.exceed[p]) ∧
            (∃ (link : Link) (more : List Notice), t.link = link.transmit ∧ link.sending = s.link.sending ∧
              (∀ n ∈ more, ∀ slot cycle mean threshold lim, n.body ≠ .ambient slot cycle mean threshold lim) ∧
              link.notices = s.link.notices ++ ((if high = true ∧ limit ≤ s.seq.exceed[p] + 1 then
                  [Notice.mk (some p) s.clock (.ambient f.slot f.cycle (f.pixelSum / (f.width * f.height))
                    s.settings.ports[p].ambientThreshold s.settings.ports[p].ambientLimit)]
                else []) ++ more).take (32 - s.link.notices.length)) ∧
            (∀ (r closed : FrameRecord), s.store.frame? f.id = some r →
              (∀ g ∈ s.store.groups, ∀ i : Fin 8, g.places[i] ≠ some f.id) →
              closed = { r with
                mean := some (f.pixelSum / (f.width * f.height))
                flags := { f.flags with
                  truncated := f.flags.truncated || (List.range f.height).any (fun k => !f.stored.contains k)
                  ambientHigh := f.flags.ambientHigh || high
                  cableSuspect := f.flags.cableSuspect || s.table.records.any (fun b => b.port = r.port &&
                    (b.kind = .dataErrors || b.kind = .reflection) && b.state != .cleared) } } →
              (∀ routed : FrameRecord,
                ((∀ k g, s.seq.slots[r.slot.val]? = some k → k.signs[r.position]? = some g → g = .none) ∧
                    routed = closed) ∨
                  ((s.seq.state = .empty ∨ s.seq.state = .loaded) ∧
                    (∃ k g, s.seq.slots[r.slot.val]? = some k ∧ k.signs[r.position]? = some g ∧ g ≠ .none) ∧
                    routed = { closed with flags := { closed.flags with uncombined := true } }) →
                ((s.uplink.up = true →
                    s.uplink.item.isSome = true ∨ s.uplink.trailer.isSome = true ∨ s.uplink.packet.isSome = true) →
                  t.store.frame? f.id = some routed ∧ t.store.buffers[r.buffer] = .queued ∧
                  ∃ rest, t.store.outputQueue = s.store.outputQueue ++ f.id :: rest) ∧
                (s.uplink.up = true → s.uplink.item = none → s.uplink.trailer = none → s.uplink.packet = none →
                  s.uplink.regions = [] → s.store.outputQueue = [] → s.store.groups = [] →
                  t.store.buffers[r.buffer] = .sending ∧ t.store.outputQueue = [] ∧
                  ∃ sent, t.store.frame? f.id = some sent ∧
                    sent = { routed with
                      heldPlace := routed.heldPlace || (routed.hold && decide (s.store.heldSet.length < 8))
                      flags := { routed.flags with
                        notHeld := routed.flags.notHeld || (routed.hold && decide (8 ≤ s.store.heldSet.length)) } } ∧
                    t.store.heldSet = (if routed.hold = true ∧ s.store.heldSet.length < 8
                      then s.store.heldSet ++ [f.id] else s.store.heldSet) ∧
                    (s.uplink.credits = 0 → t.uplink.item = some ⟨.frame, f.id, .header, 0, 0xFFFFFFFF⟩ ∧
                      t.uplink.packet = none ∧ t.uplink.waiting = true) ∧
                    (0 < s.uplink.credits → t.uplink.packet = some ⟨.header, headerPacket sent⟩ ∧
                      t.uplink.credits = s.uplink.credits - 1 ∧ t.uplink.item = some ⟨.frame, f.id,
                        if 0 < sent.height then .line 0 else .trailer, 0, 0xFFFFFFFF⟩))))))) ∧
    (∀ e : Exposure, s.lanes[p].exposure = some e → e.endAt ≤ s.clock → s.seq.state = .empty ∨ s.seq.state = .loaded →
      s.lenses[p].stage ≠ .windowWait → s.lenses[p].toBegin = false → s.lenses[p].bus.waiting = [] →
      s.sweeps.sweep = none →
      exec (.exposureWindowEnd p) s = .next ({ s with lanes := upd s.lanes p (fun l => { l with
        exposure := none }) }).transmit)

/-! ## Chapter 3: plans and cycles -/

/-- PLAN_LOAD (R51, R53): in EMPTY and LOADED a plan whose fields lie in their ranges and that passes checks 2 to 4
replaces the plan held, with the strobe count used of each slot the number of its pulses that end by the exposure; the
reply carries those counts, CLAMPED where one was reduced. Every field of the body is read where R174 puts it. A field
out of range, a failed check and a plan in service leave the plan as it was. The checks against the present port
profiles: a slot that marks an unconfigured port fails check 2; otherwise two slots whose reception windows on a port
overlap fail check 3; otherwise, in FREE_RUN, a reception window span beyond the period fails check 4; otherwise the
plan passes. The widths of the fields are those the model reads from R174 (notes/assumptions/38.md), L
stands in the body once (notes/assumptions/79.md), and WRONG_STATE comes before the length check
(notes/assumptions/37.md). -/
def Obligations.PlanLoadChecksThePlan : Prop :=
  (∀ (s : State) (tag : Byte) (q : Plan), PlanFits q → Serves s 0x09 tag (planBody q) →
    (s.seq.state = .armed ∨ s.seq.state = .running ∨ s.seq.state = .stopping →
      exec .planLoad s = .next (s.reply .wrongState).transmit) ∧
    (s.seq.state = .empty ∨ s.seq.state = .loaded →
      (¬ PlanInRange q → ∃ rest, exec .planLoad s = .next (s.answer .outOfRange (1 :: rest)).transmit) ∧
      (PlanInRange q →
        (∀ f, s.planFails q = some f → exec .planLoad s = .next (s.answer f.status
          (num1 f.check ++ optNum 1 f.slot ++ optNum 1 (f.port.map (·.val)))).transmit) ∧
        (s.planFails q = none → s.sweeps.sweep = none →
          ∃ (held : Plan) (status : Status),
            exec .planLoad s = .next ((({ s with seq := { s.seq with plan := some held, state := .loaded } }).post none
              (.planState .loaded s.seq.state .load s.seq.cycleCounter 0)).answer status
              (num1 q.slots.length ++ (held.slots.map (fun (k : Slot) => num1 k.used)).flatten)).transmit ∧
            held = { q with slots := q.slots.map (fun k => { k with used :=
              ((List.range k.pulses).filter (fun i =>
                k.firstPulse + i * k.pulsePeriod + k.pulseWidth ≤ k.exposure)).length }) } ∧
            (status = .clamped ↔ ∃ k ∈ held.slots, k.used < k.pulses) ∧ (status = .ok ∨ status = .clamped))))) ∧
  (∀ (s : State) (q : Plan) (ends : Slot → Port → Nat),
    (∀ k p, ends k p = k.offset + k.exposure + s.settings.ports[p].readout + 2000) →
    ((∃ k ∈ q.slots, ∃ p : Port, k.marks p = true ∧ s.settings.ports[p].configured = false) →
      ∃ k p, s.planFails q = some ⟨.wrongState, 2, some k, some p⟩) ∧
    ((∀ k ∈ q.slots, ∀ p : Port, k.marks p = true → s.settings.ports[p].configured = true) →
      ((∃ (i j : Nat) (a b : Slot) (p : Port), i < j ∧ q.slots[i]? = some a ∧ q.slots[j]? = some b ∧ a.marks p = true ∧
          b.marks p = true ∧ a.offset < ends b p ∧ b.offset < ends a p) →
        ∃ k p, s.planFails q = some ⟨.conflict, 3, some k, some p⟩) ∧
      ((∀ (i j : Nat) (a b : Slot) (p : Port), i < j → q.slots[i]? = some a → q.slots[j]? = some b → a.marks p = true →
          b.marks p = true → ends b p ≤ a.offset ∨ ends a p ≤ b.offset) →
        (∀ period, q.mode = .freeRun → q.period = some period →
          (∃ k ∈ q.slots, ∃ p : Port, k.marks p = true ∧ period < ends k p) →
          ∃ k p, s.planFails q = some ⟨.conflict, 4, some k, some p⟩) ∧
        ((q.mode = .lineTrigger ∨ (∃ period, q.period = some period ∧
            ∀ k ∈ q.slots, ∀ p : Port, k.marks p = true → ends k p ≤ period)) →
          s.planFails q = none))))

/-- PLAN_ARM, PLAN_STOP and PLAN_CLEAR by plan state (R55, R56, R58): arming asks for the strobe reservation, refused
NO_BUDGET while the supply is LOW or beyond the capacity, and otherwise clears every count; a plan in LINE_TRIGGER is left
ARMED, and one in FREE_RUN begins cycle 0 at the arm, or holds it while a port of the plan is in QUIET; a stop takes
RUNNING to STOPPING and ARMED to LOADED; a clear takes LOADED to EMPTY. PLAN_ABORT (R57, R45): in service the plan goes to
LOADED with no cycle, no pending trigger and no next expiry, and every port of the plan has its exposure and reception
windows closed; the groups end; otherwise it is refused. The end of a cycle (R65, R63), where its last window closes with
every slot dispatched: RUNNING goes to ARMED, or begins the next cycle from the pending trigger, or holds that trigger
while a port of the plan is in QUIET; STOPPING goes to LOADED. That a start held or pending leaves the next expiry as
it stands is the model's choice (notes/assumptions/54.md). -/
def Obligations.PlanRequestsByState : Prop :=
  (∀ (s : State) (tag : Byte) (q : Plan),
    (Serves s 0x0A tag [] →
      (s.seq.state ≠ .loaded → exec .planArm s = .next (s.reply .wrongState).transmit) ∧
      (s.seq.state = .loaded → s.seq.plan = some q →
        (∀ f, s.planFails q = some f → exec .planArm s = .next (s.answer f.status
          (num1 f.check ++ optNum 1 f.slot ++ optNum 1 (f.port.map (·.val)))).transmit) ∧
        (s.planFails q = none →
          (s.supply.low.isSome = true ∨ s.settings.capacity < s.committed + s.strobeReservation →
            exec .planArm s = .next (s.answer .noBudget (num2 s.strobeReservation ++ num2 s.committed)).transmit) ∧
          (s.supply.low = none → s.committed + s.strobeReservation ≤ s.settings.capacity → q.mode = .lineTrigger →
            s.sweeps.sweep = none →
            exec .planArm s = .next ((({ s with seq := { s.seq with
              state := .armed
              cycleCounter := 0
              begun := 0
              delayed := 0
              overruns := 0
              ignored := 0
              missed := Vector.replicate 4 (Vector.replicate 8 0)
              exceed := Vector.replicate 8 0 } }).post none (.planState .armed .loaded .arm 0 s.strobeReservation)).answer
                .ok (num2 s.strobeReservation)).transmit) ∧
          (∀ first : Sequencer, s.supply.low = none → s.committed + s.strobeReservation ≤ s.settings.capacity →
            q.mode = .freeRun → s.sweeps.sweep = none → s.seq.pending = none →
            (PlanQuiet s → first = { s.seq with
              state := .armed, cycleCounter := 0, begun := 0, delayed := 0, pending := some ⟨.timer, s.clock, true⟩ }) →
            (¬ PlanQuiet s → (∀ k ∈ s.seq.slots, k.preset = none) ∧ first = { s.seq with
              state := .running
              cycleCounter := 1
              current := some ⟨0, 0, s.clock, false, [], []⟩
              nextExpiry := q.period.map (s.clock + ·)
              begun := 1
              delayed := 0 }) →
            exec .planArm s = .next ((({ s with seq := { first with
              overruns := 0
              ignored := 0
              missed := Vector.replicate 4 (Vector.replicate 8 0)
              exceed := Vector.replicate 8 0 } }).post none (.planState .armed .loaded .arm 0 s.strobeReservation)).answer
                .ok (num2 s.strobeReservation)).transmit)))) ∧
    (Serves s 0x0B tag [] →
      (s.seq.state = .empty ∨ s.seq.state = .loaded → exec .planStop s = .next (s.reply .wrongState).transmit) ∧
      (s.seq.state = .stopping → exec .planStop s = .next (s.reply .ok).transmit) ∧
      (s.seq.state = .running → s.sweeps.sweep = none →
        exec .planStop s = .next ((({ s with seq := { s.seq with
          state := .stopping, pending := none, nextExpiry := none } }).post none
          (.planState .stopping .running .stop s.seq.cycleCounter s.strobeReservation)).reply .ok).transmit) ∧
      (s.seq.state = .armed → s.sweeps.sweep = none →
        ∃ t, exec .planStop s = .next t ∧
          t.seq = { s.seq with state := .loaded, current := none, pending := none, nextExpiry := none } ∧
          t.store.groups = [] ∧ t.lanes = s.lanes ∧ t.dram = s.dram ∧ t.settings = s.settings ∧ t.clock = s.clock ∧
          t.monitor = s.monitor ∧ t.table = s.table ∧ t.profile = s.profile)) ∧
    (Serves s 0x0D tag [] →
      (s.seq.state = .empty → exec .planClear s = .next (s.reply .ok).transmit) ∧
      (s.seq.state = .armed ∨ s.seq.state = .running ∨ s.seq.state = .stopping →
        exec .planClear s = .next (s.reply .wrongState).transmit) ∧
      (s.seq.state = .loaded → s.sweeps.sweep = none →
        exec .planClear s = .next ((({ s with seq := { s.seq with state := .empty, plan := none } }).post none
          (.planState .empty .loaded .clear s.seq.cycleCounter 0)).reply .ok).transmit))) ∧
  (∀ (s : State) (tag : Byte), Serves s 0x0C tag [] →
    (s.seq.state = .empty ∨ s.seq.state = .loaded → exec .planAbort s = .next (s.reply .wrongState).transmit) ∧
    (s.seq.state = .armed ∨ s.seq.state = .running ∨ s.seq.state = .stopping →
      ∃ t, exec .planAbort s = .next t ∧
        t.seq.state = .loaded ∧ t.seq.plan = s.seq.plan ∧ t.seq.current = none ∧ t.seq.pending = none ∧
        t.seq.nextExpiry = none ∧ t.store.groups = [] ∧
        (∀ p : Port, s.seq.marks p = true → t.lanes[p].window = none ∧ t.lanes[p].exposure = none) ∧
        (∀ p : Port, s.seq.marks p = false → t.lanes[p].window = s.lanes[p].window ∧
          t.lanes[p].exposure = s.lanes[p].exposure) ∧
        t.settings = s.settings ∧ t.clock = s.clock ∧ t.monitor = s.monitor ∧ t.table = s.table ∧ t.profile = s.profile)) ∧
  (∀ (s u : State) (p : Port) (w : RxWindow) (c : Cycle) (q : Plan), s.seq.plan = some q → s.seq.current = some c →
    s.lanes[p].window = some w → w.rx = .dropped → w.deadline ≤ s.clock → w.cycle = c.number → c.windows = [(w.slot, p)] →
    (∀ k : Fin 4, s.seq.slots[k.val]? ≠ none → k ∈ c.dispatched) → s.sweeps.sweep = none →
    (∀ o : Port, s.lenses[o].stage ≠ .windowWait) →
    u = { s with lanes := upd s.lanes p (fun l => { l with window := none }) } →
    (s.seq.state = .running →
      (s.seq.pending = none →
        exec (.receptionDeadline p) s = .next ({ u with seq := { s.seq with
          state := .armed, current := none } }).transmit) ∧
      (∀ g, s.seq.pending = some g → PlanQuiet s →
        exec (.receptionDeadline p) s = .next ({ u with seq := { s.seq with
          state := .armed, current := none, pending := some { g with held := true } } }).transmit) ∧
      (∀ g, s.seq.pending = some g → ¬ PlanQuiet s → s.seq.cycleCounter < 18446744073709551615 →
        (∀ k ∈ s.seq.slots, k.preset = none) →
        exec (.receptionDeadline p) s = .next ({ u with seq := { s.seq with
          cycleCounter := s.seq.cycleCounter + 1
          current := some ⟨s.seq.cycleCounter, s.seq.cycleCounter % q.length, s.clock, false, [], []⟩
          pending := none
          nextExpiry := q.period.map (s.clock + ·)
          begun := sat32 s.seq.begun } }).transmit)) ∧
    (s.seq.state = .stopping → s.store.groups = [] → s.supply.claims = [] →
      exec (.receptionDeadline p) s = .next (({ u with
        seq := { s.seq with state := .loaded, current := none, pending := none, nextExpiry := none }
        store := { s.store with notified := Vector.replicate 8 none } }).post none
        (.planState .loaded .stopping .stopped s.seq.cycleCounter 0)).transmit))

/-- Cycle starts (R60 to R63, R66): an edge of TRIG_IN of the plan's polarity, an expiry of the FREE_RUN period and
PLAN_FIRE are taken by the plan state. In ARMED a start begins a cycle, or is held while a port of the plan is in
QUIET; in RUNNING it becomes the pending trigger; a start that finds one present is an overrun; in STOPPING an edge is
counted ignored; in EMPTY and LOADED it changes nothing. A held start begins its cycle, delayed, once no port of the
plan is in QUIET. An edge of the other polarity, or in FREE_RUN, does not reach the sequencer, and PLAN_FIRE outside
ARMED and RUNNING, or in FREE_RUN, is refused. That a start which becomes the pending trigger leaves the next expiry as
it stands, and that the timer does not expire again while its own trigger is pending, is the model's choice
(notes/assumptions/54.md). -/
def Obligations.StartsByPlanState : Prop :=
  (∀ (s : State) (tag : Byte) (edge : Edge) (c : Instr) (source : StartSource) (wrap : State → Nat → State),
    (c = .trigInEdge edge ∧ RunsOnEdge s edge ∧ source = .line ∧ wrap = (fun u _ => u.transmit)) ∨
      (c = .periodExpiry ∧ RunsFree s ∧ source = .timer ∧ (∃ at_, s.seq.nextExpiry = some at_ ∧ at_ ≤ s.clock) ∧
        (s.seq.state = .armed ∨ s.seq.state = .running) ∧ (∀ g, s.seq.pending = some g → g.source ≠ .timer) ∧
        wrap = (fun u _ => u.transmit)) ∨
      (c = .planFire ∧ (∃ e, RunsOnEdge s e) ∧ source = .fire ∧ Serves s 0x0E tag [] ∧
        (s.seq.state = .armed ∨ s.seq.state = .running) ∧ wrap = (fun u n => (u.answer .ok (num1 n)).transmit)) →
    (s.seq.state = .empty ∨ s.seq.state = .loaded → exec c s = .next s.transmit) ∧
    (s.seq.state = .stopping →
      exec c s = .next ({ s with seq := { s.seq with ignored := sat32 s.seq.ignored } }).transmit) ∧
    (s.seq.state = .armed → s.seq.pending = none → PlanQuiet s →
      exec c s = .next (wrap { s with seq := { s.seq with pending := some ⟨source, s.clock, true⟩ } } 2)) ∧
    (s.seq.state = .armed → s.seq.pending = none → ¬ PlanQuiet s → s.seq.cycleCounter < 18446744073709551615 →
      (∀ k ∈ s.seq.slots, k.preset = none) → s.sweeps.sweep = none → ∀ q, s.seq.plan = some q →
      exec c s = .next (wrap { s with seq := { s.seq with
        state := .running
        cycleCounter := s.seq.cycleCounter + 1
        current := some ⟨s.seq.cycleCounter, s.seq.cycleCounter % q.length, s.clock, false, [], []⟩
        pending := none
        nextExpiry := q.period.map (s.clock + ·)
        begun := sat32 s.seq.begun } } 0)) ∧
    (s.seq.state = .running → s.seq.pending = none →
      exec c s = .next (wrap { s with seq := { s.seq with pending := some ⟨source, s.clock, false⟩ } } 1)) ∧
    (∀ g, s.seq.state = .armed ∨ s.seq.state = .running → s.seq.pending = some g →
      exec c s = .next (wrap (({ s with seq := { s.seq with overruns := sat32 s.seq.overruns } }).post none
        (.triggerOverrun source s.clock (s.seq.current.map (fun (d : Cycle) => d.number)) g.held (sat32 s.seq.overruns))) 3))) ∧
  (∀ (s : State) (tag : Byte) (edge : Edge),
    (¬ RunsOnEdge s edge → exec (.trigInEdge edge) s = .next s) ∧
    (Serves s 0x0E tag [] →
      s.seq.state = .empty ∨ s.seq.state = .loaded ∨ s.seq.state = .stopping ∨ RunsFree s →
      exec .planFire s = .next (s.reply .wrongState).transmit) ∧
    (∀ (q : Plan) (g : PendingTrigger), s.seq.state = .armed → s.seq.plan = some q → s.seq.pending = some g →
      g.held = true → ¬ PlanQuiet s → s.seq.cycleCounter < 18446744073709551615 →
      (∀ k ∈ s.seq.slots, k.preset = none) → s.sweeps.sweep = none →
      exec .heldCycleStart s = .next ({ s with seq := { s.seq with
        state := .running
        cycleCounter := s.seq.cycleCounter + 1
        current := some ⟨s.seq.cycleCounter, s.seq.cycleCounter % q.length, s.clock, true, [], []⟩
        pending := none
        nextExpiry := q.period.map (s.clock + ·)
        begun := sat32 s.seq.begun
        delayed := sat32 s.seq.delayed } }).transmit))

/-- The dispatch of a slot (R64, R39, R70), with no sweep in progress: each port marked in it that is ON with its lane
LOCKED takes the next tag, which opens its exposure window and its reception window with the deadline of R39, and
gives the switch the strobe interval where the position fires; every other port marked is counted MISSED and its lane
left as it was. The frame's flags are those asked at the trigger: TRIGGER_DELAYED, LENS_MOVING for a lens in motion, and
LENS_UNSETTLED for a lens that is not IDLE at the slot's preset, read where no move of the port's lens can have begun in
the same dispatch: no claim waits, or every port of the slot before it is triggered too. A reception window still open on a
port that takes a trigger closes first, as at its deadline (R39, R44): with no frame it is counted no-start, and a frame in
reception is closed, its missing lines read 0 and no other byte of the frame DRAM changes. That the ports are taken in
number order is the model's choice (notes/assumptions/49.md), and so is that an exposure window still open gives way to the
new one (notes/assumptions/78.md). -/
def Obligations.SlotDispatchTriggersPorts : Prop :=
  ∀ (s : State) (slot : Fin 4) (k : Slot) (c : Cycle), s.seq.current = some c → s.seq.slots[slot.val]? = some k →
    slot ∉ c.dispatched → c.start + k.offset ≤ s.clock → s.sweeps.sweep = none →
    ∃ t, exec (.slotDispatch slot) s = .next t ∧
      (∀ p : Port, k.marks p = true → s.power[p].state = .on → s.lanes[p].state = .locked →
        (∃ flags : FrameFlags, flags.triggerDelayed = c.delayed ∧
          (s.supply.claims = [] ∨
              (∀ q : Port, q < p → k.marks q = true → s.power[q].state = .on ∧ s.lanes[q].state = .locked) →
            ∃ moving unsettled : Bool,
              flags = { triggerDelayed := c.delayed, lensMoving := moving, lensUnsettled := unsettled } ∧
              (moving = true ↔ s.lenses[p].state = .moving ∨ s.lenses[p].state = .homing) ∧
              (unsettled = true ↔ ∃ i : Fin 8, k.preset = some i ∧ s.lenses[p].state ≠ .absent ∧
                ¬ (s.lenses[p].state = .idle ∧ s.lenses[p].position.focus = some s.settings.presets[p][i].focus ∧
                  (∀ a b, s.lenses[p].position.iris = some a → s.settings.presets[p][i].iris = some b → a = b) ∧
                  (∀ a b, s.lenses[p].position.zoom = some a → s.settings.presets[p][i].zoom = some b → a = b)))) ∧
          t.lanes[p].window = some {
            tag := s.lanes[p].tag + 1
            sendTime := s.clock
            exposureEnd := s.clock + k.exposure
            deadline := s.clock + k.exposure + s.settings.ports[p].readout + 2000
            slot := slot
            cycle := c.number
            position := c.position
            flags := flags
            rx := .awaitingStart }) ∧
        t.lanes[p].tag = s.lanes[p].tag + 1 ∧
        t.lanes[p].exposure = some ⟨s.clock + k.exposure, slot, c.number⟩ ∧
        (∃ d, t.seq.current = some d ∧ d.number = c.number ∧ slot ∈ d.dispatched ∧ (slot, p) ∈ d.windows) ∧
        (s.lanes[p].window = none → t.lanes[p].counts = s.lanes[p].counts ∧ t.lanes[p].frame = s.lanes[p].frame) ∧
        (∀ w, s.lanes[p].window = some w →
          (w.rx = .awaitingStart → t.lanes[p].counts = { s.lanes[p].counts with
            noStart := sat32 s.lanes[p].counts.noStart }) ∧
          (w.rx = .dropped ∨ (w.rx = .receiving ∧ s.lanes[p].frame = none) → t.lanes[p].counts = s.lanes[p].counts) ∧
          (∀ f : RxFrame, w.rx = .receiving → s.lanes[p].frame = some f →
            t.lanes[p].frame = none ∧ t.lanes[p].lastMean = f.pixelSum / (f.width * f.height) ∧
            t.lanes[p].counts = { s.lanes[p].counts with
              closed := sat32 s.lanes[p].counts.closed
              deadlineTruncations := if ∃ j ∈ List.range f.height, j ∉ f.stored
                then sat32 s.lanes[p].counts.deadlineTruncations else s.lanes[p].counts.deadlineTruncations } ∧
            (MemoryCanonical s → f.height * f.width * 2 ≤ 16777216 →
              ∀ j x, j < f.height → j ∉ f.stored → x < f.width →
                Memory.readPixel t.dram f.buffer (j * f.width + x) = 0))) ∧
        t.seq.missed[slot][p] = s.seq.missed[slot][p] ∧
        (k.fire[c.position]? = some true → 0 < k.used →
          (s.clock + k.firstPulse, s.clock + k.firstPulse + (k.used - 1) * k.pulsePeriod + k.pulseWidth) ∈
            t.power[p].strobes) ∧
        (k.fire[c.position]? ≠ some true → t.power[p].strobes = s.power[p].strobes)) ∧
      (∀ p : Port, k.marks p = true → s.power[p].state ≠ .on ∨ s.lanes[p].state ≠ .locked →
        t.seq.missed[slot][p] = sat32 s.seq.missed[slot][p] ∧ t.lanes[p] = s.lanes[p]) ∧
      (∀ p : Port, k.marks p = false → t.lanes[p] = s.lanes[p] ∧ t.seq.missed[slot][p] = s.seq.missed[slot][p]) ∧
      ((∀ (p : Port) (w : RxWindow), k.marks p = true → s.lanes[p].window = some w → w.rx ≠ .receiving) →
        t.dram = s.dram) ∧
      (MemoryCanonical s → (∀ (p : Port) (f : RxFrame), s.lanes[p].frame = some f → f.height * f.width * 2 ≤ 16777216) →
        ∀ a, (∀ (p : Port) (f : RxFrame) (j i : Nat), k.marks p = true → s.lanes[p].frame = some f → j < f.height →
            j ∉ f.stored → i < f.width * 2 → a ≠ bufferAddr f.buffer (j * f.width * 2 + i)) →
          Memory.read t.dram a = Memory.read s.dram a) ∧
      t.settings = s.settings ∧ t.clock = s.clock ∧ t.monitor = s.monitor ∧ t.table = s.table ∧ t.profile = s.profile

/-! ## Chapter 4: the frame store -/

/-- FRAME_HOLD and FRAME_RELEASE (R94, R95): a hold is taken while the buffer is FILLING, GROUPED, COMBINING or
QUEUED, and sets the hold alone; a release of a HELD frame frees it, its buffer joining the free list at its tail,
unless a region read of it is on the queue or in flight; any other id or state is answered NOT_FOUND. The link's
choice at a command's end is the model's (notes/assumptions/7.md). -/
def Obligations.HoldAndReleaseByBufferState : Prop :=
  ∀ (s : State) (tag : Byte) (id : Nat), id < 4294967296 →
    (s.store.frame? id = none →
      (Serves s 0x11 tag (num4 id) → exec .frameHold s = .next (s.reply .notFound).transmit) ∧
      (Serves s 0x12 tag (num4 id) → exec .frameRelease s = .next (s.reply .notFound).transmit)) ∧
    (∀ f : FrameRecord, s.store.frame? id = some f →
      (Serves s 0x11 tag (num4 id) →
        (s.store.buffers[f.buffer] = .filling ∨ s.store.buffers[f.buffer] = .grouped ∨
            s.store.buffers[f.buffer] = .combining ∨ s.store.buffers[f.buffer] = .queued →
          exec .frameHold s = .next (({ s with store := { s.store with
            frames := s.store.frames.map (fun (r : FrameRecord) => if r.id = id then { r with hold := true } else r) } }).reply
              .ok).transmit) ∧
        (s.store.buffers[f.buffer] = .free ∨ s.store.buffers[f.buffer] = .sending ∨ s.store.buffers[f.buffer] = .held →
          exec .frameHold s = .next (s.reply .notFound).transmit)) ∧
      (Serves s 0x12 tag (num4 id) →
        (s.store.buffers[f.buffer] ≠ .held → exec .frameRelease s = .next (s.reply .notFound).transmit) ∧
        (s.store.buffers[f.buffer] = .held →
          ((∃ e ∈ s.uplink.regions, e.frame = id) ∨ (∃ i, s.uplink.item = some i ∧ i.frame = id ∧ i.kind ≠ .frame) →
            exec .frameRelease s = .next (s.reply .busy).transmit) ∧
          ((∀ e ∈ s.uplink.regions, e.frame ≠ id) → (∀ i, s.uplink.item = some i → i.frame = id → i.kind = .frame) →
            exec .frameRelease s = .next (({ s with store := { s.store with
              buffers := upd s.store.buffers f.buffer (fun _ => .free)
              frames := s.store.frames.filter (fun (r : FrameRecord) => r.id ≠ id)
              freeList := s.store.freeList ++ [f.buffer]
              heldSet := s.store.heldSet.filter (fun (n : Nat) => n ≠ id) } }).reply .ok).transmit))))

/-- Combine groups, and their sums. COMBINE_COMPLETE (R89, R90), with no other group waiting and the uplink DOWN: each
pixel of the first member's buffer becomes the sum of the members' pixels with their signs, clamped once to 0 and the
full scale, and no other byte of the frame DRAM changes; the first member's record becomes the result's under a new
id, with the flags its members pass on, and joins the output queue; the other members are freed. Before it (R83 to
R88), a frame of a signed position that closes whole takes its place in its pass's OPEN group; at the last signed
position a group with every place taken joins the combine queue, which the idle engine takes at once, or is abandoned
at 32 groups, as is one with a place empty. A frame that closes truncated or never starts is a loss: an OPEN group's
members go out UNCOMBINED in order of position and it stands BROKEN until the last signed position; a BROKEN group
sends its frames out UNCOMBINED. A report of another pass ends the older group first, where R84 speaks of a later pass
(notes/assumptions/28.md). A combine lasts 1 ms for each started 4 MiB of its members' data. -/
def Obligations.CombineWritesClampedSums : Prop :=
  (∀ (s : State) (c : Combine) (first : FrameRecord) (others : List FrameRecord) (sum : Nat → Int),
    s.store.combine = some c → c.endAt ≤ s.clock → s.store.combineQueue = [] → s.uplink.up = false →
    MemoryCanonical s → StoreSound s →
    c.members.map (fun m => s.store.frame? m.2) = (first :: others).map some →
    (first.depth = 8 ∨ first.depth = 10 ∨ first.depth = 12) → first.width * first.height * 2 ≤ 16777216 →
    (∀ i, sum i = ((c.members.zip (first :: others)).map (fun m =>
      if m.1.1 = .plus then (Memory.readPixel s.dram m.2.buffer i : Int)
      else if m.1.1 = .minus then -(Memory.readPixel s.dram m.2.buffer i : Int) else 0)).sum) →
    ∃ t, exec .combineComplete s = .next t ∧
      (∀ i, i < first.width * first.height →
        Memory.readPixel t.dram first.buffer i = min (sum i).toNat (2 ^ first.depth - 1)) ∧
      (∀ a, (∀ j, j < first.width * first.height * 2 → a ≠ bufferAddr first.buffer j) →
        Memory.read t.dram a = Memory.read s.dram a) ∧
      t.store.frame? s.store.newId = some { first with
        id := s.store.newId
        mean := none
        flags := {
          combined := true
          lineErrors := (first :: others).any (·.flags.lineErrors)
          triggerDelayed := (first :: others).any (·.flags.triggerDelayed)
          lensUnsettled := (first :: others).any (·.flags.lensUnsettled)
          lensMoving := (first :: others).any (·.flags.lensMoving)
          ambientHigh := (first :: others).any (·.flags.ambientHigh)
          cableSuspect := (first :: others).any (·.flags.cableSuspect) }
        hold := (first :: others).any (·.hold)
        members := some ((first :: others).map (·.id)) } ∧
      s.store.frame? s.store.newId = none ∧ t.store.idCounter = s.store.newId ∧
      t.store.outputQueue = s.store.outputQueue ++ [s.store.newId] ∧ t.store.buffers[first.buffer] = .queued ∧
      (∀ f ∈ first :: others, t.store.frame? f.id = none) ∧
      (∀ f ∈ others, f.buffer ≠ first.buffer → t.store.buffers[f.buffer] = .free ∧ f.buffer ∈ t.store.freeList) ∧
      t.store.combine = none ∧ t.store.combinesDone = sat32 s.store.combinesDone ∧ t.store.groups = s.store.groups ∧
      t.store.drops = s.store.drops ∧ t.power = s.power ∧ t.lanes = s.lanes ∧ t.lenses = s.lenses ∧ t.seq = s.seq ∧
      t.uplink = s.uplink ∧ t.monitor = s.monitor ∧ t.table = s.table ∧ t.sweeps = s.sweeps ∧
      t.settings = s.settings ∧ t.clock = s.clock ∧ t.profile = s.profile) ∧
  (∀ (s : State) (p : Port) (c : Instr) (w : RxWindow) (k : Slot) (l : Nat) (others : List Group) (held : Option Group)
      (g : Group) (sent : List Nat) (abandoned : Nat) (last : Bool) (i : Fin 8),
    s.seq.state = .armed ∨ s.seq.state = .running → s.uplink.up = false → StoreSound s → s.lanes[p].window = some w →
    s.seq.slots[w.slot.val]? = some k → s.seq.plan.map (·.length) = some l → w.position = i.val →
    (k.signs[i.val]? = some .plus ∨ k.signs[i.val]? = some .minus) →
    (last = true ↔ ∀ j : Fin 8, i < j → k.signs[j.val]? ≠ some .plus ∧ k.signs[j.val]? ≠ some .minus) →
    held = s.store.groups.find? (fun h => h.slot = w.slot && h.port = p) →
    others = s.store.groups.filter (fun h => !(h.slot = w.slot && h.port = p)) →
    (held = none ∧ sent = [] ∧ abandoned = s.store.abandoned ∧
          g = ⟨w.slot, p, w.cycle / l, false, k.signs, Vector.replicate 8 none⟩) ∨
        (held = some g ∧ g.pass = w.cycle / l ∧ g.signs = k.signs ∧ sent = [] ∧ abandoned = s.store.abandoned) ∨
        (∃ old, held = some old ∧ old.pass ≠ w.cycle / l ∧
          g = ⟨w.slot, p, w.cycle / l, false, k.signs, Vector.replicate 8 none⟩ ∧
          (old.broken = true → sent = [] ∧ abandoned = s.store.abandoned) ∧
          (old.broken = false → sent = old.places.toList.filterMap id ∧ abandoned = sat32 s.store.abandoned)) →
    (c = .receptionDeadline p → w.deadline ≤ s.clock → w.rx = .awaitingStart →
      ∃ t, exec c s = .next t ∧ t.store.combineQueue = s.store.combineQueue ∧ t.store.combine = s.store.combine ∧
        (g.broken = false → t.store.abandoned = sat32 abandoned ∧
          t.store.outputQueue = s.store.outputQueue ++ sent ++ g.places.toList.filterMap id) ∧
        (g.broken = true → t.store.abandoned = abandoned ∧ t.store.outputQueue = s.store.outputQueue) ∧
        t.store.groups = if last then others
          else others ++ [{ g with broken := true, places := Vector.replicate 8 none }]) ∧
    (∀ (f : RxFrame) (r : FrameRecord) (whole : Bool) (placed : Group), w.rx = .receiving → s.lanes[p].frame = some f →
      s.store.frame? f.id = some r → r.slot = w.slot → r.port = p → r.cycle = w.cycle → r.position = w.position →
      f.flags.aborted = false → (whole = true ↔ f.flags.truncated = false ∧ ∀ n, n < f.height → n ∈ f.stored) →
      (∀ h ∈ s.store.groups, some f.id ∉ h.places.toList) → placed = { g with places := g.places.set i (some f.id) } →
      (∃ count, c = .frameEnd p w.tag count ∧ s.lanes[p].state = .locked) ∨
        (c = .receptionDeadline p ∧ w.deadline ≤ s.clock) →
      ∃ t, exec c s = .next t ∧
        (whole = false →
          t.store.combineQueue = s.store.combineQueue ∧ t.store.combine = s.store.combine ∧
          t.store.outputQueue = s.store.outputQueue ++ sent ++
            (if g.broken then [f.id] else placed.places.toList.filterMap id) ∧
          t.store.abandoned = (if g.broken then abandoned else sat32 abandoned) ∧
          t.store.groups = if last then others
            else others ++ [{ g with broken := true, places := Vector.replicate 8 none }]) ∧
        (whole = true → g.broken = true →
          t.store.combineQueue = s.store.combineQueue ∧ t.store.combine = s.store.combine ∧
          t.store.outputQueue = s.store.outputQueue ++ [f.id] ∧ t.store.abandoned = abandoned ∧
          t.store.groups = (if last then others else s.store.groups) ∧ t.store.buffers[r.buffer] = .queued ∧
          ∃ q, t.store.frame? f.id = some q ∧ q.flags.uncombined = true) ∧
        (whole = true → g.broken = false →
          (last = false → t.store.groups = others ++ [placed] ∧ t.store.buffers[r.buffer] = .grouped ∧
            t.store.outputQueue = s.store.outputQueue ++ sent ∧ t.store.abandoned = abandoned ∧
            t.store.combineQueue = s.store.combineQueue ∧ t.store.combine = s.store.combine) ∧
          (last = true → t.store.groups = others ∧
            ((∃ j : Fin 8, (k.signs[j.val]? = some .plus ∨ k.signs[j.val]? = some .minus) ∧ placed.places[j] = none) →
              t.store.outputQueue = s.store.outputQueue ++ sent ++ placed.places.toList.filterMap id ∧
              t.store.abandoned = sat32 abandoned ∧ t.store.combineQueue = s.store.combineQueue ∧
              t.store.combine = s.store.combine) ∧
            ((∀ j : Fin 8, k.signs[j.val]? = some .plus ∨ k.signs[j.val]? = some .minus → placed.places[j] ≠ none) →
              (32 ≤ s.store.combineQueue.length → t.store.overflows = sat32 s.store.overflows ∧
                t.store.outputQueue = s.store.outputQueue ++ sent ++ placed.places.toList.filterMap id ∧
                t.store.abandoned = sat32 abandoned ∧ t.store.combineQueue = s.store.combineQueue ∧
                t.store.combine = s.store.combine) ∧
              (s.store.combineQueue.length < 32 → t.store.outputQueue = s.store.outputQueue ++ sent ∧
                t.store.abandoned = abandoned ∧ t.store.overflows = s.store.overflows ∧
                (s.store.combine.isSome = true → t.store.combine = s.store.combine ∧
                  t.store.combineQueue = s.store.combineQueue ++ [placed] ∧
                  t.store.buffers[r.buffer] = .grouped) ∧
                (s.store.combine = none → s.store.combineQueue = [] → t.store.combineQueue = [] ∧
                  t.store.buffers[r.buffer] = .combining ∧ ∃ e : Combine, t.store.combine = some e ∧ e.slot = w.slot ∧
                    e.port = p ∧ e.startAt = s.clock ∧ s.clock + 1000 ≤ e.endAt ∧
                    e.members.map (fun m => m.2) = placed.places.toList.filterMap id ∧
                    ∀ (a : Nat) (rest : List Nat) (x : FrameRecord), placed.places.toList.filterMap id = a :: rest →
                      s.store.frame? a = some x → e.endAt = s.clock +
                        1000 * max 1 (((rest.length + 1) * x.width * x.height * 2 + 4194303) / 4194304)))))) ∧
        (∀ x ∈ sent, ∀ q, s.store.frame? x = some q →
          t.store.buffers[q.buffer] = .queued ∧ ∃ u, t.store.frame? x = some u ∧ u.flags.uncombined = true)))

/-! ## Chapter 5: the image uplink -/

/-- REGION_READ (R106, R107): its checks in their order, and the entry it adds, under the next region number; the
lines of a region by its mode. With the link UP and the transmitter idle the send choice is made at once: the region at
the head of the queue, this one where it was empty, is in flight, and its header begins for one credit, or waits for one
(R102, R104, R108). That the place reported counts the entry itself is the model's choice
(notes/assumptions/44.md). -/
def Obligations.RegionReadJoinsOrIsRefused : Prop :=
  ∀ (s : State) (tag : Byte) (id start mode count : Nat), id < 4294967296 → start < 65536 → mode < 256 → count < 65536 →
    Serves s 0x14 tag (num4 id ++ num2 start ++ num1 mode ++ num2 count) →
    (s.store.frame? id = none → exec .regionRead s = .next (s.reply .notFound).transmit) ∧
    (∀ f : FrameRecord, s.store.frame? id = some f →
      (s.store.buffers[f.buffer] ≠ .held → exec .regionRead s = .next (s.reply .notFound).transmit) ∧
      (s.store.buffers[f.buffer] = .held →
        (2 < mode ∨ f.height ≤ start ∨ (mode = 0 ∧ (count = 0 ∨ f.height < count)) ∨
            (mode = 1 ∧ f.height < start / 16 * 16 + 16) ∨ (mode = 2 ∧ f.height < start / 64 * 64 + 64) →
          exec .regionRead s = .next (s.reply .outOfRange).transmit) ∧
        (∀ (e : RegionEntry) (lines : Nat), start < f.height →
          (mode = 0 ∧ 1 ≤ count ∧ count ≤ f.height ∧ lines = count ∧ e.mode = .linear ∧ e.count = some count) ∨
            (mode = 1 ∧ start / 16 * 16 + 16 ≤ f.height ∧ lines = 16 ∧ e.mode = .group16 ∧ e.count = none) ∨
            (mode = 2 ∧ start / 64 * 64 + 64 ≤ f.height ∧ lines = 64 ∧ e.mode = .group64 ∧ e.count = none) →
          e.number = (if s.uplink.regionCounter < 65535 then s.uplink.regionCounter + 1 else 0) →
          e.frame = id → e.start = start → e.arrival = s.clock →
          (4 ≤ s.uplink.regions.length → exec .regionRead s = .next (s.reply .queueFull).transmit) ∧
          (s.uplink.regions.length < 4 →
            s.uplink.up = false ∨ s.uplink.item.isSome = true ∨ s.uplink.trailer.isSome = true ∨
              s.uplink.packet.isSome = true →
            exec .regionRead s = .next (({ s with uplink := { s.uplink with
              regions := s.uplink.regions ++ [e], regionCounter := e.number } }).answer .ok
              (num2 e.number ++ num2 lines ++ num1 (s.uplink.regions.length + 1))).transmit) ∧
          (s.uplink.regions.length < 4 → s.uplink.up = true → s.uplink.item = none → s.uplink.trailer = none →
            s.uplink.packet = none →
            ∀ (first : RegionEntry) (rest : List RegionEntry) (g : FrameRecord) (chosen : Uplink),
            s.uplink.regions ++ [e] = first :: rest → s.store.frame? first.frame = some g →
            chosen = { s.uplink with
              regions := rest
              regionCounter := e.number
              item := some ⟨.region first, first.frame, .header, 0, 0xFFFFFFFF⟩ } →
            (s.uplink.credits = 0 →
              exec .regionRead s = .next (({ s with uplink := { chosen with
                waiting := true
                counts := { chosen.counts with
                  creditWaits := if s.uplink.waiting then chosen.counts.creditWaits
                    else sat32 chosen.counts.creditWaits } } }).answer .ok
                (num2 e.number ++ num2 lines ++ num1 (s.uplink.regions.length + 1))).transmit) ∧
            (0 < s.uplink.credits →
              exec .regionRead s = .next (({ s with uplink := { chosen with
                item := some ⟨.region first, first.frame, if 0 < first.lines then .line 0 else .trailer, 0, 0xFFFFFFFF⟩
                packet := some ⟨.header, withCrc16 (0xC4 :: (num4 g.id ++ num2 first.number ++ num1 g.port.val ++
                  num1 first.mode.code ++ num2 first.start ++ num2 first.lines ++ num2 g.width ++ num2 g.height ++
                  num1 g.depth ++ num2 (flagsNum g.flags)))⟩
                credits := s.uplink.credits - 1
                waiting := false } }).answer .ok
                (num2 e.number ++ num2 lines ++ num1 (s.uplink.regions.length + 1))).transmit)) ∧
          e.lines = lines ∧
          (∀ place, place < lines → e.lineAt f.height place =
            (if mode = 0 then (start + place) % f.height
             else if mode = 1 then start / 16 * 16 + (start % 16 + place) % 16
             else start / 64 * 64 + (start % 64 + place) % 64)))))

/-- The return lane (R99 to R102, R109, R111): a bad word is counted; a good word restarts the silence timer; READY
brings the link UP with the grant's credits, at most 4,096; GRANT adds credits with the link UP and is discarded with it
DOWN; 1,000 µs of silence take it DOWN with the credits lost and the item in flight stopped, a frame going to HELD or
freed; READY with the link UP takes it DOWN in the same way, told as RESTART, and brings it UP again on its own grant.
That a RETURN_SILENCE which is not due changes nothing is the model's choice (notes/assumptions/6.md). -/
def Obligations.ReturnWordsMoveTheLink : Prop :=
  ∀ (s : State) (g : BitVec 16) (up : State → State),
    (∀ d, up d = ({ d with uplink := { d.uplink with
      up := true
      since := d.clock
      credits := min 4096 g.toNat
      lastGoodWord := d.clock
      counts := { d.uplink.counts with
        handshakes := sat32 d.uplink.counts.handshakes
        discardedCredits := min 4294967295 (d.uplink.counts.discardedCredits + (g.toNat - 4096)) } } }).post none
      (.uplinkState true .handshake (min 4096 g.toNat) none)) →
    exec .returnError s = .next ({ s with uplink := { s.uplink with
      counts := { s.uplink.counts with returnErrors := sat32 s.uplink.counts.returnErrors } } }).transmit ∧
    exec .idle s = .next ({ s with uplink := { s.uplink with lastGoodWord := s.clock } }).transmit ∧
    (s.uplink.up = false →
      exec (.grant g) s = .next ({ s with uplink := { s.uplink with
        lastGoodWord := s.clock
        counts := { s.uplink.counts with discardedGrants := sat32 s.uplink.counts.discardedGrants } } }).transmit ∧
      (s.uplink.regions = [] → s.store.outputQueue = [] → exec (.ready g) s = .next (up s).transmit)) ∧
    (s.uplink.up = true →
      (s.uplink.packet.isSome = true ∨
          (s.uplink.item = none ∧ s.uplink.trailer = none ∧ s.uplink.regions = [] ∧ s.store.outputQueue = []) →
        exec (.grant g) s = .next ({ s with uplink := { s.uplink with
          lastGoodWord := s.clock
          credits := min 4096 (s.uplink.credits + g.toNat)
          counts := { s.uplink.counts with
            discardedCredits := min 4294967295
              (s.uplink.counts.discardedCredits + (s.uplink.credits + g.toNat - 4096)) } } }).transmit) ∧
      (s.clock < s.uplink.lastGoodWord + 1000 → exec .returnSilence s = .next s) ∧
      (∀ (cause : UplinkCause) (d : State) (stopped : Option StoppedItem) (counts : UplinkCounts) (store : Store),
        d = ({ s with
          uplink := { s.uplink with
            up := false
            since := s.clock
            credits := 0
            item := none
            trailer := none
            packet := none
            waiting := false
            counts := { counts with downs := sat32 s.uplink.counts.downs } }
          store := store }).post none (.uplinkState false cause 0 stopped) →
        (s.uplink.item = none ∧ stopped = none ∧ counts = s.uplink.counts ∧ store = s.store) ∨
          (∃ (i : Item) (e : RegionEntry), s.uplink.item = some i ∧ i.kind = .region e ∧ store = s.store ∧
            stopped = some ⟨i.kind, i.frame, i.sent, none⟩ ∧
            counts = { s.uplink.counts with regionsLost := sat32 s.uplink.counts.regionsLost }) ∨
          (∃ (i : Item) (f : FrameRecord), s.uplink.item = some i ∧ i.kind = .frame ∧
            s.store.frame? i.frame = some f ∧ stopped = some ⟨.frame, i.frame, i.sent, some f.heldPlace⟩ ∧
            counts = { s.uplink.counts with framesLost := sat32 s.uplink.counts.framesLost } ∧
            store = if f.heldPlace then { s.store with buffers := upd s.store.buffers f.buffer (fun _ => .held) }
              else { s.store with
                buffers := upd s.store.buffers f.buffer (fun _ => .free)
                frames := s.store.frames.filter (fun (r : FrameRecord) => r.id ≠ i.frame)
                freeList := s.store.freeList ++ [f.buffer]
                heldSet := s.store.heldSet.filter (fun (n : Nat) => n ≠ i.frame) }) →
        (cause = .silence → s.uplink.lastGoodWord + 1000 ≤ s.clock → exec .returnSilence s = .next d.transmit) ∧
        (cause = .restart → s.uplink.regions = [] → s.store.outputQueue = [] →
          exec (.ready g) s = .next (up d).transmit)))

/-- The packets of the uplink (R102 to R105, R108). With a frame or a region in flight, the end of its HEADER or of a
LINE, which is counted and joins the line CRC-32, begins the next packet for one credit, or begins a wait; a GRANT
that ends the wait begins it. The end of its TRAILER ends the item, a frame going to HELD with its held place or
freed. At each end of an item, of a pending trailer, and at a handshake, the send choice takes the region at the head
of its queue, or else the frame at the head of the output queue, which takes a held place where its hold is set and
eight are not taken. The pending TRAILER of a cell reset begins for one credit when the packet that was under way has
ended, or with the GRANT that ends its wait. That an item which a cell reset cut short counts nothing at the end of
its packet is the model's choice (notes/assumptions/60.md). -/
def Obligations.UplinkSendsFramePackets : Prop :=
  (∀ (s : State) (c : Instr) (g : BitVec 16) (v : Uplink) (i j : Item) (f : FrameRecord) (lines : Nat)
      (number : Nat → Nat), s.uplink.up = true → s.uplink.trailer = none → s.uplink.item = some i →
    s.store.frame? i.frame = some f →
    (i.kind = .frame ∧ lines = f.height ∧ (∀ k, number k = k)) ∨
      (∃ e, i.kind = .region e ∧ lines = e.lines ∧ ∀ k, number k = e.lineAt f.height k) →
    (∃ p, c = .uplinkPacketEnd ∧ s.uplink.packet = some p ∧ v = { s.uplink with packet := none } ∧
        (p.kind = .header ∧ j = i ∨
          p.kind = .line ∧ j = { i with
            sent := i.sent + 1, crc := crc32Feed i.crc ((p.bytes.drop 7).take (p.bytes.length - 9)) })) ∨
      (c = .grant g ∧ s.uplink.packet = none ∧ j = i ∧ v = { s.uplink with
        lastGoodWord := s.clock
        credits := min 4096 (s.uplink.credits + g.toNat)
        counts := { s.uplink.counts with
          discardedCredits := min 4294967295 (s.uplink.counts.discardedCredits + (s.uplink.credits + g.toNat - 4096)) } }) →
    (v.credits = 0 →
      exec c s = .next ({ s with uplink := { v with
        item := some j
        waiting := true
        counts := { v.counts with
          creditWaits := if v.waiting then v.counts.creditWaits else sat32 v.counts.creditWaits } } }).transmit) ∧
    (0 < v.credits → ∀ next : Packet × ItemNext,
      (i.next = .header → next.1.kind = .header ∧ next.2 = if 0 < lines then .line 0 else .trailer) →
      (∀ place, i.next = .line place →
        next = (⟨.line, withCrc16 (0xC2 :: (num4 f.id ++ num2 (number place) ++
            Memory.readBytes s.dram f.buffer (number place * f.width * 2) (f.width * 2)))⟩,
          if place + 1 < lines then .line (place + 1) else .trailer)) →
      (i.next = .trailer →
        next = (⟨.trailer, withCrc16 (0xC3 :: (num4 f.id ++ num2 (flagsNum f.flags) ++ num2 j.sent ++
          num4 (~~~j.crc).toNat))⟩, .trailer)) →
      (i.next = .header → i.kind = .frame → next.1.bytes = withCrc16 (0xC1 :: (num4 f.id ++ num1 f.port.val ++
        num1 f.slot.val ++ num8 f.cycle ++ num1 f.position ++ num8 f.triggerTime ++ num2 f.width ++ num2 f.height ++
        num1 f.depth ++ num2 (flagsNum f.flags) ++ num2 (f.mean.getD 0xFFFF) ++ flagByte f.heldPlace ++
        num1 (f.members.getD []).length ++ ((f.members.getD []).map num4).flatten))) →
      (∀ e, i.next = .header → i.kind = .region e → next.1.bytes = withCrc16 (0xC4 :: (num4 f.id ++ num2 e.number ++
        num1 f.port.val ++ num1 e.mode.code ++ num2 e.start ++ num2 lines ++ num2 f.width ++ num2 f.height ++
        num1 f.depth ++ num2 (flagsNum f.flags)))) →
      exec c s = .next ({ s with uplink := { v with
        packet := some next.1
        item := some { j with next := next.2 }
        credits := v.credits - 1
        waiting := false } }).transmit)) ∧
  (∀ (s : State) (c : Instr) (g : BitVec 16) (v : Uplink) (x : PendingTrailer), s.uplink.up = true →
    s.uplink.trailer = some x →
    (∃ p, c = .uplinkPacketEnd ∧ s.uplink.packet = some p ∧ p.kind = .orphan ∧ v = { s.uplink with packet := none }) ∨
      (c = .grant g ∧ s.uplink.packet = none ∧ v = { s.uplink with
        lastGoodWord := s.clock
        credits := min 4096 (s.uplink.credits + g.toNat)
        counts := { s.uplink.counts with
          discardedCredits := min 4294967295 (s.uplink.counts.discardedCredits + (s.uplink.credits + g.toNat - 4096)) } }) →
    (v.credits = 0 →
      exec c s = .next ({ s with uplink := { v with
        waiting := true
        counts := { v.counts with
          creditWaits := if v.waiting then v.counts.creditWaits else sat32 v.counts.creditWaits } } }).transmit) ∧
    (0 < v.credits →
      exec c s = .next ({ s with uplink := { v with
        packet := some ⟨.pendingTrailer, withCrc16 (0xC3 :: (num4 x.frame ++ num2 (flagsNum x.flags) ++ num2 x.sent ++
          num4 (~~~x.crc).toNat))⟩
        credits := v.credits - 1
        waiting := false } }).transmit)) ∧
  (∀ (s u : State) (c : Instr), s.uplink.waiting = false →
    (∃ g : BitVec 16, c = .ready g ∧ s.uplink.up = false ∧ s.uplink.item = none ∧ s.uplink.trailer = none ∧
        s.uplink.packet = none ∧
        u = ({ s with uplink := { s.uplink with
          up := true
          since := s.clock
          credits := min 4096 g.toNat
          lastGoodWord := s.clock
          counts := { s.uplink.counts with
            handshakes := sat32 s.uplink.counts.handshakes
            discardedCredits := min 4294967295 (s.uplink.counts.discardedCredits + (g.toNat - 4096)) } } }).post none
          (.uplinkState true .handshake (min 4096 g.toNat) none)) ∨
      (∃ p, c = .uplinkPacketEnd ∧ s.uplink.up = true ∧ s.uplink.packet = some p ∧
        ((p.kind = .orphan ∧ s.uplink.item = none ∧ s.uplink.trailer = none ∧
            u = { s with uplink := { s.uplink with packet := none } }) ∨
          (p.kind = .pendingTrailer ∧ s.uplink.item = none ∧
            u = { s with uplink := { s.uplink with
              packet := none
              trailer := none
              counts := { s.uplink.counts with abortedTrailers := sat32 s.uplink.counts.abortedTrailers } } }) ∨
          (∃ (i : Item) (e : RegionEntry), p.kind = .trailer ∧ s.uplink.item = some i ∧ i.kind = .region e ∧
            s.uplink.trailer = none ∧
            u = { s with uplink := { s.uplink with
              packet := none
              item := none
              counts := { s.uplink.counts with regionsSent := sat32 s.uplink.counts.regionsSent } } }) ∨
          (∃ (i : Item) (f : FrameRecord), p.kind = .trailer ∧ s.uplink.item = some i ∧ i.kind = .frame ∧
            s.uplink.trailer = none ∧ s.store.frame? i.frame = some f ∧
            u = { s with
              uplink := { s.uplink with
                packet := none
                item := none
                counts := { s.uplink.counts with framesSent := sat32 s.uplink.counts.framesSent } }
              store :=
                if f.heldPlace then { s.store with buffers := upd s.store.buffers f.buffer (fun _ => .held) }
                else { s.store with
                  buffers := upd s.store.buffers f.buffer (fun _ => .free)
                  frames := s.store.frames.filter (fun (r : FrameRecord) => r.id ≠ i.frame)
                  freeList := s.store.freeList ++ [f.buffer]
                  heldSet := s.store.heldSet.filter (fun (n : Nat) => n ≠ i.frame) } }))) →
    (u.uplink.regions = [] → u.store.outputQueue = [] → exec c s = .next u.transmit) ∧
    (∀ (x : Item) (f : FrameRecord) (chosen : State) (header : List Byte) (lines : Nat),
      (∃ e rest, u.uplink.regions = e :: rest ∧ u.store.frame? e.frame = some f ∧
          x = ⟨.region e, e.frame, .header, 0, 0xFFFFFFFF⟩ ∧ header = regionHeaderPacket e f ∧ lines = e.lines ∧
          chosen = { u with uplink := { u.uplink with regions := rest } }) ∨
        (∃ (r : FrameRecord) (rest : List Nat) (sending : Store), u.uplink.regions = [] ∧
          u.store.outputQueue = x.frame :: rest ∧ u.store.frame? x.frame = some r ∧
          x = ⟨.frame, x.frame, .header, 0, 0xFFFFFFFF⟩ ∧ header = headerPacket f ∧ lines = f.height ∧
          sending = { u.store with outputQueue := rest, buffers := upd u.store.buffers r.buffer (fun _ => .sending) } ∧
          chosen = { u with store := { sending with
            frames := u.store.frames.map (fun (q : FrameRecord) => if q.id = x.frame then
              { q with
                heldPlace := q.heldPlace || (r.hold && decide (u.store.heldSet.length < 8))
                flags := { q.flags with notHeld := q.flags.notHeld || (r.hold && decide (8 ≤ u.store.heldSet.length)) } }
              else q)
            heldSet := if r.hold ∧ u.store.heldSet.length < 8 then u.store.heldSet ++ [x.frame] else u.store.heldSet } } ∧
          chosen.store.frame? x.frame = some f) →
      (u.uplink.credits = 0 →
        exec c s = .next ({ chosen with uplink := { chosen.uplink with
          item := some x
          waiting := true
          counts := { chosen.uplink.counts with creditWaits := sat32 chosen.uplink.counts.creditWaits } } }).transmit) ∧
      (0 < u.uplink.credits →
        exec c s = .next ({ chosen with uplink := { chosen.uplink with
          item := some { x with next := if 0 < lines then .line 0 else .trailer }
          packet := some ⟨.header, header⟩
          credits := chosen.uplink.credits - 1 } }).transmit)))

/-! ## Chapter 6: the lenses -/

/-- LENS_MOVE, LENS_PRESET, LENS_HOME and LENS_HALT (R117, R119, R120): their checks in their order. A port beyond 7,
a preset beyond 7, a lens in no state to take the request, an owned lens and targets that the lens lacks are refused.
-/
def Obligations.LensRequestsAreChecked : Prop :=
  ∀ (s : State) (tag : Byte) (port : Nat) (a : Axes) (index : Nat), TargetsFit a → index < 256 → port < 256 →
    (7 < port →
      (Serves s 0x16 tag (num1 port ++ axesBytes a) → exec .lensMove s = .next (s.reply .outOfRange).transmit) ∧
      (Serves s 0x17 tag (num1 port ++ num1 index) → exec .lensPreset s = .next (s.reply .outOfRange).transmit) ∧
      (Serves s 0x19 tag (num1 port) → exec .lensHome s = .next (s.reply .outOfRange).transmit) ∧
      (Serves s 0x1A tag (num1 port) → exec .lensHalt s = .next (s.reply .outOfRange).transmit)) ∧
    (∀ p : Port, port = p.val →
      (7 < index → Serves s 0x17 tag (num1 port ++ num1 index) →
        exec .lensPreset s = .next (s.reply .outOfRange).transmit) ∧
      (s.lenses[p].state = .absent →
        (Serves s 0x19 tag (num1 port) → exec .lensHome s = .next (s.reply .wrongState).transmit) ∧
        (Serves s 0x1A tag (num1 port) → exec .lensHalt s = .next (s.reply .wrongState).transmit)) ∧
      (∀ status : Status,
        (((s.lenses[p].state = .absent ∨ s.lenses[p].state = .unknown ∨ s.lenses[p].state = .stalled ∨
            s.lenses[p].state = .fault) ∧ status = .wrongState) ∨
          ((s.lenses[p].state = .idle ∨ s.lenses[p].state = .moving ∨ s.lenses[p].state = .homing) ∧
            (s.seq.state = .armed ∨ s.seq.state = .running ∨ s.seq.state = .stopping) ∧
            (∃ k ∈ s.seq.slots, k.marks p = true ∧ k.preset ≠ none) ∧ status = .planOwnsLens)) →
        (Serves s 0x16 tag (num1 port ++ axesBytes a) → exec .lensMove s = .next (s.reply status).transmit) ∧
        (index ≤ 7 → Serves s 0x17 tag (num1 port ++ num1 index) →
          exec .lensPreset s = .next (s.reply status).transmit)) ∧
      ((s.lenses[p].state = .idle ∨ s.lenses[p].state = .moving ∨ s.lenses[p].state = .homing) →
        ¬ ((s.seq.state = .armed ∨ s.seq.state = .running ∨ s.seq.state = .stopping) ∧
          ∃ k ∈ s.seq.slots, k.marks p = true ∧ k.preset ≠ none) → ¬ TargetsAllowed s.settings.ports[p].lensKind a →
        Serves s 0x16 tag (num1 port ++ axesBytes a) → exec .lensMove s = .next (s.reply .outOfRange).transmit))

/-- A lens request taken (R117 to R119, R121, R124, R125): its targets cut to the axes' ranges, CLAMPED where one was;
in MOVING or HOMING it becomes the pending move, superseding one that is pending; at rest, with no plan in service,
its claim granted and its bus free, it begins at once: its SEEK or FIND_HOME goes out and it is in flight with its
estimate, its deadline and its first poll slot 10 ms later. With the plan in service (R68, R122, R123): at the close
of an exposure window the next slot's preset is posted as a plan move, unless it was posted at the cycle's start, and
a move that waits for the window is tested; a move that fits begins, as does one that has waited eight times, and one
that does not fit waits, its wait counted. At the start of a cycle the preset of the port's first slot is posted and
begins. A SEEK of an axis whose position is absent is not covered (its estimate is a free value,
notes/assumptions/13.md). That a plan move posted at the close of a window which does not fit counts one wait, and not
two, is the model's choice (notes/assumptions/31.md). The estimate of a move is the least whole number of ms in which each
of its axes covers its distance at its speed: for a HOME from its position, or over its whole range where that is absent
(R121). The next exposure start of a port is as the table of R67 gives it: absent with no plan in service or no slot that
marks the port, now while a trigger is held, the earliest slot of the current cycle still to be dispatched, or else, in
FREE_RUN and not STOPPING, the earliest slot after the next expiry. -/
def Obligations.LensMovesBeginOrPend : Prop :=
  (∀ (s : State) (tag : Byte) (p : Port) (c : Instr) (m : Move) (status : Status) (fields : List Byte),
    s.seq.state = .empty ∨ s.seq.state = .loaded →
    ((∃ a : Axes, TargetsFit a ∧ TargetsAllowed s.settings.ports[p].lensKind a ∧
        Serves s 0x16 tag (num1 p.val ++ axesBytes a) ∧ c = .lensMove ∧
        (s.lenses[p].state = .idle ∨ s.lenses[p].state = .moving ∨ s.lenses[p].state = .homing) ∧
        m = ⟨.seek, ⟨a.focus.map (min 4095), a.iris, a.zoom.map (min 4095)⟩, 0, .host, none⟩ ∧
        (m.targets = a → status = .ok ∧ fields = []) ∧
        (m.targets ≠ a → status = .clamped ∧ fields = axesBytes m.targets)) ∨
      (∃ (i : Fin 8) (e : PresetEntry), Serves s 0x17 tag (num1 p.val ++ num1 i.val) ∧ c = .lensPreset ∧
        (s.lenses[p].state = .idle ∨ s.lenses[p].state = .moving ∨ s.lenses[p].state = .homing) ∧
        e = s.settings.presets[p][i] ∧ status = .ok ∧ fields = [] ∧ m.kind = .seek ∧ m.settle = e.settle ∧
        m.origin = .host ∧ m.preset = some i ∧ m.targets.focus = some e.focus ∧
        (DrivesIris s.settings.ports[p].lensKind → m.targets.iris = e.iris) ∧
        (¬ DrivesIris s.settings.ports[p].lensKind → m.targets.iris = none) ∧
        (DrivesZoom s.settings.ports[p].lensKind → m.targets.zoom = e.zoom) ∧
        (¬ DrivesZoom s.settings.ports[p].lensKind → m.targets.zoom = none)) ∨
      (Serves s 0x19 tag (num1 p.val) ∧ c = .lensHome ∧ s.lenses[p].state ≠ .absent ∧ status = .ok ∧ fields = [] ∧
        m = ⟨.home, {}, 0, .host, none⟩)) →
    (s.lenses[p].state = .moving ∨ s.lenses[p].state = .homing →
      (s.lenses[p].pending = none →
        exec c s = .next (({ s with lenses := upd s.lenses p (fun l => { l with
          pending := some m, waits := 0 }) }).answer status fields).transmit) ∧
      (∀ old, s.lenses[p].pending = some old → s.lenses[p].toBegin = false →
        exec c s = .next ((({ s with lenses := upd s.lenses p (fun l => { l with
          pending := some m }) }).post (some p) (.lensState .superseded s.lenses[p].state s.lenses[p].position (some old)
            none)).answer status fields).transmit)) ∧
    (s.lenses[p].state ≠ .moving → s.lenses[p].state ≠ .homing → s.power[p].state = .on → LensFree s p → BusIdle s p →
      SurgeFits s p → s.lanes[p].exposure = none →
      (m.kind = .seek → (m.targets.focus ≠ none → s.lenses[p].position.focus ≠ none) ∧
        (m.targets.iris ≠ none → s.lenses[p].position.iris ≠ none) ∧
        (m.targets.zoom ≠ none → s.lenses[p].position.zoom ≠ none)) →
      ∀ (estimate : Nat) (deadline : Time),
      (m.kind = .seek →
        estimate = max (axisTime s.lenses[p].position.focus m.targets.focus s.settings.ports[p].focusSpeed)
          (max (axisTime s.lenses[p].position.iris m.targets.iris s.settings.ports[p].irisSpeed)
            (axisTime s.lenses[p].position.zoom m.targets.zoom s.settings.ports[p].zoomSpeed)) ∧
        deadline = s.clock + (ceilDiv (estimate * 3) 2 + 20) * 1000) →
      (m.kind = .home → estimate = s.estimate p m ∧ deadline = s.clock + 3000000) →
      exec c s = .next (({ s with lenses := upd s.lenses p (fun l => { l with
        state := if m.kind = MoveKind.seek then LensState.moving else LensState.homing
        waits := 0
        claim := .granted
        flight := some ⟨m, estimate, deadline, s.clock + 10000, false, none⟩
        counts := { l.counts with begun := sat32 l.counts.begun }
        bus := ⟨.hub, some ⟨.motion, 0, motionBytes m⟩, []⟩ }) }).answer status fields).transmit)) ∧
  (∀ (s u : State) (p : Port) (m : Move) (q : Plan) (c : Instr) (waits : Nat) (fits : Prop) (begun : Lens → Lens),
    s.seq.plan = some q → s.seq.marks p = true → s.sweeps.sweep = none → BusIdle s p → s.power[p].state = .on →
    s.lenses[p].state = .idle → s.lenses[p].flight = none → s.lenses[p].halt = none →
    s.lenses[p].claim = .granted ∨ (s.lenses[p].claim = .none ∧ SurgeFits s p) →
    (m.kind = .seek → (m.targets.focus ≠ none → s.lenses[p].position.focus ≠ none) ∧
      (m.targets.iris ≠ none → s.lenses[p].position.iris ≠ none) ∧
      (m.targets.zoom ≠ none → s.lenses[p].position.zoom ≠ none)) →
    (∀ l, begun l = { l with
      state := if m.kind = MoveKind.seek then LensState.moving else LensState.homing
      pending := none
      stage := .none
      toBegin := false
      waits := 0
      claim := .granted
      flight := some ⟨m, s.estimate p m, s.clock + moveDeadline m.kind (s.estimate p m), s.clock + 10000, false, none⟩
      counts := { l.counts with begun := sat32 l.counts.begun }
      bus := ⟨.hub, some ⟨.motion, 0, motionBytes m⟩, []⟩ }) →
    (∀ e : Exposure, c = .exposureWindowEnd p → s.lanes[p].exposure = some e → e.endAt ≤ s.clock →
      u = { s with lanes := upd s.lanes p (fun l => { l with exposure := none }) } →
      s.seq.state = .armed ∨ s.seq.state = .running ∨ s.seq.state = .stopping →
      (fits ↔ (q.mode = .lineTrigger ∧ s.seq.pending = none) ∨ (q.mode = .freeRun ∧
        ∀ at_, u.nextExposure p = some at_ → s.clock + (s.estimate p m + m.settle) * 1000 ≤ at_)) →
      (s.lenses[p].stage = .windowWait ∧ s.lenses[p].toBegin = false ∧ s.lenses[p].pending = some m ∧
          waits = s.lenses[p].waits ∧ (∀ k ∈ q.slots, k.preset = none)) ∨
        (LensFree s p ∧ waits = 0 ∧ ∃ (cycle : Cycle) (j : Nat) (k next : Slot) (i : Fin 8),
          s.seq.current = some cycle ∧ cycle.number = e.cycle ∧ q.slots.length ≤ 4 ∧ q.slots[e.slot.val]? = some k ∧
          q.slots[j]? = some next ∧ next.marks p = true ∧ k.offset < next.offset ∧ next.preset = some i ∧
          (∀ o ∈ q.slots, o.marks p = true → k.offset < o.offset → o = next ∨ next.offset < o.offset) ∧
          (∃ o ∈ q.slots, o.marks p = true ∧ o.preset ≠ none ∧ o.offset < next.offset) ∧
          s.lenses[p].position.focus ≠ some s.settings.presets[p][i].focus ∧ m = s.presetMove p i .plan) →
      (¬ fits → waits < 8 →
        exec c s = .next ({ u with lenses := upd s.lenses p (fun l => { l with
          pending := some m
          stage := .windowWait
          toBegin := false
          waits := waits + 1
          counts := { l.counts with waits := sat32 l.counts.waits } }) }).transmit) ∧
      (fits ∨ 8 ≤ waits → exec c s = .next ({ u with lenses := upd s.lenses p begun }).transmit)) ∧
    (∀ (edge : Edge) (first : Nat) (k : Slot) (i : Fin 8), c = .trigInEdge edge → q.mode = .lineTrigger →
      q.edge = some edge → s.seq.state = .armed → s.seq.pending = none → ¬ PlanQuiet s →
      s.seq.cycleCounter < 18446744073709551615 → s.lanes[p].exposure = none → LensFree s p → q.slots.length ≤ 4 →
      q.slots[first]? = some k → k.preset = some i → (∀ o : Port, k.marks o = true ↔ o = p) →
      (∀ j o, q.slots[j]? = some o → o.preset ≠ none → j = first) →
      s.lenses[p].position.focus ≠ some s.settings.presets[p][i].focus → m = s.presetMove p i .plan →
      exec c s = .next ({ s with
        seq := { s.seq with
          state := .running
          cycleCounter := s.seq.cycleCounter + 1
          current := some ⟨s.seq.cycleCounter, s.seq.cycleCounter % q.length, s.clock, false, [], []⟩
          pending := none
          nextExpiry := q.period.map (s.clock + ·)
          begun := sat32 s.seq.begun }
        lenses := upd s.lenses p begun }).transmit)) ∧
  (∀ (s : State) (p : Port) (m : Move) (f : PortProfile) (at_ : Axes) (axes : List (Nat × Nat)),
    f = s.settings.ports[p] → at_ = s.lenses[p].position → 1 ≤ f.focusSpeed → 1 ≤ f.irisSpeed → 1 ≤ f.zoomSpeed →
    (m.kind = .home ∧ ∀ a, a ∈ axes ↔ (f.lensKind ≠ .none ∧ a = (at_.focus.getD 4095, f.focusSpeed)) ∨
        (DrivesIris f.lensKind ∧ a = (at_.iris.getD 255, f.irisSpeed)) ∨
        (DrivesZoom f.lensKind ∧ a = (at_.zoom.getD 4095, f.zoomSpeed))) ∨
      (m.kind = .seek ∧ (m.targets.focus ≠ none → at_.focus ≠ none) ∧ (m.targets.iris ≠ none → at_.iris ≠ none) ∧
        (m.targets.zoom ≠ none → at_.zoom ≠ none) ∧
        ∀ a, a ∈ axes ↔
          (∃ x y, at_.focus = some x ∧ m.targets.focus = some y ∧ a = ((x - y) + (y - x), f.focusSpeed)) ∨
          (∃ x y, at_.iris = some x ∧ m.targets.iris = some y ∧ a = ((x - y) + (y - x), f.irisSpeed)) ∨
          (∃ x y, at_.zoom = some x ∧ m.targets.zoom = some y ∧ a = ((x - y) + (y - x), f.zoomSpeed))) →
    (∀ a ∈ axes, a.1 ≤ s.estimate p m * a.2) ∧
    (∀ n, (∀ a ∈ axes, a.1 ≤ n * a.2) → s.estimate p m ≤ n)) ∧
  (∀ (s : State) (p : Port),
    (s.seq.state = .empty ∨ s.seq.state = .loaded ∨ s.seq.plan = none → s.nextExposure p = none) ∧
    (∀ q, s.seq.plan = some q →
      ((∀ k ∈ q.slots, k.marks p = false) → s.nextExposure p = none) ∧
      ((∃ k ∈ q.slots, k.marks p = true) →
        s.seq.state = .armed ∨ s.seq.state = .running ∨ s.seq.state = .stopping →
        (∀ g, s.seq.pending = some g → g.held = true → s.nextExposure p = some s.clock) ∧
        ((∀ g, s.seq.pending = some g → g.held = false) →
          (∀ (c : Cycle) (j : Fin 4) (k : Slot), s.seq.current = some c → q.slots[j.val]? = some k → k.marks p = true →
            j ∉ c.dispatched →
            (∀ (i : Fin 4) (o : Slot), q.slots[i.val]? = some o → o.marks p = true → i ∉ c.dispatched →
              k.offset ≤ o.offset) →
            s.nextExposure p = some (c.start + k.offset)) ∧
          ((∀ c, s.seq.current = some c → ∀ (j : Fin 4) (k : Slot), q.slots[j.val]? = some k → k.marks p = true →
              j ∈ c.dispatched) →
            (q.mode = .lineTrigger ∨ s.seq.state = .stopping → s.nextExposure p = none) ∧
            (∀ (expiry : Time) (j : Fin 4) (k : Slot), q.mode = .freeRun → s.seq.state ≠ .stopping →
              s.seq.nextExpiry = some expiry → q.slots[j.val]? = some k → k.marks p = true →
              (∀ (i : Fin 4) (o : Slot), q.slots[i.val]? = some o → o.marks p = true → k.offset ≤ o.offset) →
              s.nextExposure p = some (expiry + k.offset)))))))

/-- LENS_HALT and the halt read (R120): at IDLE a halt read begins; in MOVING the move ends with a STOP and a halt
read, or with neither while it settles; HOMING ends UNKNOWN with a STOP; UNKNOWN, STALLED and FAULT have a STOP sent
while the port is ON; a halt read under way takes a second halt with nothing added, repeats its REPORT every 10 ms,
and past its deadline leaves the lens FAULT. That a second halt adds nothing and that polls of a halt read do not pile
up is the model's choice (notes/assumptions/33.md, 47.md), and so is that the STALL of the halt deadline is not counted
among the stalls (notes/assumptions/72.md) and that the 10 ms of the halt read's repeats count from the halt
(notes/assumptions/96.md). -/
def Obligations.HaltStopsTheLens : Prop :=
  ∀ (s : State) (tag : Byte) (p : Port) (stop report : List Byte), s.lenses[p].bus = ⟨.free, none, []⟩ →
    stop = [0x58, 0x33, 0x75] → report = [0x58, 0x34, 0x59] → s.supply.claims = [] → s.lenses[p].claim ≠ .standing →
    (Serves s 0x1A tag (num1 p.val) →
      (s.lenses[p].halt.isSome = true → s.lenses[p].state ≠ .absent →
        exec .lensHalt s = .next (s.reply .ok).transmit) ∧
      (s.lenses[p].halt = none →
        (s.lenses[p].state = .idle → s.lenses[p].flight = none →
          exec .lensHalt s = .next (({ s with lenses := upd s.lenses p (fun l => { l with
            pending := none
            stage := .none
            toBegin := false
            waits := 0
            halt := some ⟨none, s.clock + 100000, s.clock + 10000⟩
            bus := ⟨.hub, some ⟨.haltRead, 0, report⟩, []⟩ }) }).reply .ok).transmit) ∧
        (∀ f, s.lenses[p].state = .moving → s.lenses[p].flight = some f →
          (f.settleEndAt = none →
            exec .lensHalt s = .next (({ s with lenses := upd s.lenses p (fun l => { l with
              pending := none
              stage := .none
              toBegin := false
              waits := 0
              flight := none
              halt := some ⟨some f.move, s.clock + 100000, s.clock + 10000⟩
              bus := ⟨.hub, some ⟨.stop, 0, stop⟩, [⟨.haltRead, 0, report⟩]⟩ }) }).reply .ok).transmit) ∧
          (f.settleEndAt ≠ none →
            exec .lensHalt s = .next ((({ s with lenses := upd s.lenses p (fun l => { l with
              state := .idle
              pending := none
              stage := .none
              toBegin := false
              waits := 0
              claim := .none
              flight := none }) }).post (some p)
              (.lensState .halted .idle s.lenses[p].position (some f.move) none)).reply .ok).transmit)) ∧
        (∀ f, s.lenses[p].state = .homing → s.lenses[p].flight = some f →
          exec .lensHalt s = .next ((({ s with lenses := upd s.lenses p (fun l => { l with
            state := .unknown
            position := {}
            pending := none
            stage := .none
            toBegin := false
            waits := 0
            claim := .none
            flight := none
            bus := ⟨.hub, some ⟨.stop, 0, stop⟩, []⟩ }) }).post (some p)
            (.lensState .halted .unknown {} (some f.move) none)).reply .ok).transmit) ∧
        (s.lenses[p].state = .unknown ∨ s.lenses[p].state = .stalled ∨ s.lenses[p].state = .fault →
          s.power[p].state = .on →
          exec .lensHalt s = .next ((({ s with lenses := upd s.lenses p (fun l => { l with
            pending := none
            stage := .none
            toBegin := false
            waits := 0
            claim := .none
            bus := ⟨.hub, some ⟨.stop, 0, stop⟩, []⟩ }) }).post (some p)
            (.lensState .halted s.lenses[p].state s.lenses[p].position none none)).reply .ok).transmit))) ∧
    (∀ h, s.lenses[p].halt = some h →
      (h.nextPoll ≤ s.clock → s.clock < h.deadline →
        exec (.haltReadPoll p) s = .next ({ s with lenses := upd s.lenses p (fun l => { l with
          halt := some { h with nextPoll := h.nextPoll + 10000 }
          bus := ⟨.hub, some ⟨.haltRead, 0, report⟩, []⟩ }) }).transmit) ∧
      (h.deadline ≤ s.clock → s.lenses[p].pending = none →
        exec (.haltDeadline p) s = .next (({ s with lenses := upd s.lenses p (fun l => { l with
          state := .fault
          position := {}
          claim := .none
          flight := none
          halt := none
          lastFault := some .stall }) }).post (some p)
          (.lensState .halted .fault {} h.move (some .stall))).transmit))

/-- The move in flight (R126 to R128): each poll slot, every 10 ms, makes a REPORT on a free bus, or the retry of a
SEEK or FIND_HOME not acknowledged yet, and is passed over with the bus taken; the end of the settle time ends the
move DONE and IDLE; its deadline sends a STOP and leaves the lens STALLED, a pending SEEK being CANCELLED. That a slot
that finds the bus taken is passed over is the model's choice (notes/assumptions/47.md), and so is what the stalls count
counts (notes/assumptions/72.md). -/
def Obligations.FlightIsPolledToItsEnd : Prop :=
  ∀ (s : State) (p : Port) (f : Flight), s.lenses[p].flight = some f → s.lenses[p].halt = none →
    s.supply.claims = [] → s.lenses[p].claim ≠ .standing →
    (f.settleEndAt = none →
      (f.nextPoll ≤ s.clock →
        (s.lenses[p].bus.state ≠ .free →
          exec (.pollSlot p) s = .next ({ s with lenses := upd s.lenses p (fun l => { l with
            flight := some { f with nextPoll := f.nextPoll + 10000 } }) }).transmit) ∧
        (BusIdle s p → s.lanes[p].exposure = none → ∀ txn : Txn,
          (f.acked = true → txn = ⟨.poll, 0, [0x58, 0x34, 0x59]⟩) →
          (f.acked = false → txn = ⟨.motion, 0, motionBytes f.move⟩) →
          exec (.pollSlot p) s = .next ({ s with lenses := upd s.lenses p (fun l => { l with
            flight := some { f with nextPoll := f.nextPoll + 10000 }
            bus := ⟨.hub, some txn, []⟩ }) }).transmit)) ∧
      (f.deadline ≤ s.clock → BusIdle s p → ∀ stalled : State,
        stalled = ({ s with lenses := upd s.lenses p (fun l => { l with
          state := .stalled
          position := {}
          pending := none
          stage := if l.pending.isSome then StartStage.none else l.stage
          toBegin := if l.pending.isSome then false else l.toBegin
          waits := if l.pending.isSome then 0 else l.waits
          claim := .none
          flight := none
          lastFault := some .stall
          counts := { l.counts with stalls := sat32 l.counts.stalls }
          bus := ⟨.hub, some ⟨.stop, 0, [0x58, 0x33, 0x75]⟩, []⟩ }) }).post (some p)
          (.lensState .stalled .stalled {} (some f.move) (some .stall)) →
        (s.lenses[p].pending = none → exec (.moveDeadline p) s = .next stalled.transmit) ∧
        (∀ m, s.lenses[p].pending = some m → m.kind = .seek →
          exec (.moveDeadline p) s = .next (stalled.post (some p)
            (.lensState .cancelled .stalled {} (some m) none)).transmit))) ∧
    (∀ at_, f.settleEndAt = some at_ → at_ ≤ s.clock → s.lenses[p].pending = none → s.lenses[p].bus.waiting = [] →
      exec (.settleEnd p) s = .next (({ s with lenses := upd s.lenses p (fun l => { l with
        state := .idle
        claim := .none
        flight := none
        counts := { l.counts with done := sat32 l.counts.done } }) }).post (some p)
        (.lensState .done .idle s.lenses[p].position (some f.move) none)).transmit)

/-- The end of a hub transaction (R126, R128, R129), with nothing waiting for the bus, which it frees: an acknowledge;
NO_ANSWER counted, and at the third in a row FAULT with LENS_SILENT evidence where a move is in flight or a halt read
under way, told as HALTED in a halt read; a SEEK or FIND_HOME rejected; a REPORT not settled, one whose check fails,
one that settles a move, begins its settle time, ends a home at 0 or ends a halt read. That a HALTED notice carries
the ended move is the model's reading (notes/assumptions/33.md), and so is what a NO_ANSWER does whose move has ended
(notes/assumptions/36.md). That LENS_STATE is posted before the BREAK notice of the LENS_SILENT evidence is the model's
choice (notes/assumptions/65.md), and so is that a REPORT of which the first address byte alone is acknowledged counts as
any NO_ANSWER (notes/assumptions/97.md). -/
def Obligations.TransactionOutcomesActOnLens : Prop :=
  ∀ (s : State) (p : Port) (k : TxnKind) (losses : Nat) (sent bytes : List Byte),
    s.lenses[p].bus = ⟨.hub, some ⟨k, losses, sent⟩, []⟩ → s.lenses[p].toBegin = false → s.lenses[p].pending = none →
    s.supply.claims = [] → s.lenses[p].claim ≠ .standing →
    (k = .motion → exec (.sidebandTransactionEnd p .ack) s = .next (lensFreed s p (fun l => { l with
      noAnswer := 0, flight := l.flight.map (fun (f : Flight) => { f with acked := true }) })).transmit) ∧
    (k ≠ .motion → exec (.sidebandTransactionEnd p .ack) s = .next (lensFreed s p (fun l => { l with
      noAnswer := 0 })).transmit) ∧
    (k ≠ .stop → s.lenses[p].noAnswer < 2 →
      exec (.sidebandTransactionEnd p .noAnswer) s = .next (lensFreed s p (fun l => { l with
        noAnswer := l.noAnswer + 1
        counts := { l.counts with noAnswers := sat32 l.counts.noAnswers } })).transmit) ∧
    (k = .stop → exec (.sidebandTransactionEnd p .noAnswer) s = .next (lensFreed s p (fun l => { l with
      counts := { l.counts with noAnswers := sat32 l.counts.noAnswers } })).transmit) ∧
    (k ≠ .stop → 2 ≤ s.lenses[p].noAnswer → s.lenses[p].halt = none → s.lenses[p].flight = none →
      exec (.sidebandTransactionEnd p .noAnswer) s = .next (lensFreed s p (fun l => { l with
        noAnswer := 0
        counts := { l.counts with noAnswers := sat32 l.counts.noAnswers } })).transmit) ∧
    (∀ (event : LensEvent) (move : Option Move), k ≠ .stop → 2 ≤ s.lenses[p].noAnswer →
      (∃ f, s.lenses[p].halt = none ∧ s.lenses[p].flight = some f ∧ event = .fault ∧ move = some f.move) ∨
        (∃ h, s.lenses[p].halt = some h ∧ event = .halted ∧ move = h.move) →
      exec (.sidebandTransactionEnd p .noAnswer) s = .next ((((lensFreed s p (fun l => { l with
        state := .fault
        position := {}
        claim := .none
        flight := none
        halt := none
        noAnswer := 0
        lastFault := some .noAnswer
        counts := { l.counts with noAnswers := sat32 l.counts.noAnswers } })).post (some p)
        (.lensState event .fault {} move (some .noAnswer))).submitEvidence p .lensSilent .suspect).1).transmit) ∧
    (∀ (f : Flight) (rest : LensState), k = .motion → s.lenses[p].flight = some f →
      (f.move.kind = .seek ∨ s.lenses[p].position ≠ {} → rest = .idle) →
      (f.move.kind = .home → s.lenses[p].position = {} → rest = .unknown) →
      exec (.sidebandTransactionEnd p .rejected) s = .next ((lensFreed s p (fun l => { l with
        state := rest
        claim := .none
        flight := none
        halt := none
        noAnswer := 0
        lastFault := some .rejected
        counts := { l.counts with rejections := sat32 l.counts.rejections } })).post (some p)
        (.lensState .rejected rest s.lenses[p].position (some f.move) (some .rejected))).transmit) ∧
    (bytes.length ≠ 8 ∨ bytes.foldl (· + ·) 0 ≠ 0 →
      exec (.sidebandTransactionEnd p (.report bytes)) s = .next (lensFreed s p (fun l => { l with
        noAnswer := 0
        counts := { l.counts with reportErrors := sat32 l.counts.reportErrors } })).transmit) ∧
    (GoodReport bytes → (bytes.headD 0).getLsbD 0 = false →
      exec (.sidebandTransactionEnd p (.report bytes)) s = .next (lensFreed s p (fun l => { l with
        noAnswer := 0 })).transmit) ∧
    (GoodReport bytes → (bytes.headD 0).getLsbD 0 = true → ∀ at_ : Axes,
      at_ = reportPositions s.settings.ports[p].lensKind bytes →
      (∀ f : Flight, k = .poll → s.lenses[p].flight = some f → f.settleEndAt = none →
        (f.move.kind = .seek → 0 < f.move.settle →
          exec (.sidebandTransactionEnd p (.report bytes)) s = .next (lensFreed s p (fun l => { l with
            noAnswer := 0
            position := at_
            flight := some { f with settleEndAt := some (s.clock + f.move.settle * 1000) } })).transmit) ∧
        (∀ position : Axes, (f.move.kind = .seek ∧ f.move.settle = 0 ∧ position = at_) ∨
            (f.move.kind = .home ∧ position = ⟨at_.focus.map (fun _ => 0), at_.iris.map (fun _ => 0),
              at_.zoom.map (fun _ => 0)⟩) →
          exec (.sidebandTransactionEnd p (.report bytes)) s = .next ((lensFreed s p (fun l => { l with
            state := .idle
            position := position
            claim := .none
            flight := none
            halt := none
            noAnswer := 0
            counts := { l.counts with done := sat32 l.counts.done } })).post (some p)
            (.lensState .done .idle position (some f.move) none)).transmit)) ∧
      (∀ h : HaltRead, k = .haltRead → s.lenses[p].halt = some h →
        exec (.sidebandTransactionEnd p (.report bytes)) s = .next ((lensFreed s p (fun l => { l with
          state := .idle
          position := at_
          claim := .none
          flight := none
          halt := none
          noAnswer := 0 })).post (some p) (.lensState .halted .idle at_ h.move none)).transmit))

/-- The sideband bus (R125, R127, R128, R130 to R132): the head begins a message on a free bus and frees it at its
end; a hang puts the bus in RECOVERY and leaves the lens FAULT, but ABSENT as it was, and STALLED where the STOP of a
stall hung; an address byte acknowledged before it has set the consecutive NO_ANSWER count to 0. The end of
the recovery frees the bus; a transaction that loses the bus to the head is tried again up to three times; a head
message of the hub is counted and told, an unknown one discarded, LIMIT stalling a move in flight before it settles
and OVERHEAT leaving a lens that is not ABSENT FAULT with a STOP. The order of HEAD_EVENT and LENS_STATE is the
model's choice (notes/assumptions/34.md), that a HEAD_START on a bus not free changes nothing is too
(notes/assumptions/6.md), and so are the reading of a STOP that hangs (notes/assumptions/61.md), the operand of
BUS_TIMEOUT (notes/assumptions/62.md), the retry of a transaction whose move has ended (notes/assumptions/71.md),
what the stalls count counts (notes/assumptions/72.md) and that a message discarded is no head message counted
(notes/assumptions/88.md). -/
def Obligations.SidebandBusChangesHands : Prop :=
  ∀ (s : State) (p : Port) (bytes : List Byte), s.lenses[p].toBegin = false → s.lenses[p].pending = none →
    s.supply.claims = [] → s.lenses[p].claim ≠ .standing → s.lenses[p].halt = none →
    (s.lenses[p].bus.state = .free → exec (.headStart p) s = .next ({ s with lenses := upd s.lenses p (fun l => { l with
      bus := { l.bus with state := .head } }) }).transmit) ∧
    (s.lenses[p].bus.state ≠ .free → exec (.headStart p) s = .next s) ∧
    (s.lenses[p].bus.state = .recovery → s.lenses[p].bus.waiting = [] →
      exec (.busRecoveryEnd p) s = .next ({ s with lenses := upd s.lenses p (fun l => { l with
        bus := ⟨.free, none, []⟩ }) }).transmit) ∧
    (s.lenses[p].bus.state = .free ∨ s.lenses[p].bus.state = .hub ∨ s.lenses[p].bus.state = .head →
      ∀ (acked : Bool) (count : Nat),
        count = (if acked = true ∧ s.lenses[p].bus.state = .hub then 0 else s.lenses[p].noAnswer) →
        (s.lenses[p].state = .absent ∨ s.lenses[p].state = .fault ∨ (s.lenses[p].state = .stalled ∧
            s.lenses[p].bus.state = .hub ∧ ∃ t, s.lenses[p].bus.txn = some t ∧ t.kind = .stop) →
          exec (.busTimeout ⟨p, acked⟩) s = .next ({ s with
            lenses := upd s.lenses p (fun l => { l with
              noAnswer := count
              counts := { l.counts with busTimeouts := sat32 l.counts.busTimeouts }
              bus := { l.bus with state := .recovery, txn := none } }) }).transmit) ∧
        (s.lenses[p].state = .unknown ∨ s.lenses[p].state = .idle ∨ s.lenses[p].state = .moving ∨
            s.lenses[p].state = .homing ∨ (s.lenses[p].state = .stalled ∧
              (s.lenses[p].bus.state ≠ .hub ∨ ∀ t, s.lenses[p].bus.txn = some t → t.kind ≠ .stop)) →
          s.lenses[p].bus.waiting = [] →
          exec (.busTimeout ⟨p, acked⟩) s = .next (({ s with
            lenses := upd s.lenses p (fun l => { l with
              state := .fault
              position := {}
              claim := .none
              flight := none
              noAnswer := count
              lastFault := some .busTimeout
              counts := { l.counts with busTimeouts := sat32 l.counts.busTimeouts }
              bus := ⟨.recovery, none, []⟩ }) }).post (some p) (.lensState .fault .fault {}
              (s.lenses[p].flight.map (fun (f : Flight) => f.move)) (some .busTimeout))).transmit)) ∧
    (∀ t : Txn, s.lenses[p].bus = ⟨.hub, some t, []⟩ →
      (t.losses < 3 → exec (.arbitrationLost p) s = .next ({ s with lenses := upd s.lenses p (fun l => { l with
        counts := { l.counts with arbLosses := sat32 l.counts.arbLosses }
        bus := ⟨.head, none, [{ t with losses := t.losses + 1 }]⟩ }) }).transmit) ∧
      (∀ f : Flight, 3 ≤ t.losses → t.kind = .motion → s.lenses[p].flight = some f → f.move.kind = .seek →
        exec (.arbitrationLost p) s = .next (({ s with lenses := upd s.lenses p (fun l => { l with
          state := .idle
          claim := .none
          flight := none
          lastFault := some .arbLimit
          counts := { l.counts with arbLosses := sat32 l.counts.arbLosses }
          bus := ⟨.head, none, []⟩ }) }).post (some p)
          (.lensState .failed .idle s.lenses[p].position (some f.move) (some .arbLimit))).transmit)) ∧
    (s.lenses[p].bus.state = .head → s.lenses[p].bus.waiting = [] →
      (bytes.headD 0 ≠ 0x20 → exec (.headMessage p bytes) s = .next ({ s with lenses := upd s.lenses p (fun l => { l with
        bus := ⟨.free, none, []⟩ }) }).transmit) ∧
      (bytes.headD 0 = 0x20 → bytes.foldl (· + ·) 0 ≠ 0 →
        exec (.headMessage p bytes) s = .next ({ s with lenses := upd s.lenses p (fun l => { l with
          counts := { l.counts with headErrors := sat32 l.counts.headErrors }
          bus := ⟨.free, none, []⟩ }) }).transmit) ∧
      (∀ command check : Byte, command ≠ 0x41 → command ≠ 0x42 → bytes = [0x20, command, check] →
        exec (.headMessage p bytes) s = .next ({ s with lenses := upd s.lenses p (fun l => { l with
          counts := { l.counts with headErrors := sat32 l.counts.headErrors }
          bus := ⟨.free, none, []⟩ }) }).transmit) ∧
      (∀ axis check : Byte, bytes = [0x20, 0x41, axis, check] → bytes.foldl (· + ·) 0 = 0 →
        (s.lenses[p].flight = none ∨ (∃ f, s.lenses[p].flight = some f ∧ f.settleEndAt ≠ none) →
          exec (.headMessage p bytes) s = .next (({ s with lenses := upd s.lenses p (fun l => { l with
            counts := { l.counts with headMessages := sat32 l.counts.headMessages }
            bus := ⟨.free, none, []⟩ }) }).post (some p) (.headEvent (.limit axis) s.lenses[p].state)).transmit) ∧
        (∀ f : Flight, InFlight s p f →
          exec (.headMessage p bytes) s = .next ((({ s with lenses := upd s.lenses p (fun l => { l with
            state := .stalled
            position := {}
            claim := .none
            flight := none
            lastFault := some .limit
            counts := { l.counts with
              headMessages := sat32 l.counts.headMessages, stalls := sat32 l.counts.stalls }
            bus := ⟨.free, none, []⟩ }) }).post (some p) (.headEvent (.limit axis) .stalled)).post (some p)
            (.lensState .stalled .stalled {} (some f.move) (some .limit))).transmit)) ∧
      (∀ check : Byte, bytes = [0x20, 0x42, check] → bytes.foldl (· + ·) 0 = 0 →
        s.lenses[p].state = .absent ∨ s.lenses[p].state = .fault →
        exec (.headMessage p bytes) s = .next (({ s with lenses := upd s.lenses p (fun l => { l with
          counts := { l.counts with headMessages := sat32 l.counts.headMessages }
          bus := ⟨.free, none, []⟩ }) }).post (some p) (.headEvent .overheat s.lenses[p].state)).transmit) ∧
      (∀ check : Byte, bytes = [0x20, 0x42, check] → bytes.foldl (· + ·) 0 = 0 → s.lenses[p].state ≠ .absent →
        s.lenses[p].state ≠ .fault →
        exec (.headMessage p bytes) s = .next ((({ s with lenses := upd s.lenses p (fun l => { l with
          state := .fault
          position := {}
          claim := .none
          flight := none
          lastFault := some .overheat
          counts := { l.counts with headMessages := sat32 l.counts.headMessages }
          bus := ⟨.hub, some ⟨.stop, 0, [0x58, 0x33, 0x75]⟩, []⟩ }) }).post (some p)
          (.headEvent .overheat .fault)).post (some p) (.lensState .fault .fault {}
            (s.lenses[p].flight.map (fun (f : Flight) => f.move)) (some .overheat))).transmit))

/-! ## Settings requests, and chapter 7: evidence and the break table -/

/-- The requests that replace settings, each with its ranges (R28, R74, R116, R136, R138): SET_SUPPLY_POLICY,
SIGNAL_CONFIG, LENS_PRESET_SET, EVIDENCE_CONFIG and MOTION_SEGMENT change the settings they name and nothing else but
the link that carries the reply; a value out of its range changes nothing. -/
def Obligations.SettingsRequestsReplace : Prop :=
  ∀ (s : State) (tag : Byte) (a b n : Nat), a < 256 → b < 256 → n < 65536 →
    (Serves s 0x06 tag (num1 a ++ num1 b) →
      (a ≤ 4 → b ≤ 1 →
        exec .setSupplyPolicy s = .next (({ s with settings := { s.settings with
          keepLevel := a, policy := if b = 0 then .auto else .latched } }).reply .ok).transmit) ∧
      (4 < a ∨ 1 < b → exec .setSupplyPolicy s = .next (s.reply .outOfRange).transmit)) ∧
    (Serves s 0x10 tag (num1 a ++ num1 b) →
      (∀ f g : SignalFunction,
        (a = 0 ∧ f = .low ∨ a = 1 ∧ f = .cycleActive ∨ a = 2 ∧ f = .exposing ∨ a = 3 ∧ f = .breakConfirmed ∨
          a = 4 ∧ f = .supplyLow) →
        (b = 0 ∧ g = .low ∨ b = 1 ∧ g = .cycleActive ∨ b = 2 ∧ g = .exposing ∨ b = 3 ∧ g = .breakConfirmed ∨
          b = 4 ∧ g = .supplyLow) →
        exec .signalConfig s = .next (({ s with settings := { s.settings with
          signalA := f, signalB := g } }).reply .ok).transmit) ∧
      (4 < a ∨ 4 < b → exec .signalConfig s = .next (s.reply .outOfRange).transmit)) ∧
    (∀ e : PresetEntry, e.focus < 65536 → (∀ k, e.iris = some k → k < 256) → (∀ k, e.zoom = some k → k < 65536) →
      e.settle < 65536 →
      Serves s 0x18 tag (num1 a ++ num1 b ++ num2 e.focus ++ optNum 1 e.iris ++ optNum 2 e.zoom ++ num2 e.settle) →
      (∀ (p : Port) (i : Fin 8), a = p.val → b = i.val → e.focus ≤ 4095 → (∀ k, e.zoom = some k → k ≤ 4095) →
        e.settle ≤ 500 →
        exec .lensPresetSet s = .next (({ s with settings := { s.settings with
          presets := upd s.settings.presets p (fun t => upd t i (fun _ => e)) } }).reply .ok).transmit) ∧
      (7 < a ∨ 7 < b ∨ 4095 < e.focus ∨ (∃ k, e.zoom = some k ∧ 4095 < k) ∨ 500 < e.settle →
        exec .lensPresetSet s = .next (s.reply .outOfRange).transmit)) ∧
    (Serves s 0x1D tag (num1 a ++ num2 n ++ num1 b) →
      (1 ≤ a → a ≤ 60 → 1 ≤ n → 1 ≤ b → b ≤ 8 →
        exec .evidenceConfig s = .next (({ s with settings := { s.settings with
          windowSeconds := a, suspectThreshold := n, confirmWindows := b } }).reply .ok).transmit) ∧
      (a = 0 ∨ 60 < a ∨ n = 0 ∨ b = 0 ∨ 8 < b → exec .evidenceConfig s = .next (s.reply .outOfRange).transmit)) ∧
    (Serves s 0x1C tag (num1 a) →
      (∀ g : Segment, (a = 255 ∧ g = none ∨ ∃ k : Fin 16, a = k.val ∧ g = some k) →
        s.monitor.segment = g ∨ s.sweeps.sweep = none →
        exec .motionSegment s = .next (({ s with monitor := { s.monitor with segment := g } }).reply .ok).transmit) ∧
      (16 ≤ a → a ≠ 255 → exec .motionSegment s = .next (s.reply .outOfRange).transmit))

/-- BREAK_CLEAR (R151, R149): the records that the target names, by id, by port or ALL, become CLEARED and keep all else,
each that was not CLEARED before told by a BREAK notice in table order, and the reply carries their number; each port with
a DATA_ERRORS record among those cleared begins its two counts again; nothing else changes. A target that names nothing is
refused. That the 2 target bytes of ALL are not read is the model's choice (notes/assumptions/83.md). -/
def Obligations.BreakClearClearsItsTargets : Prop :=
  ∀ (s : State) (tag : Byte) (kind target : Nat) (named : BreakRecord → Bool) (cleared : List BreakRecord),
    kind < 256 → target < 65536 → Serves s 0x1F tag (num1 kind ++ num2 target) →
    cleared = s.table.records.filter (fun r => named r && r.state != .cleared) →
    ((kind = 0 ∧ (∃ r ∈ s.table.records, r.id = target) ∧ (∀ r, named r = decide (r.id = target))) ∨
        (kind = 1 ∧ target ≤ 7 ∧ (∀ r, named r = decide (r.port.val = target))) ∨ (kind = 2 ∧ (∀ r, named r = true)) →
      ∃ ports : Vector Evidence 8,
        exec .breakClear s = .next ((cleared.foldl (fun (u : State) r => u.post (some r.port)
            (.breakRecord .cleared { r with state := .cleared } none)) { s with
          table := { s.table with records := s.table.records.map (fun r =>
            if named r then { r with state := .cleared } else r) }
          monitor := { s.monitor with ports := ports } }).answer .ok (num1 cleared.length)).transmit ∧
        (∀ p : Port,
          ((∃ r ∈ cleared, r.port = p ∧ r.kind = .dataErrors) →
            ports[p] = { s.monitor.ports[p] with above := 0, quiet := 0 }) ∧
          ((∀ r ∈ cleared, r.port = p → r.kind ≠ .dataErrors) → ports[p] = s.monitor.ports[p]))) ∧
    (kind = 0 → (∀ r ∈ s.table.records, r.id ≠ target) → exec .breakClear s = .next (s.reply .notFound).transmit) ∧
    (kind = 1 → 7 < target → exec .breakClear s = .next (s.reply .outOfRange).transmit) ∧
    (2 < kind → exec .breakClear s = .next (s.reply .outOfRange).transmit)

/-- The window close (R138 to R142): each port at or above the suspect threshold has its above-count raised and its
quiet-count at 0, and holds a DATA_ERRORS record where the table has room: CONFIRMED once the above-count reaches N,
and with the segments of its two largest bins as its mask where they hold three quarters of the errors. A port whose
record was created so, with auto-sweep set and a cable record, has a FAULT sweep on the queue unless it had one. Every
other port has its above-count at 0 and its quiet-count raised, and its SUSPECT DATA_ERRORS record is CLEARED at the
sixth quiet window in a row. Every port's window count and bins begin again, and a window of W seconds begins now.
That a close which is not due changes nothing is the model's choice (notes/assumptions/6.md). -/
def Obligations.WindowCloseJudgesThePorts : Prop :=
  ∀ s : State,
    (s.clock < s.monitor.windowEnd → exec .evidenceWindowClose s = .next s) ∧
    (s.monitor.windowEnd ≤ s.clock →
      ∃ t, exec .evidenceWindowClose s = .next t ∧
        (∀ p : Port,
          (s.settings.suspectThreshold ≤ s.monitor.ports[p].errors →
            t.monitor.ports[p] = { s.monitor.ports[p] with
              errors := 0
              bins := Vector.replicate 17 0
              above := min 255 (s.monitor.ports[p].above + 1)
              quiet := 0 } ∧
            (s.table.records.length ≤ 24 → ∀ (g h : Fin 16) (at_ : Fin 16 → Nat),
              (∀ k, at_ k = s.monitor.ports[p].bins[k.val]) → g ≠ h →
              (∀ k, at_ k < at_ g ∨ (at_ k = at_ g ∧ g ≤ k)) →
              (∀ k, k ≠ g → at_ k < at_ h ∨ (at_ k = at_ h ∧ h ≤ k)) →
              (∃ r ∈ t.table.records, r.port = p ∧ r.kind = .dataErrors ∧ r.state ≠ .cleared ∧ r.lastSeen = s.clock ∧
                (s.settings.confirmWindows ≤ min 255 (s.monitor.ports[p].above + 1) → r.state = .confirmed) ∧
                (s.monitor.ports[p].errors * 3 ≤ (at_ g + at_ h) * 4 →
                  ∃ mask, r.mask = some mask ∧ ∀ k, k ∈ mask ↔ (k = g ∨ k = h) ∧ 0 < at_ k) ∧
                ((at_ g + at_ h) * 4 < s.monitor.ports[p].errors * 3 → r.mask = none)) ∧
              ((∀ r ∈ s.table.records, r.port = p → r.kind = .dataErrors → r.state = .cleared) →
                s.settings.ports[p].autoSweep = true → s.settings.cables[p].isSet = true →
                (∀ q ∈ s.sweeps.queue, q.port ≠ p) → (∀ w, s.sweeps.sweep = some w → w.entry.port ≠ p) →
                ∃ n segment, (⟨p, .fault, 16, .half, segment, 10, n, .auto⟩ ∈ t.sweeps.queue ∨
                    ∃ w, t.sweeps.sweep = some w ∧ w.entry = ⟨p, .fault, 16, .half, segment, 10, n, .auto⟩) ∧
                  (s.monitor.ports[p].errors * 3 ≤ (at_ g + at_ h) * 4 → segment = some g) ∧
                  ((at_ g + at_ h) * 4 < s.monitor.ports[p].errors * 3 → segment = none)))) ∧
          (s.monitor.ports[p].errors < s.settings.suspectThreshold →
            t.monitor.ports[p] = { s.monitor.ports[p] with
              errors := 0
              bins := Vector.replicate 17 0
              above := 0
              quiet := min 255 (s.monitor.ports[p].quiet + 1) } ∧
            (s.table.records.length ≤ 24 → RecordsApart s →
              ∀ r ∈ s.table.records, r.port = p → r.kind = .dataErrors →
                (r.state = .suspect → 5 ≤ s.monitor.ports[p].quiet →
                  { r with state := .cleared } ∈ t.table.records) ∧
                (r.state = .confirmed ∨ s.monitor.ports[p].quiet < 5 → r ∈ t.table.records)))) ∧
        ((∀ p : Port, s.settings.ports[p].autoSweep = false) → t.sweeps = s.sweeps) ∧
        t.monitor.windowStart = s.clock ∧ t.monitor.windowEnd = s.clock + s.settings.windowSeconds * 1000000 ∧
        t.monitor.segment = s.monitor.segment ∧ t.settings = s.settings ∧ t.clock = s.clock ∧ t.power = s.power ∧
        t.supply = s.supply ∧ t.lanes = s.lanes ∧ t.seq = s.seq ∧ t.store = s.store ∧ t.dram = s.dram ∧
        t.uplink = s.uplink ∧ t.lenses = s.lenses ∧ t.profile = s.profile)

/-- Evidence (R137, R144 to R149): a data error counts in the window count and the bin of the segment current, or in
the saturated errors. Evidence that meets no record that stands creates one under the next id that names no record,
counted on from the next-id counter with its wrap, in place of the oldest CLEARED one in a full table, whose id no
record then names as located-by, or is dropped and counted; evidence that meets one merges into it,
confirming it where it says so. Evidence of a kind meets the record of its port and kind; a FAULT reflection meets the
first REFLECTION record of its port within 20 cm, which keeps its place and takes the latest. A locate confirms the
port's SUSPECT DATA_ERRORS and POWER_OPEN records and has them name the record located, each told in table order, which
is the model's choice of order (notes/assumptions/82.md). -/
def Obligations.EvidenceMergesOrCreates : Prop :=
  ∀ (s : State) (p : Port) (k : BreakKind) (st : BreakState) (id : Nat) (e : Evidence) (g : Segment)
      (location sweep : Nat) (polarity : Polarity),
    (e.errors < 4294967295 → (e.addError g).errors = e.errors + 1 ∧
      (∀ i : Fin 17, (e.addError g).bins[i] = e.bins[i] +
        (if i.val = (g.map (fun (n : Fin 16) => n.val)).getD 16 then 1 else 0)) ∧
      (e.addError g).saturated = e.saturated) ∧
    (4294967295 ≤ e.errors → e.addError g = { e with saturated := min 4294967295 (e.saturated + 1) }) ∧
    (∀ (submit : State × Submitted) (meets : BreakRecord → Prop) (fresh : BreakRecord),
      (submit = s.submitEvidence p k st ∧ (∀ r, meets r ↔ r.port = p ∧ r.kind = k ∧ r.state ≠ .cleared) ∧
          fresh = ⟨id, p, k, st, none, none, 1, s.clock, s.clock, none⟩) ∨
        (submit = s.submitReflection p location polarity st sweep g ∧
          (∀ r, meets r ↔ r.port = p ∧ r.kind = .reflection ∧ r.state ≠ .cleared ∧
            ∃ f, r.reflection = some f ∧ f.location ≤ location + 20 ∧ location ≤ f.location + 20) ∧
          fresh = ⟨id, p, .reflection, st, g.map (fun n => [n]), some ⟨location, polarity, location, sweep⟩, 1, s.clock,
            s.clock, none⟩) →
      (∀ (kept : List BreakRecord) (ids : Nat → Nat) (n : Nat), (∀ r ∈ s.table.records, ¬ meets r) →
        ids 0 = s.table.nextId → (∀ j, ids (j + 1) = if 65535 ≤ ids j then 1 else ids j + 1) → id = ids n →
        n ≤ kept.length → (∀ j, j < n → ∃ r ∈ kept, r.id = ids j) → (∀ r ∈ kept, r.id ≠ id) →
        (s.table.records.length < 32 → kept = s.table.records →
          submit = (({ s with table := { s.table with
            records := kept ++ [fresh]
            nextId := if 65535 ≤ id then 1 else id + 1 } }).post (some p) (.breakRecord .created fresh none),
            .created id)) ∧
        (32 ≤ s.table.records.length →
          ((∀ r ∈ s.table.records, r.state ≠ .cleared) →
            submit = (({ s with table := { s.table with
              unrecorded := upd s.table.unrecorded p sat32 } }).post (some p)
              (.breakTableFull fresh.kind st (fresh.reflection.map (fun (_ : ReflectionPart) => location))
                (sat32 s.table.unrecorded[p])), .dropped)) ∧
          (∀ (before after : List BreakRecord) (old : BreakRecord), s.table.records = before ++ old :: after →
            (∀ r ∈ before, r.state ≠ .cleared) → old.state = .cleared →
            kept = (before ++ after).map (fun r => if r.locatedBy = some old.id then { r with locatedBy := none } else r) →
            submit = (({ s with table := { s.table with
              records := kept ++ [fresh]
              nextId := if 65535 ≤ id then 1 else id + 1 } }).post (some p) (.breakRecord .created fresh (some old.id)),
              .created id)))) ∧
      (∀ (before after : List BreakRecord) (r merged : BreakRecord), s.table.records = before ++ r :: after →
        (∀ q ∈ before, ¬ meets q) → meets r →
        merged = { r with
          occurrences := min 65535 (r.occurrences + 1)
          lastSeen := s.clock
          state := if st = .confirmed then .confirmed else r.state
          reflection := if fresh.reflection = none then r.reflection
            else r.reflection.map (fun (f : ReflectionPart) => { f with latest := location, sweep := sweep }) } →
        (st = .confirmed ∧ r.state = .suspect →
          submit = (({ s with table := { s.table with
            records := before ++ merged :: after } }).post (some p) (.breakRecord .confirmed merged none),
            .merged r.id)) ∧
        (st ≠ .confirmed ∨ r.state = .confirmed →
          submit = ({ s with table := { s.table with records := before ++ merged :: after } }, .merged r.id)))) ∧
    ((∀ r ∈ s.table.records, r.id = id → r.port = p → r.kind ≠ .reflection) → s.locate p id = s) ∧
    (∀ (located : BreakRecord → BreakRecord) (acts : BreakRecord → Bool),
      (∃ r ∈ s.table.records, r.id = id ∧ r.port = p ∧ r.kind = .reflection) →
      (∀ r, located r = { r with state := .confirmed, locatedBy := some id }) →
      (∀ r, acts r = true ↔ r.port = p ∧ (r.kind = .dataErrors ∨ r.kind = .powerOpen) ∧
        (r.state = .suspect ∨ (r.state = .confirmed ∧ r.locatedBy ≠ some id))) →
      s.locate p id = (s.table.records.filter acts).foldl (fun (u : State) r => u.post (some p)
          (.breakRecord (if r.state = .suspect then .confirmed else .located) (located r) none))
        { s with table := { s.table with records := s.table.records.map (fun r => if acts r then located r else r) } })

/-! ## Chapter 8: reflection sweeps -/

/-- CABLE_SET, SWEEP_REQUEST and SWEEP_CANCEL (R154 to R158): a cable record replaces the port's unless the port is
queued or being swept; a request whose port's record is set joins the queue under the next number, updates the port's
entry in place, is refused while the port is being swept, and is begun at once by an idle engine; a cancel takes the
port's entry off the queue or ends its sweep CANCELLED. A port, kind, K, quorum or deadline out of its range is refused.
That the place reported counts the entry itself is the model's choice (notes/assumptions/44.md), and that the length of a
CABLE_SET follows its coupler count is its reading (notes/assumptions/11.md). The field more of a sweep that is cancelled
stays as it was, which is the model's choice too (notes/assumptions/90.md), and so is that one cancelled in CALIBRATING
frees the sampler at once (notes/assumptions/99.md). -/
def Obligations.SweepRequestsAreServed : Prop :=
  ∀ (s : State) (tag : Byte) (p : Port) (length velocity launch threshold : Nat) (couplers : List Nat)
      (e : SweepEntry),
    length < 65536 → velocity < 65536 → launch < 256 → threshold < 65536 → couplers.length < 256 →
    (∀ c ∈ couplers, c < 65536) →
    (Serves s 0x20 tag (cableBody p.val length velocity launch couplers threshold) →
      (length < 50 ∨ 6000 < length ∨ velocity < 500 ∨ 900 < velocity ∨ 4 < couplers.length ∨
          (∃ c ∈ couplers, c ≤ launch ∨ 16383 < c) ∨ threshold < 16 ∨ 1024 < threshold →
        exec .cableSet s = .next (s.reply .outOfRange).transmit) ∧
      (50 ≤ length → length ≤ 6000 → 500 ≤ velocity → velocity ≤ 900 → couplers.length ≤ 4 →
        (∀ c ∈ couplers, launch < c ∧ c ≤ 16383) → 16 ≤ threshold → threshold ≤ 1024 →
        ((∃ q ∈ s.sweeps.queue, q.port = p) ∨ (∃ w, s.sweeps.sweep = some w ∧ w.entry.port = p) →
          exec .cableSet s = .next (s.reply .conflict).transmit) ∧
        ((∀ q ∈ s.sweeps.queue, q.port ≠ p) → (∀ w, s.sweeps.sweep = some w → w.entry.port ≠ p) →
          exec .cableSet s = .next (({ s with settings := { s.settings with
            cables := upd s.settings.cables p (fun _ =>
              ⟨true, some length, velocity, some launch, couplers, threshold⟩) } }).reply .ok).transmit))) ∧
    (e.port = p → e.source = .host → (e.acquisitions = 4 ∨ e.acquisitions = 16 ∨ e.acquisitions = 64) →
      1 ≤ e.deadline → e.deadline ≤ 60 →
      e.number = (if s.sweeps.counter < 65535 then s.sweeps.counter + 1 else 1) →
      (∃ given : Option Nat, e.deadline = given.getD 10 ∧ Serves s 0x21 tag (num1 p.val ++ num1 e.kind.code ++
        num1 e.acquisitions ++ num1 e.quorum.code ++ optNum 1 (e.segment.map (·.val)) ++ optNum 1 given)) →
      (s.settings.cables[p].isSet = false → exec .sweepRequest s = .next (s.reply .wrongState).transmit) ∧
      (s.settings.cables[p].isSet = true →
        (∀ w, s.sweeps.sweep = some w → w.entry.port = p →
          exec .sweepRequest s = .next (s.reply .conflict).transmit) ∧
        ((∀ w, s.sweeps.sweep = some w → w.entry.port ≠ p) →
          (∀ (before after : List SweepEntry) (q : SweepEntry), s.sweeps.queue = before ++ q :: after →
            (∀ r ∈ before, r.port ≠ p) → q.port = p →
            exec .sweepRequest s = .next (({ s with sweeps := { s.sweeps with
              queue := before ++ { e with number := q.number } :: after } }).answer .ok
              (num2 q.number ++ num1 (before.length + 1))).transmit) ∧
          ((∀ q ∈ s.sweeps.queue, q.port ≠ p) →
            (s.sweeps.sweep.isSome = true ∨ s.sweeps.acquisition.isSome = true →
              exec .sweepRequest s = .next (({ s with sweeps := { s.sweeps with
                counter := e.number, queue := s.sweeps.queue ++ [e] } }).answer .accepted
                (num2 e.number ++ num1 (s.sweeps.queue.length + 1))).transmit) ∧
            (s.sweeps.sweep = none → s.sweeps.acquisition = none → s.sweeps.queue = [] →
              exec .sweepRequest s = .next (({ s with sweeps := { s.sweeps with
                counter := e.number
                sweep := some {
                  entry := e
                  cable := s.settings.cables[p]
                  samples := []
                  calibrationEndAt := some (s.clock + 1000)
                  deadlineAt := s.clock + e.deadline * 1000000
                  analysisEndAt := none }
                results := upd s.sweeps.results p (fun _ =>
                  { state := .calibrating, entry := some e, startAt := some s.clock, gathered := some 0,
                    restarts := some 0, suspensions := some 0 }) } }).answer .accepted
                (num2 e.number ++ num1 1)).transmit))))) ∧
    (∀ port kind k quorum deadline : Nat, port < 256 → kind < 256 → k < 256 → quorum < 256 → deadline < 256 →
      Serves s 0x21 tag (num1 port ++ num1 kind ++ num1 k ++ num1 quorum ++ optNum 1 (e.segment.map (·.val)) ++
        optNum 1 (some deadline)) →
      7 < port ∨ 1 < kind ∨ (k ≠ 4 ∧ k ≠ 16 ∧ k ≠ 64) ∨ 2 < quorum ∨ deadline = 0 ∨ 60 < deadline →
      exec .sweepRequest s = .next (s.reply .outOfRange).transmit) ∧
    (∀ port : Nat, 7 < port → port < 256 →
      (Serves s 0x20 tag (cableBody port length velocity launch couplers threshold) →
        exec .cableSet s = .next (s.reply .outOfRange).transmit) ∧
      (Serves s 0x22 tag (num1 port) → exec .sweepCancel s = .next (s.reply .outOfRange).transmit)) ∧
    (Serves s 0x22 tag (num1 p.val) →
      ((∃ q ∈ s.sweeps.queue, q.port = p) →
        exec .sweepCancel s = .next (({ s with sweeps := { s.sweeps with
          queue := s.sweeps.queue.filter (fun q => q.port ≠ p) } }).reply .ok).transmit) ∧
      ((∀ q ∈ s.sweeps.queue, q.port ≠ p) →
        ((∀ w, s.sweeps.sweep = some w → w.entry.port ≠ p) →
          exec .sweepCancel s = .next (s.reply .notFound).transmit) ∧
        (∀ (w : Sweep) (r : SweepResult) (engine : SweepEngine), s.sweeps.sweep = some w → w.entry.port = p →
          r = { s.sweeps.results[p] with state := .cancelled, endAt := some s.clock } → r.entry = some w.entry →
          (s.sweeps.queue = [] ∨ s.sweeps.acquisition.isSome = true) ∧ engine = { s.sweeps with
              sweep := none
              acquisition := s.sweeps.acquisition.map (fun (a : Acquisition) => { a with live := false })
              results := upd s.sweeps.results p (fun _ => r) } ∨
            (∃ (q : SweepEntry) (rest : List SweepEntry), s.sweeps.queue = q :: rest ∧ s.sweeps.acquisition = none ∧
              s.settings.cables[q.port].isSet = true ∧ engine = { s.sweeps with
                queue := rest
                sweep := some {
                  entry := q
                  cable := s.settings.cables[q.port]
                  samples := []
                  calibrationEndAt := some (s.clock + 1000)
                  deadlineAt := s.clock + q.deadline * 1000000
                  analysisEndAt := none }
                results := upd (upd s.sweeps.results p (fun _ => r)) q.port (fun _ =>
                  { state := .calibrating, entry := some q, startAt := some s.clock, gathered := some 0,
                    restarts := some 0, suspensions := some 0 }) }) →
          exec .sweepCancel s = .next ((({ s with sweeps := engine }).post (some p)
            (.sweepDone w.entry.number w.entry.kind .cancelled r.verdict r.used r.reflections r.location r.more)).reply
              .ok).transmit)))

/-- The stages of a sweep (R158 to R163): a calibration within 320 to 480 leads to the first acquisition, or to
SUSPENDED where the gap is not open, and one outside ends the sweep CAL_FAULT; an acquisition that ends is gathered,
and the K-th leads to ANALYSING for 2 ms; at the deadline a quarter of K is analysed and fewer end TIMED_OUT; a motion
segment that comes to be the entry's lets a suspended sweep go on. That the field more stays as it was at CAL_FAULT and
TIMED_OUT is the model's choice (notes/assumptions/90.md). -/
def Obligations.SweepStagesFollow : Prop :=
  ∀ (s : State) (w : Sweep) (p : Port) (count : Nat) (deviations : List Int) (tag : Byte),
    s.sweeps.sweep = some w → w.entry.port = p →
    (∀ at_, w.calibrationEndAt = some at_ → at_ ≤ s.clock →
      (320 ≤ count → count ≤ 480 →
        (s.lanes[p].window.isSome = true →
          exec (.calibrationEnd count) s = .next ({ s with sweeps := { s.sweeps with
            sweep := some { w with calibrationEndAt := none }
            results := upd s.sweeps.results p (fun r => { r with
              calibration := some count, state := .suspended, suspensions := r.suspensions.map sat32 }) } }).transmit) ∧
        (s.lanes[p].window = none → s.seq.state = .empty ∨ s.seq.state = .loaded →
          (w.entry.segment = none ∨ w.entry.segment = s.monitor.segment) → s.sweeps.acquisition = none →
          s.seq.pending = none → s.lanes[p].state = .locked →
          exec (.calibrationEnd count) s = .next ({ s with
            sweeps := { s.sweeps with
              sweep := some { w with calibrationEndAt := none }
              acquisition := some ⟨p, s.clock + 200, true⟩
              results := upd s.sweeps.results p (fun r => { r with calibration := some count, state := .acquiring }) }
            lanes := upd s.lanes p (fun l => { l with
              state := .quiet
              since := s.clock
              backChannel := withCrc16 [0x52, 0, 200] }) }).transmit)) ∧
      (count < 320 ∨ 480 < count → s.sweeps.queue = [] → ∀ r : SweepResult,
        r = { s.sweeps.results[p] with calibration := some count, state := .calFault, endAt := some s.clock } →
        r.entry = some w.entry →
        exec (.calibrationEnd count) s = .next (({ s with sweeps := { s.sweeps with
          sweep := none
          acquisition := s.sweeps.acquisition.map (fun (a : Acquisition) => { a with live := false })
          results := upd s.sweeps.results p (fun _ => r) } }).post (some p)
          (.sweepDone w.entry.number w.entry.kind .calFault r.verdict r.used r.reflections r.location r.more)).transmit)) ∧
    (∀ at_, s.sweeps.acquisition = some ⟨p, at_, true⟩ → at_ ≤ s.clock → s.sweeps.results[p].state = .acquiring →
      s.lanes[p].state = .quiet → deviations.length = 16384 → (∀ d ∈ deviations, -2048 ≤ d ∧ d ≤ 2047) →
      ∀ (next : Sweep) (stage : SweepState),
      (w.samples.length + 1 < w.entry.acquisitions →
        next = { w with samples := deviations :: w.samples } ∧ stage = .acquiring) →
      (w.entry.acquisitions ≤ w.samples.length + 1 →
        next = { w with samples := deviations :: w.samples, analysisEndAt := some (s.clock + 2000) } ∧
          stage = .analysing) →
      exec (.acquisitionEnd deviations) s = .next ({ s with
        sweeps := { s.sweeps with
          acquisition := none
          sweep := some next
          results := upd s.sweeps.results p (fun r => { r with gathered := r.gathered.map (· + 1), state := stage }) }
        lanes := upd s.lanes p (fun l => { l with retrainAt := some (at_ + 100) }) }).transmit) ∧
    (s.sweeps.results[p].state = .acquiring ∨ s.sweeps.results[p].state = .suspended → w.deadlineAt ≤ s.clock →
      (w.entry.acquisitions ≤ w.samples.length * 4 →
        exec .sweepDeadline s = .next ({ s with sweeps := { s.sweeps with
          acquisition := s.sweeps.acquisition.map (fun (a : Acquisition) => { a with live := false })
          sweep := some { w with analysisEndAt := some (s.clock + 2000) }
          results := upd s.sweeps.results p (fun r => { r with state := .analysing }) } }).transmit) ∧
      (w.samples.length * 4 < w.entry.acquisitions → s.sweeps.queue = [] → ∀ r : SweepResult,
        r = { s.sweeps.results[p] with state := .timedOut, endAt := some s.clock } → r.entry = some w.entry →
        exec .sweepDeadline s = .next (({ s with sweeps := { s.sweeps with
          sweep := none
          acquisition := s.sweeps.acquisition.map (fun (a : Acquisition) => { a with live := false })
          results := upd s.sweeps.results p (fun _ => r) } }).post (some p)
          (.sweepDone w.entry.number w.entry.kind .timedOut r.verdict r.used r.reflections r.location r.more)).transmit)) ∧
    (∀ g : Fin 16, Serves s 0x1C tag (num1 g.val) → w.entry.segment = some g → s.monitor.segment ≠ some g →
      s.sweeps.results[p].state = .suspended → s.lanes[p].window = none → s.lanes[p].state = .down →
      s.seq.state = .empty ∨ s.seq.state = .loaded → s.seq.pending = none → s.sweeps.acquisition = none →
      exec .motionSegment s = .next (({ s with
        monitor := { s.monitor with segment := some g }
        sweeps := { s.sweeps with
          acquisition := some ⟨p, s.clock + 200, true⟩
          results := upd s.sweeps.results p (fun r => { r with state := .acquiring }) } }).reply .ok).transmit)

/-- What the analysis finds (R164, R167): the required count is the quorum's share of n, rounded up; a reflection
begins at each index that qualifies with one sign where the index before does not qualify with that sign, in index
order, its mean the average there, rounded toward 0; a distance is rounded half up. -/
def Obligations.ReflectionsAreQualifyingRuns : Prop :=
  ∀ (threshold required : Nat) (acquisitions : List (List Int)) (up down : Nat → Prop),
    (∀ i, up i ↔ required ≤ deviatingUp threshold acquisitions i ∧
      deviatingDown threshold acquisitions i < deviatingUp threshold acquisitions i) →
    (∀ i, down i ↔ required ≤ deviatingDown threshold acquisitions i ∧
      deviatingUp threshold acquisitions i < deviatingDown threshold acquisitions i) →
    ((reflectionsOf threshold required acquisitions).map (·.index)).Pairwise (· < ·) ∧
    (∀ i,
      ((∃ r ∈ reflectionsOf threshold required acquisitions, r.index = i ∧ r.polarity = .open) ↔
        up i ∧ ¬ (∃ j, i = j + 1 ∧ up j)) ∧
      ((∃ r ∈ reflectionsOf threshold required acquisitions, r.index = i ∧ r.polarity = .short) ↔
        down i ∧ ¬ (∃ j, i = j + 1 ∧ down j))) ∧
    (∀ r ∈ reflectionsOf threshold required acquisitions,
      r.mean = ((acquisitions.map (fun a => (a[r.index]?).getD 0)).sum).tdiv acquisitions.length) ∧
    (∀ n, requiredCount n .quarter * 4 < n + 4 ∧ n ≤ requiredCount n .quarter * 4 ∧
      requiredCount n .half * 2 < n + 2 ∧ n ≤ requiredCount n .half * 2 ∧ requiredCount n .all = n) ∧
    (∀ delta velocity calibration, 0 < calibration →
      distanceCm delta velocity calibration * (calibration * 10000) ≤
        delta * velocity * 1499 + calibration * 5000 ∧
      delta * velocity * 1499 + calibration * 5000 <
        (distanceCm delta velocity calibration + 1) * (calibration * 10000))

/-- ANALYSIS_END (R158, R164 to R170), with no other entry waiting: the sweep ends DONE with K acquisitions and
PARTIAL with fewer, its result telling the count used, the count required, the reflections found, at most 8 of them,
in index order and how many more there are, and SWEEP_DONE is posted with what the result says. A FAULT sweep drops
what lies at or before the launch and classes each reflection as COUPLER, END, BEYOND or FAULT, in that order of
tests; each FAULT is submitted to the break table in index order, CONFIRMED from a DONE sweep and SUSPECT from a
PARTIAL one, the nearest is the location, and a DONE sweep locates its record; the verdict is FAULT_FOUND, or CLEAN
with the break table as it was. A BASELINE sweep classes the first reflection LAUNCH and the others END, BEYOND, and
COUPLER or EXTRA past the fourth; it sets the launch and couplers of the cable record where it is DONE, the record is
set and the launch is found within the first 256 indices; without the launch the verdict of a DONE sweep is
BASELINE_FAULT, also where the record is no longer set, which is the model's choice (notes/assumptions/84.md); PARTIAL
and otherwise a record no longer set are NOT_APPLIED. A BASELINE sweep ends with no location, whatever the record held
before. The locate takes its records in table order
(notes/assumptions/82.md). -/
def Obligations.AnalysisEndsTheSweep : Prop :=
  ∀ (s : State) (w : Sweep) (p : Port) (at_ : Time) (required : Nat) (outcome : SweepState) (found kept : List Reflection)
      (distance : Nat → Nat → Nat) (length : Nat),
    s.sweeps.sweep = some w → w.entry.port = p → w.analysisEndAt = some at_ → at_ ≤ s.clock → s.sweeps.queue = [] →
    s.sweeps.results[p].entry = some w.entry →
    required = requiredCount w.samples.length w.entry.quorum →
    found = reflectionsOf w.cable.threshold required w.samples →
    kept = found.filter (fun r => w.entry.kind ≠ .fault || w.cable.launch.getD 0 < r.index) →
    (∀ launch index, distance launch index =
      distanceCm (index - launch) w.cable.velocity (s.sweeps.results[p].calibration.getD 0)) →
    length = w.cable.length.getD 0 →
    (w.entry.acquisitions ≤ w.samples.length → outcome = .done) →
    (w.samples.length < w.entry.acquisitions → outcome = .partly) →
    ∃ (t : State) (result : SweepResult), result = t.sweeps.results[p] ∧
      exec .analysisEnd s = .next (t.post (some p) (.sweepDone w.entry.number w.entry.kind outcome result.verdict
        result.used result.reflections result.location result.more)).transmit ∧
      t.sweeps.sweep = none ∧ t.sweeps.queue = [] ∧ result.state = outcome ∧ result.endAt = some s.clock ∧
      result.used = some w.samples.length ∧ result.required = some required ∧
      result.more = some (kept.length - 8) ∧
      result.reflections.map (fun r => (r.index, r.polarity, r.mean)) =
        (kept.take 8).map (fun r => (r.index, r.polarity, r.mean)) ∧
      (∀ q : Port, q ≠ p → t.sweeps.results[q] = s.sweeps.results[q]) ∧
      (w.entry.kind = .fault →
        (∀ r ∈ result.reflections, ∀ d, d = distance (w.cable.launch.getD 0) r.index →
          ((∃ c ∈ w.cable.couplers, r.index ≤ c + 8 ∧ c ≤ r.index + 8) → r.cls = some .coupler ∧ r.distance = some d) ∧
          ((∀ c ∈ w.cable.couplers, c + 8 < r.index ∨ r.index + 8 < c) →
            (length ≤ d + 30 → d ≤ length + 30 → r.cls = some .farEnd ∧ r.distance = some d) ∧
            (length + 30 < d → r.cls = some .beyond ∧ r.distance = none) ∧
            (d + 30 < length → r.cls = some .fault ∧ r.distance = some d))) ∧
        ((∀ r ∈ result.reflections, r.cls ≠ some .fault) → result.verdict = some .clean ∧ result.location = none ∧
          t.table = s.table ∧ t.link = s.link) ∧
        (∀ (first : Reflection) (rest : List Reflection) (submitted : State × List (Option Nat)) (located : State),
          result.reflections.filter (fun r => r.cls = some .fault) = first :: rest →
          submitted = (first :: rest).foldl (fun (v : State × List (Option Nat)) r =>
            ((v.1.submitReflection p (r.distance.getD 0) r.polarity
              (if outcome = .done then .confirmed else .suspect) w.entry.number w.entry.segment).1,
             v.2 ++ [(v.1.submitReflection p (r.distance.getD 0) r.polarity
              (if outcome = .done then .confirmed else .suspect) w.entry.number w.entry.segment).2.id?])) (s, []) →
          (∀ id, first.record = some id → outcome = .done → located = submitted.1.locate p id) →
          (first.record = none ∨ outcome ≠ .done → located = submitted.1) →
          result.verdict = some .faultFound ∧ result.location = some (first.distance.getD 0, first.record) ∧
          submitted.2 = (first :: rest).map (fun r => r.record) ∧ t.table = located.table ∧ t.link = located.link) ∧
        t.settings = s.settings) ∧
      (w.entry.kind = .baseline → t.table = s.table ∧ t.link = s.link ∧ result.location = none ∧
        (∀ (first : Reflection) (rest : List Reflection), result.reflections = first :: rest → first.index ≤ 255 →
          first.cls = some .launch ∧ first.distance = none ∧
          (∀ (before after : List Reflection) (r : Reflection) (d : Nat), rest = before ++ r :: after →
            d = distance first.index r.index →
            (length ≤ d + 30 → d ≤ length + 30 → r.cls = some .farEnd ∧ r.distance = some d) ∧
            (length + 30 < d → r.cls = some .beyond ∧ r.distance = none) ∧
            (d + 30 < length → r.distance = some d ∧
              r.cls = if (before.filter (fun q => q.cls = some .coupler)).length < 4 then some .coupler
                else some .extra)) ∧
          (outcome = .done → s.settings.cables[p].isSet = true →
            result.verdict = some .baselineSet ∧ t.settings = { s.settings with
              cables := upd s.settings.cables p (fun c => { c with
                launch := some first.index
                couplers := (rest.filter (fun r => r.cls = some .coupler)).map (fun r => r.index) }) }) ∧
          (outcome ≠ .done ∨ s.settings.cables[p].isSet = false →
            result.verdict = some .notApplied ∧ t.settings = s.settings)) ∧
        (kept = [] ∨ (∃ r rest, kept = r :: rest ∧ 255 < r.index) → t.settings = s.settings ∧
          (outcome = .done → result.verdict = some .baselineFault) ∧
          (outcome ≠ .done → result.verdict = some .notApplied))) ∧
      t.clock = s.clock ∧ t.power = s.power ∧ t.supply = s.supply ∧ t.lanes = s.lanes ∧ t.seq = s.seq ∧
      t.store = s.store ∧ t.dram = s.dram ∧ t.uplink = s.uplink ∧ t.lenses = s.lenses ∧ t.monitor = s.monitor ∧
      t.profile = s.profile

/-! ## What every step keeps -/

/-- Every invariant below holds right after reset. -/
def Obligations.ResetMeetsInvariants : Prop :=
  MemoryCanonical State.reset ∧ StoreSound State.reset ∧ Bins State.reset ∧ TableBound State.reset ∧
  RecordsApart State.reset ∧ LinkBounds State.reset ∧ RegionBound State.reset ∧ Credits State.reset ∧
  SweepPorts State.reset ∧ AcquisitionsAreQuiet State.reset ∧ PowerSound State.reset ∧ ClaimNeeds State.reset ∧
  Budget State.reset

/-- Every step keeps the canonical form of the frame DRAM, the form in which the model holds the bytes of its buffers
(notes/assumptions/3.md). -/
def Obligations.MemoryStaysCanonical : Prop :=
  ∀ s t : State, MemoryCanonical s → step s = .next t → MemoryCanonical t

/-- Every step keeps the books of the frame store (R78 to R80): ids name one record each, records hold one buffer
each, and a buffer is FREE exactly when it is on the free list, which names the buffers that no record holds, each
once. -/
def Obligations.StoreBooksBalance : Prop := ∀ s t : State, StoreSound s → step s = .next t → StoreSound t

/-- Every step keeps the sum of a port's bins equal to its window count, at most 32 break records, and at most one
record that is not CLEARED for a port and kind other than REFLECTION (R137, R145). -/
def Obligations.EvidenceBooksBalance : Prop :=
  ∀ s t : State, step s = .next t →
    (Bins s → Bins t) ∧ (TableBound s → TableBound t) ∧ (RecordsApart s → RecordsApart t)

/-- Every step keeps the bounds of the link's queues, of the region queue and of the credits, and no port twice in the
sweep queue and the sweep in progress together; and a reflection acquisition is kept apart from triggers (R35, R39,
R99 to R102, R106, R156, R160, R175, R176). -/
def Obligations.QueuesStayBounded : Prop :=
  ∀ s t : State, step s = .next t →
    (LinkBounds s → LinkBounds t) ∧ (RegionBound s → RegionBound t) ∧ (Credits s → Credits t) ∧
    (SweepPorts s → SweepPorts t) ∧ (AcquisitionsAreQuiet s → AcquisitionsAreQuiet t)

/-- Every step keeps the power side sound: LOCKED at the fifth trip exactly, a power claim in WAITING alone, a lane
and a lens at rest away from ON, and shed marks at OFF alone (R6, R11, R20, R27, R31, R115). -/
def Obligations.PowerStaysSound : Prop := ∀ s t : State, PowerSound s → step s = .next t → PowerSound t

/-- The committed sum never exceeds the capacity (R19): every step keeps it so, with the claims asking for what their
ports need. -/
def Obligations.CommittedNeverExceedsCapacity : Prop :=
  ∀ s t : State, PowerSound s → ClaimNeeds s → Budget s → step s = .next t → Budget t ∧ ClaimNeeds t
end

