-- ==== Sys2Proof/Laws/State.lean ====
section
/-!
SUPPORT. One entry of a row changed, and what each named update of the state changes and keeps: every field of the
state, by rfl, so that no later proof unfolds an update.
-/

namespace Sys2Proof

/-! ## One entry of a row -/

@[simp] theorem upd_same {α : Type} {n : Nat} (v : Vector α n) (i : Fin n) (f : α → α) : (upd v i f)[i] = f v[i] := by
  simp [upd]

theorem upd_other {α : Type} {n : Nat} (v : Vector α n) {i j : Fin n} (f : α → α) (h : j ≠ i) :
    (upd v i f)[j] = v[j] := by
  simp only [upd, Fin.getElem_fin]
  rw [Vector.getElem_set_ne]
  exact fun e => h (Fin.ext e.symm)

theorem upd_get {α : Type} {n : Nat} (v : Vector α n) (i j : Fin n) (f : α → α) :
    (upd v i f)[j] = if j = i then f v[i] else v[j] := by
  split
  · next h => rw [h, upd_same]
  · next h => exact upd_other v f h

/-- A change that agrees with the identity on the entry leaves the row as it is. -/
theorem upd_eq_self {α : Type} {n : Nat} (v : Vector α n) (i : Fin n) (f : α → α) (h : f v[i] = v[i]) :
    upd v i f = v := by
  simp only [upd]
  rw [h]
  simp

theorem sat32_le (n : Nat) : sat32 n ≤ 4294967295 := Nat.min_le_left _ _

theorem satAdd_le (top n k : Nat) : satAdd top n k ≤ top := Nat.min_le_left _ _

end Sys2Proof

namespace Sys2Proof.Machine

/-- What setPower keeps. -/
@[simp] theorem State.setPower_keeps (s : State) (p : Port) (f : PortPower → PortPower) :
    (s.setPower p f).clock = s.clock ∧ (s.setPower p f).settings = s.settings ∧ (s.setPower p f).supply = s.supply ∧
      (s.setPower p f).lanes = s.lanes ∧ (s.setPower p f).seq = s.seq ∧ (s.setPower p f).store = s.store ∧
      (s.setPower p f).dram = s.dram ∧ (s.setPower p f).uplink = s.uplink ∧ (s.setPower p f).lenses = s.lenses ∧
      (s.setPower p f).monitor = s.monitor ∧ (s.setPower p f).table = s.table ∧ (s.setPower p f).sweeps = s.sweeps ∧
      (s.setPower p f).link = s.link ∧ (s.setPower p f).profile = s.profile ∧ (s.setPower p f).freeCount = s.freeCount ∧
      (s.setPower p f).pending = s.pending :=
  ⟨rfl, rfl, rfl, rfl, rfl, rfl, rfl, rfl, rfl, rfl, rfl, rfl, rfl, rfl, rfl, rfl⟩

@[simp] theorem State.setPower_power (s : State) (p : Port) (f : PortPower → PortPower) : (s.setPower p f).power = upd s.power p f := rfl

/-- What setLane keeps. -/
@[simp] theorem State.setLane_keeps (s : State) (p : Port) (f : Lane → Lane) :
    (s.setLane p f).clock = s.clock ∧ (s.setLane p f).settings = s.settings ∧ (s.setLane p f).power = s.power ∧
      (s.setLane p f).supply = s.supply ∧ (s.setLane p f).seq = s.seq ∧ (s.setLane p f).store = s.store ∧
      (s.setLane p f).dram = s.dram ∧ (s.setLane p f).uplink = s.uplink ∧ (s.setLane p f).lenses = s.lenses ∧
      (s.setLane p f).monitor = s.monitor ∧ (s.setLane p f).table = s.table ∧ (s.setLane p f).sweeps = s.sweeps ∧
      (s.setLane p f).link = s.link ∧ (s.setLane p f).profile = s.profile ∧ (s.setLane p f).freeCount = s.freeCount ∧
      (s.setLane p f).pending = s.pending :=
  ⟨rfl, rfl, rfl, rfl, rfl, rfl, rfl, rfl, rfl, rfl, rfl, rfl, rfl, rfl, rfl, rfl⟩

@[simp] theorem State.setLane_lanes (s : State) (p : Port) (f : Lane → Lane) : (s.setLane p f).lanes = upd s.lanes p f := rfl

/-- What setLens keeps. -/
@[simp] theorem State.setLens_keeps (s : State) (p : Port) (f : Lens → Lens) :
    (s.setLens p f).clock = s.clock ∧ (s.setLens p f).settings = s.settings ∧ (s.setLens p f).power = s.power ∧
      (s.setLens p f).supply = s.supply ∧ (s.setLens p f).lanes = s.lanes ∧ (s.setLens p f).seq = s.seq ∧
      (s.setLens p f).store = s.store ∧ (s.setLens p f).dram = s.dram ∧ (s.setLens p f).uplink = s.uplink ∧
      (s.setLens p f).monitor = s.monitor ∧ (s.setLens p f).table = s.table ∧ (s.setLens p f).sweeps = s.sweeps ∧
      (s.setLens p f).link = s.link ∧ (s.setLens p f).profile = s.profile ∧ (s.setLens p f).freeCount = s.freeCount ∧
      (s.setLens p f).pending = s.pending :=
  ⟨rfl, rfl, rfl, rfl, rfl, rfl, rfl, rfl, rfl, rfl, rfl, rfl, rfl, rfl, rfl, rfl⟩

@[simp] theorem State.setLens_lenses (s : State) (p : Port) (f : Lens → Lens) : (s.setLens p f).lenses = upd s.lenses p f := rfl

/-- What setEvidence keeps. -/
@[simp] theorem State.setEvidence_keeps (s : State) (p : Port) (f : Evidence → Evidence) :
    (s.setEvidence p f).clock = s.clock ∧ (s.setEvidence p f).settings = s.settings ∧ (s.setEvidence p f).power = s.power ∧
      (s.setEvidence p f).supply = s.supply ∧ (s.setEvidence p f).lanes = s.lanes ∧ (s.setEvidence p f).seq = s.seq ∧
      (s.setEvidence p f).store = s.store ∧ (s.setEvidence p f).dram = s.dram ∧ (s.setEvidence p f).uplink = s.uplink ∧
      (s.setEvidence p f).lenses = s.lenses ∧ (s.setEvidence p f).table = s.table ∧ (s.setEvidence p f).sweeps = s.sweeps ∧
      (s.setEvidence p f).link = s.link ∧ (s.setEvidence p f).profile = s.profile ∧ (s.setEvidence p f).freeCount = s.freeCount ∧
      (s.setEvidence p f).pending = s.pending :=
  ⟨rfl, rfl, rfl, rfl, rfl, rfl, rfl, rfl, rfl, rfl, rfl, rfl, rfl, rfl, rfl, rfl⟩

@[simp] theorem State.setEvidence_monitor (s : State) (p : Port) (f : Evidence → Evidence) : (s.setEvidence p f).monitor = { s.monitor with ports := upd s.monitor.ports p f } := rfl

/-- What setResult keeps. -/
@[simp] theorem State.setResult_keeps (s : State) (p : Port) (f : SweepResult → SweepResult) :
    (s.setResult p f).clock = s.clock ∧ (s.setResult p f).settings = s.settings ∧ (s.setResult p f).power = s.power ∧
      (s.setResult p f).supply = s.supply ∧ (s.setResult p f).lanes = s.lanes ∧ (s.setResult p f).seq = s.seq ∧
      (s.setResult p f).store = s.store ∧ (s.setResult p f).dram = s.dram ∧ (s.setResult p f).uplink = s.uplink ∧
      (s.setResult p f).lenses = s.lenses ∧ (s.setResult p f).monitor = s.monitor ∧ (s.setResult p f).table = s.table ∧
      (s.setResult p f).link = s.link ∧ (s.setResult p f).profile = s.profile ∧ (s.setResult p f).freeCount = s.freeCount ∧
      (s.setResult p f).pending = s.pending :=
  ⟨rfl, rfl, rfl, rfl, rfl, rfl, rfl, rfl, rfl, rfl, rfl, rfl, rfl, rfl, rfl, rfl⟩

@[simp] theorem State.setResult_sweeps (s : State) (p : Port) (f : SweepResult → SweepResult) : (s.setResult p f).sweeps = { s.sweeps with results := upd s.sweeps.results p f } := rfl

/-- What setStore keeps. -/
@[simp] theorem State.setStore_keeps (s : State) (f : Store → Store) :
    (s.setStore f).clock = s.clock ∧ (s.setStore f).settings = s.settings ∧ (s.setStore f).power = s.power ∧
      (s.setStore f).supply = s.supply ∧ (s.setStore f).lanes = s.lanes ∧ (s.setStore f).seq = s.seq ∧
      (s.setStore f).dram = s.dram ∧ (s.setStore f).uplink = s.uplink ∧ (s.setStore f).lenses = s.lenses ∧
      (s.setStore f).monitor = s.monitor ∧ (s.setStore f).table = s.table ∧ (s.setStore f).sweeps = s.sweeps ∧
      (s.setStore f).link = s.link ∧ (s.setStore f).profile = s.profile ∧ (s.setStore f).freeCount = s.freeCount ∧
      (s.setStore f).pending = s.pending :=
  ⟨rfl, rfl, rfl, rfl, rfl, rfl, rfl, rfl, rfl, rfl, rfl, rfl, rfl, rfl, rfl, rfl⟩

@[simp] theorem State.setStore_store (s : State) (f : Store → Store) : (s.setStore f).store = f s.store := rfl

/-- What setUplink keeps. -/
@[simp] theorem State.setUplink_keeps (s : State) (f : Uplink → Uplink) :
    (s.setUplink f).clock = s.clock ∧ (s.setUplink f).settings = s.settings ∧ (s.setUplink f).power = s.power ∧
      (s.setUplink f).supply = s.supply ∧ (s.setUplink f).lanes = s.lanes ∧ (s.setUplink f).seq = s.seq ∧
      (s.setUplink f).store = s.store ∧ (s.setUplink f).dram = s.dram ∧ (s.setUplink f).lenses = s.lenses ∧
      (s.setUplink f).monitor = s.monitor ∧ (s.setUplink f).table = s.table ∧ (s.setUplink f).sweeps = s.sweeps ∧
      (s.setUplink f).link = s.link ∧ (s.setUplink f).profile = s.profile ∧ (s.setUplink f).freeCount = s.freeCount ∧
      (s.setUplink f).pending = s.pending :=
  ⟨rfl, rfl, rfl, rfl, rfl, rfl, rfl, rfl, rfl, rfl, rfl, rfl, rfl, rfl, rfl, rfl⟩

@[simp] theorem State.setUplink_uplink (s : State) (f : Uplink → Uplink) : (s.setUplink f).uplink = f s.uplink := rfl

/-- What uplinkCount keeps. -/
@[simp] theorem State.uplinkCount_keeps (s : State) (f : UplinkCounts → UplinkCounts) :
    (s.uplinkCount f).clock = s.clock ∧ (s.uplinkCount f).settings = s.settings ∧ (s.uplinkCount f).power = s.power ∧
      (s.uplinkCount f).supply = s.supply ∧ (s.uplinkCount f).lanes = s.lanes ∧ (s.uplinkCount f).seq = s.seq ∧
      (s.uplinkCount f).store = s.store ∧ (s.uplinkCount f).dram = s.dram ∧ (s.uplinkCount f).lenses = s.lenses ∧
      (s.uplinkCount f).monitor = s.monitor ∧ (s.uplinkCount f).table = s.table ∧ (s.uplinkCount f).sweeps = s.sweeps ∧
      (s.uplinkCount f).link = s.link ∧ (s.uplinkCount f).profile = s.profile ∧ (s.uplinkCount f).freeCount = s.freeCount ∧
      (s.uplinkCount f).pending = s.pending :=
  ⟨rfl, rfl, rfl, rfl, rfl, rfl, rfl, rfl, rfl, rfl, rfl, rfl, rfl, rfl, rfl, rfl⟩

@[simp] theorem State.uplinkCount_uplink (s : State) (f : UplinkCounts → UplinkCounts) : (s.uplinkCount f).uplink = { s.uplink with counts := f s.uplink.counts } := rfl

/-- What setSeq keeps. -/
@[simp] theorem State.setSeq_keeps (s : State) (f : Sequencer → Sequencer) :
    (s.setSeq f).clock = s.clock ∧ (s.setSeq f).settings = s.settings ∧ (s.setSeq f).power = s.power ∧
      (s.setSeq f).supply = s.supply ∧ (s.setSeq f).lanes = s.lanes ∧ (s.setSeq f).store = s.store ∧
      (s.setSeq f).dram = s.dram ∧ (s.setSeq f).uplink = s.uplink ∧ (s.setSeq f).lenses = s.lenses ∧
      (s.setSeq f).monitor = s.monitor ∧ (s.setSeq f).table = s.table ∧ (s.setSeq f).sweeps = s.sweeps ∧
      (s.setSeq f).link = s.link ∧ (s.setSeq f).profile = s.profile ∧ (s.setSeq f).freeCount = s.freeCount ∧
      (s.setSeq f).pending = s.pending :=
  ⟨rfl, rfl, rfl, rfl, rfl, rfl, rfl, rfl, rfl, rfl, rfl, rfl, rfl, rfl, rfl, rfl⟩

@[simp] theorem State.setSeq_seq (s : State) (f : Sequencer → Sequencer) : (s.setSeq f).seq = f s.seq := rfl

/-- What setLink keeps. -/
@[simp] theorem State.setLink_keeps (s : State) (f : Link → Link) :
    (s.setLink f).clock = s.clock ∧ (s.setLink f).settings = s.settings ∧ (s.setLink f).power = s.power ∧
      (s.setLink f).supply = s.supply ∧ (s.setLink f).lanes = s.lanes ∧ (s.setLink f).seq = s.seq ∧
      (s.setLink f).store = s.store ∧ (s.setLink f).dram = s.dram ∧ (s.setLink f).uplink = s.uplink ∧
      (s.setLink f).lenses = s.lenses ∧ (s.setLink f).monitor = s.monitor ∧ (s.setLink f).table = s.table ∧
      (s.setLink f).sweeps = s.sweeps ∧ (s.setLink f).profile = s.profile ∧ (s.setLink f).freeCount = s.freeCount ∧
      (s.setLink f).pending = s.pending :=
  ⟨rfl, rfl, rfl, rfl, rfl, rfl, rfl, rfl, rfl, rfl, rfl, rfl, rfl, rfl, rfl, rfl⟩

@[simp] theorem State.setLink_link (s : State) (f : Link → Link) : (s.setLink f).link = f s.link := rfl

/-- What setClaims keeps. -/
@[simp] theorem State.setClaims_keeps (s : State) (f : List Claim → List Claim) :
    (s.setClaims f).clock = s.clock ∧ (s.setClaims f).settings = s.settings ∧ (s.setClaims f).power = s.power ∧
      (s.setClaims f).lanes = s.lanes ∧ (s.setClaims f).seq = s.seq ∧ (s.setClaims f).store = s.store ∧
      (s.setClaims f).dram = s.dram ∧ (s.setClaims f).uplink = s.uplink ∧ (s.setClaims f).lenses = s.lenses ∧
      (s.setClaims f).monitor = s.monitor ∧ (s.setClaims f).table = s.table ∧ (s.setClaims f).sweeps = s.sweeps ∧
      (s.setClaims f).link = s.link ∧ (s.setClaims f).profile = s.profile ∧ (s.setClaims f).freeCount = s.freeCount ∧
      (s.setClaims f).pending = s.pending :=
  ⟨rfl, rfl, rfl, rfl, rfl, rfl, rfl, rfl, rfl, rfl, rfl, rfl, rfl, rfl, rfl, rfl⟩

@[simp] theorem State.setClaims_supply (s : State) (f : List Claim → List Claim) : (s.setClaims f).supply = { s.supply with claims := f s.supply.claims } := rfl

/-- What joinClaim keeps. -/
@[simp] theorem State.joinClaim_keeps (s : State) (p : Port) (k : ClaimKind) (need : Nat) :
    (s.joinClaim p k need).clock = s.clock ∧ (s.joinClaim p k need).settings = s.settings ∧ (s.joinClaim p k need).power = s.power ∧
      (s.joinClaim p k need).lanes = s.lanes ∧ (s.joinClaim p k need).seq = s.seq ∧ (s.joinClaim p k need).store = s.store ∧
      (s.joinClaim p k need).dram = s.dram ∧ (s.joinClaim p k need).uplink = s.uplink ∧ (s.joinClaim p k need).lenses = s.lenses ∧
      (s.joinClaim p k need).monitor = s.monitor ∧ (s.joinClaim p k need).table = s.table ∧ (s.joinClaim p k need).sweeps = s.sweeps ∧
      (s.joinClaim p k need).link = s.link ∧ (s.joinClaim p k need).profile = s.profile ∧ (s.joinClaim p k need).freeCount = s.freeCount ∧
      (s.joinClaim p k need).pending = s.pending :=
  ⟨rfl, rfl, rfl, rfl, rfl, rfl, rfl, rfl, rfl, rfl, rfl, rfl, rfl, rfl, rfl, rfl⟩

@[simp] theorem State.joinClaim_supply (s : State) (p : Port) (k : ClaimKind) (need : Nat) : (s.joinClaim p k need).supply = { s.supply with claims := insertClaim ⟨p, k, need, (s.profileOf p).priority, s.clock⟩ s.supply.claims } := rfl

/-- What dropClaim keeps. -/
@[simp] theorem State.dropClaim_keeps (s : State) (p : Port) (k : ClaimKind) :
    (s.dropClaim p k).clock = s.clock ∧ (s.dropClaim p k).settings = s.settings ∧ (s.dropClaim p k).power = s.power ∧
      (s.dropClaim p k).lanes = s.lanes ∧ (s.dropClaim p k).seq = s.seq ∧ (s.dropClaim p k).store = s.store ∧
      (s.dropClaim p k).dram = s.dram ∧ (s.dropClaim p k).uplink = s.uplink ∧ (s.dropClaim p k).lenses = s.lenses ∧
      (s.dropClaim p k).monitor = s.monitor ∧ (s.dropClaim p k).table = s.table ∧ (s.dropClaim p k).sweeps = s.sweeps ∧
      (s.dropClaim p k).link = s.link ∧ (s.dropClaim p k).profile = s.profile ∧ (s.dropClaim p k).freeCount = s.freeCount ∧
      (s.dropClaim p k).pending = s.pending :=
  ⟨rfl, rfl, rfl, rfl, rfl, rfl, rfl, rfl, rfl, rfl, rfl, rfl, rfl, rfl, rfl, rfl⟩

@[simp] theorem State.dropClaim_supply (s : State) (p : Port) (k : ClaimKind) : (s.dropClaim p k).supply = { s.supply with claims := s.supply.claims.filter (fun c => !(c.port = p && c.kind = k)) } := rfl

/-- What usedFree keeps. -/
@[simp] theorem State.usedFree_keeps (s : State) :
    s.usedFree.clock = s.clock ∧ s.usedFree.settings = s.settings ∧ s.usedFree.power = s.power ∧
      s.usedFree.supply = s.supply ∧ s.usedFree.lanes = s.lanes ∧ s.usedFree.seq = s.seq ∧
      s.usedFree.store = s.store ∧ s.usedFree.dram = s.dram ∧ s.usedFree.uplink = s.uplink ∧
      s.usedFree.lenses = s.lenses ∧ s.usedFree.monitor = s.monitor ∧ s.usedFree.table = s.table ∧
      s.usedFree.sweeps = s.sweeps ∧ s.usedFree.link = s.link ∧ s.usedFree.profile = s.profile ∧
      s.usedFree.pending = s.pending :=
  ⟨rfl, rfl, rfl, rfl, rfl, rfl, rfl, rfl, rfl, rfl, rfl, rfl, rfl, rfl, rfl, rfl⟩

@[simp] theorem State.usedFree_freeCount (s : State) : s.usedFree.freeCount = s.freeCount + 1 := rfl

/-- What transmit keeps. -/
@[simp] theorem State.transmit_keeps (s : State) :
    s.transmit.clock = s.clock ∧ s.transmit.settings = s.settings ∧ s.transmit.power = s.power ∧
      s.transmit.supply = s.supply ∧ s.transmit.lanes = s.lanes ∧ s.transmit.seq = s.seq ∧
      s.transmit.store = s.store ∧ s.transmit.dram = s.dram ∧ s.transmit.uplink = s.uplink ∧
      s.transmit.lenses = s.lenses ∧ s.transmit.monitor = s.monitor ∧ s.transmit.table = s.table ∧
      s.transmit.sweeps = s.sweeps ∧ s.transmit.profile = s.profile ∧ s.transmit.freeCount = s.freeCount ∧
      s.transmit.pending = s.pending :=
  ⟨rfl, rfl, rfl, rfl, rfl, rfl, rfl, rfl, rfl, rfl, rfl, rfl, rfl, rfl, rfl, rfl⟩

@[simp] theorem State.transmit_link (s : State) : s.transmit.link = s.link.transmit := rfl

/-- What answer keeps. -/
@[simp] theorem State.answer_keeps (s : State) (st : Status) (fields : List Byte) :
    (s.answer st fields).clock = s.clock ∧ (s.answer st fields).settings = s.settings ∧ (s.answer st fields).power = s.power ∧
      (s.answer st fields).supply = s.supply ∧ (s.answer st fields).lanes = s.lanes ∧ (s.answer st fields).seq = s.seq ∧
      (s.answer st fields).store = s.store ∧ (s.answer st fields).dram = s.dram ∧ (s.answer st fields).uplink = s.uplink ∧
      (s.answer st fields).lenses = s.lenses ∧ (s.answer st fields).monitor = s.monitor ∧ (s.answer st fields).table = s.table ∧
      (s.answer st fields).sweeps = s.sweeps ∧ (s.answer st fields).profile = s.profile ∧ (s.answer st fields).freeCount = s.freeCount ∧
      (s.answer st fields).pending = s.pending :=
  ⟨rfl, rfl, rfl, rfl, rfl, rfl, rfl, rfl, rfl, rfl, rfl, rfl, rfl, rfl, rfl, rfl⟩

@[simp] theorem State.answer_link (s : State) (st : Status) (fields : List Byte) : (s.answer st fields).link = s.link.answer st fields := rfl

/-- What reply keeps. -/
@[simp] theorem State.reply_keeps (s : State) (st : Status) :
    (s.reply st).clock = s.clock ∧ (s.reply st).settings = s.settings ∧ (s.reply st).power = s.power ∧
      (s.reply st).supply = s.supply ∧ (s.reply st).lanes = s.lanes ∧ (s.reply st).seq = s.seq ∧
      (s.reply st).store = s.store ∧ (s.reply st).dram = s.dram ∧ (s.reply st).uplink = s.uplink ∧
      (s.reply st).lenses = s.lenses ∧ (s.reply st).monitor = s.monitor ∧ (s.reply st).table = s.table ∧
      (s.reply st).sweeps = s.sweeps ∧ (s.reply st).profile = s.profile ∧ (s.reply st).freeCount = s.freeCount ∧
      (s.reply st).pending = s.pending :=
  ⟨rfl, rfl, rfl, rfl, rfl, rfl, rfl, rfl, rfl, rfl, rfl, rfl, rfl, rfl, rfl, rfl⟩

@[simp] theorem State.reply_link (s : State) (st : Status) : (s.reply st).link = s.link.answer st [] := rfl

/-- What setBreak keeps. -/
@[simp] theorem State.setBreak_keeps (s : State) (i : Nat) (f : BreakRecord → BreakRecord) :
    (s.setBreak i f).clock = s.clock ∧ (s.setBreak i f).settings = s.settings ∧ (s.setBreak i f).power = s.power ∧
      (s.setBreak i f).supply = s.supply ∧ (s.setBreak i f).lanes = s.lanes ∧ (s.setBreak i f).seq = s.seq ∧
      (s.setBreak i f).store = s.store ∧ (s.setBreak i f).dram = s.dram ∧ (s.setBreak i f).uplink = s.uplink ∧
      (s.setBreak i f).lenses = s.lenses ∧ (s.setBreak i f).monitor = s.monitor ∧ (s.setBreak i f).sweeps = s.sweeps ∧
      (s.setBreak i f).link = s.link ∧ (s.setBreak i f).profile = s.profile ∧ (s.setBreak i f).freeCount = s.freeCount ∧
      (s.setBreak i f).pending = s.pending :=
  ⟨rfl, rfl, rfl, rfl, rfl, rfl, rfl, rfl, rfl, rfl, rfl, rfl, rfl, rfl, rfl, rfl⟩

@[simp] theorem State.setBreak_table (s : State) (i : Nat) (f : BreakRecord → BreakRecord) : (s.setBreak i f).table = { s.table with records := s.table.records.modify i f } := rfl

/-- What laneCount keeps. -/
@[simp] theorem State.laneCount_keeps (s : State) (p : Port) (f : LaneCounts → LaneCounts) :
    (s.laneCount p f).clock = s.clock ∧ (s.laneCount p f).settings = s.settings ∧ (s.laneCount p f).power = s.power ∧
      (s.laneCount p f).supply = s.supply ∧ (s.laneCount p f).seq = s.seq ∧ (s.laneCount p f).store = s.store ∧
      (s.laneCount p f).dram = s.dram ∧ (s.laneCount p f).uplink = s.uplink ∧ (s.laneCount p f).lenses = s.lenses ∧
      (s.laneCount p f).monitor = s.monitor ∧ (s.laneCount p f).table = s.table ∧ (s.laneCount p f).sweeps = s.sweeps ∧
      (s.laneCount p f).link = s.link ∧ (s.laneCount p f).profile = s.profile ∧ (s.laneCount p f).freeCount = s.freeCount ∧
      (s.laneCount p f).pending = s.pending :=
  ⟨rfl, rfl, rfl, rfl, rfl, rfl, rfl, rfl, rfl, rfl, rfl, rfl, rfl, rfl, rfl, rfl⟩

@[simp] theorem State.laneCount_lanes (s : State) (p : Port) (f : LaneCounts → LaneCounts) : (s.laneCount p f).lanes = upd s.lanes p (fun l => { l with counts := f l.counts }) := rfl

/-- What laneEnters keeps. -/
@[simp] theorem State.laneEnters_keeps (s : State) (p : Port) (st : LaneState) :
    (s.laneEnters p st).clock = s.clock ∧ (s.laneEnters p st).settings = s.settings ∧ (s.laneEnters p st).power = s.power ∧
      (s.laneEnters p st).supply = s.supply ∧ (s.laneEnters p st).seq = s.seq ∧ (s.laneEnters p st).store = s.store ∧
      (s.laneEnters p st).dram = s.dram ∧ (s.laneEnters p st).uplink = s.uplink ∧ (s.laneEnters p st).lenses = s.lenses ∧
      (s.laneEnters p st).monitor = s.monitor ∧ (s.laneEnters p st).table = s.table ∧ (s.laneEnters p st).sweeps = s.sweeps ∧
      (s.laneEnters p st).link = s.link ∧ (s.laneEnters p st).profile = s.profile ∧ (s.laneEnters p st).freeCount = s.freeCount ∧
      (s.laneEnters p st).pending = s.pending :=
  ⟨rfl, rfl, rfl, rfl, rfl, rfl, rfl, rfl, rfl, rfl, rfl, rfl, rfl, rfl, rfl, rfl⟩

@[simp] theorem State.laneEnters_lanes (s : State) (p : Port) (st : LaneState) : (s.laneEnters p st).lanes = upd s.lanes p (fun l => { l with state := st, since := s.clock }) := rfl

/-- What lensCount keeps. -/
@[simp] theorem State.lensCount_keeps (s : State) (p : Port) (f : LensCounts → LensCounts) :
    (s.lensCount p f).clock = s.clock ∧ (s.lensCount p f).settings = s.settings ∧ (s.lensCount p f).power = s.power ∧
      (s.lensCount p f).supply = s.supply ∧ (s.lensCount p f).lanes = s.lanes ∧ (s.lensCount p f).seq = s.seq ∧
      (s.lensCount p f).store = s.store ∧ (s.lensCount p f).dram = s.dram ∧ (s.lensCount p f).uplink = s.uplink ∧
      (s.lensCount p f).monitor = s.monitor ∧ (s.lensCount p f).table = s.table ∧ (s.lensCount p f).sweeps = s.sweeps ∧
      (s.lensCount p f).link = s.link ∧ (s.lensCount p f).profile = s.profile ∧ (s.lensCount p f).freeCount = s.freeCount ∧
      (s.lensCount p f).pending = s.pending :=
  ⟨rfl, rfl, rfl, rfl, rfl, rfl, rfl, rfl, rfl, rfl, rfl, rfl, rfl, rfl, rfl, rfl⟩

@[simp] theorem State.lensCount_lenses (s : State) (p : Port) (f : LensCounts → LensCounts) : (s.lensCount p f).lenses = upd s.lenses p (fun l => { l with counts := f l.counts }) := rfl

/-- What measured keeps. -/
@[simp] theorem State.measured_keeps (s : State) (millivolts : Nat) :
    (s.measured millivolts).clock = s.clock ∧ (s.measured millivolts).settings = s.settings ∧ (s.measured millivolts).power = s.power ∧
      (s.measured millivolts).lanes = s.lanes ∧ (s.measured millivolts).seq = s.seq ∧ (s.measured millivolts).store = s.store ∧
      (s.measured millivolts).dram = s.dram ∧ (s.measured millivolts).uplink = s.uplink ∧ (s.measured millivolts).lenses = s.lenses ∧
      (s.measured millivolts).monitor = s.monitor ∧ (s.measured millivolts).table = s.table ∧ (s.measured millivolts).sweeps = s.sweeps ∧
      (s.measured millivolts).link = s.link ∧ (s.measured millivolts).profile = s.profile ∧ (s.measured millivolts).freeCount = s.freeCount ∧
      (s.measured millivolts).pending = s.pending :=
  ⟨rfl, rfl, rfl, rfl, rfl, rfl, rfl, rfl, rfl, rfl, rfl, rfl, rfl, rfl, rfl, rfl⟩

@[simp] theorem State.measured_supply (s : State) (millivolts : Nat) : (s.measured millivolts).supply = { s.supply with millivolts := millivolts } := rfl

/-- What setSweep keeps. -/
@[simp] theorem State.setSweep_keeps (s : State) (f : Sweep → Sweep) :
    (s.setSweep f).clock = s.clock ∧ (s.setSweep f).settings = s.settings ∧ (s.setSweep f).power = s.power ∧
      (s.setSweep f).supply = s.supply ∧ (s.setSweep f).lanes = s.lanes ∧ (s.setSweep f).seq = s.seq ∧
      (s.setSweep f).store = s.store ∧ (s.setSweep f).dram = s.dram ∧ (s.setSweep f).uplink = s.uplink ∧
      (s.setSweep f).lenses = s.lenses ∧ (s.setSweep f).monitor = s.monitor ∧ (s.setSweep f).table = s.table ∧
      (s.setSweep f).link = s.link ∧ (s.setSweep f).profile = s.profile ∧ (s.setSweep f).freeCount = s.freeCount ∧
      (s.setSweep f).pending = s.pending :=
  ⟨rfl, rfl, rfl, rfl, rfl, rfl, rfl, rfl, rfl, rfl, rfl, rfl, rfl, rfl, rfl, rfl⟩

@[simp] theorem State.setSweep_sweeps (s : State) (f : Sweep → Sweep) : (s.setSweep f).sweeps = { s.sweeps with sweep := s.sweeps.sweep.map f } := rfl

/-- What goodWord keeps. -/
@[simp] theorem State.goodWord_keeps (s : State) :
    s.goodWord.clock = s.clock ∧ s.goodWord.settings = s.settings ∧ s.goodWord.power = s.power ∧
      s.goodWord.supply = s.supply ∧ s.goodWord.lanes = s.lanes ∧ s.goodWord.seq = s.seq ∧
      s.goodWord.store = s.store ∧ s.goodWord.dram = s.dram ∧ s.goodWord.lenses = s.lenses ∧
      s.goodWord.monitor = s.monitor ∧ s.goodWord.table = s.table ∧ s.goodWord.sweeps = s.sweeps ∧
      s.goodWord.link = s.link ∧ s.goodWord.profile = s.profile ∧ s.goodWord.freeCount = s.freeCount ∧
      s.goodWord.pending = s.pending :=
  ⟨rfl, rfl, rfl, rfl, rfl, rfl, rfl, rfl, rfl, rfl, rfl, rfl, rfl, rfl, rfl, rfl⟩

@[simp] theorem State.goodWord_uplink (s : State) : s.goodWord.uplink = { s.uplink with lastGoodWord := s.clock } := rfl

/-- What a posted notice keeps. -/
@[simp] theorem State.post_keeps (s : State) (q : Option Port) (body : NoticeBody) :
    (s.post q body).clock = s.clock ∧ (s.post q body).settings = s.settings ∧ (s.post q body).power = s.power ∧
      (s.post q body).supply = s.supply ∧ (s.post q body).lanes = s.lanes ∧ (s.post q body).seq = s.seq ∧
      (s.post q body).store = s.store ∧ (s.post q body).dram = s.dram ∧ (s.post q body).uplink = s.uplink ∧
      (s.post q body).lenses = s.lenses ∧ (s.post q body).monitor = s.monitor ∧ (s.post q body).table = s.table ∧
      (s.post q body).sweeps = s.sweeps ∧ (s.post q body).profile = s.profile ∧ (s.post q body).freeCount = s.freeCount ∧
      (s.post q body).pending = s.pending := by
  unfold State.post
  split <;> exact ⟨rfl, rfl, rfl, rfl, rfl, rfl, rfl, rfl, rfl, rfl, rfl, rfl, rfl, rfl, rfl, rfl⟩

/-- What portStateNotice keeps. -/
@[simp] theorem State.portStateNotice_keeps (s : State) (p : Port) (prev : PowerState) :
    (s.portStateNotice p prev).clock = s.clock ∧ (s.portStateNotice p prev).settings = s.settings ∧ (s.portStateNotice p prev).power = s.power ∧
      (s.portStateNotice p prev).supply = s.supply ∧ (s.portStateNotice p prev).lanes = s.lanes ∧ (s.portStateNotice p prev).seq = s.seq ∧
      (s.portStateNotice p prev).store = s.store ∧ (s.portStateNotice p prev).dram = s.dram ∧ (s.portStateNotice p prev).uplink = s.uplink ∧
      (s.portStateNotice p prev).lenses = s.lenses ∧ (s.portStateNotice p prev).monitor = s.monitor ∧ (s.portStateNotice p prev).table = s.table ∧
      (s.portStateNotice p prev).sweeps = s.sweeps ∧ (s.portStateNotice p prev).profile = s.profile ∧ (s.portStateNotice p prev).freeCount = s.freeCount ∧
      (s.portStateNotice p prev).pending = s.pending :=
  State.post_keeps _ _ _

/-- What laneNotice keeps. -/
@[simp] theorem State.laneNotice_keeps (s : State) (p : Port) (prev : LaneState) (cause : LaneCause) :
    (s.laneNotice p prev cause).clock = s.clock ∧ (s.laneNotice p prev cause).settings = s.settings ∧ (s.laneNotice p prev cause).power = s.power ∧
      (s.laneNotice p prev cause).supply = s.supply ∧ (s.laneNotice p prev cause).lanes = s.lanes ∧ (s.laneNotice p prev cause).seq = s.seq ∧
      (s.laneNotice p prev cause).store = s.store ∧ (s.laneNotice p prev cause).dram = s.dram ∧ (s.laneNotice p prev cause).uplink = s.uplink ∧
      (s.laneNotice p prev cause).lenses = s.lenses ∧ (s.laneNotice p prev cause).monitor = s.monitor ∧ (s.laneNotice p prev cause).table = s.table ∧
      (s.laneNotice p prev cause).sweeps = s.sweeps ∧ (s.laneNotice p prev cause).profile = s.profile ∧ (s.laneNotice p prev cause).freeCount = s.freeCount ∧
      (s.laneNotice p prev cause).pending = s.pending :=
  State.post_keeps _ _ _

/-- What lensNotice keeps. -/
@[simp] theorem State.lensNotice_keeps (s : State) (p : Port) (event : LensEvent) (move : Option Move) (fault : Option LensFault) :
    (s.lensNotice p event move fault).clock = s.clock ∧ (s.lensNotice p event move fault).settings = s.settings ∧ (s.lensNotice p event move fault).power = s.power ∧
      (s.lensNotice p event move fault).supply = s.supply ∧ (s.lensNotice p event move fault).lanes = s.lanes ∧ (s.lensNotice p event move fault).seq = s.seq ∧
      (s.lensNotice p event move fault).store = s.store ∧ (s.lensNotice p event move fault).dram = s.dram ∧ (s.lensNotice p event move fault).uplink = s.uplink ∧
      (s.lensNotice p event move fault).lenses = s.lenses ∧ (s.lensNotice p event move fault).monitor = s.monitor ∧ (s.lensNotice p event move fault).table = s.table ∧
      (s.lensNotice p event move fault).sweeps = s.sweeps ∧ (s.lensNotice p event move fault).profile = s.profile ∧ (s.lensNotice p event move fault).freeCount = s.freeCount ∧
      (s.lensNotice p event move fault).pending = s.pending :=
  State.post_keeps _ _ _

/-- What planNotice keeps. -/
@[simp] theorem State.planNotice_keeps (s : State) (prev : PlanState) (cause : PlanCause) :
    (s.planNotice prev cause).clock = s.clock ∧ (s.planNotice prev cause).settings = s.settings ∧ (s.planNotice prev cause).power = s.power ∧
      (s.planNotice prev cause).supply = s.supply ∧ (s.planNotice prev cause).lanes = s.lanes ∧ (s.planNotice prev cause).seq = s.seq ∧
      (s.planNotice prev cause).store = s.store ∧ (s.planNotice prev cause).dram = s.dram ∧ (s.planNotice prev cause).uplink = s.uplink ∧
      (s.planNotice prev cause).lenses = s.lenses ∧ (s.planNotice prev cause).monitor = s.monitor ∧ (s.planNotice prev cause).table = s.table ∧
      (s.planNotice prev cause).sweeps = s.sweeps ∧ (s.planNotice prev cause).profile = s.profile ∧ (s.planNotice prev cause).freeCount = s.freeCount ∧
      (s.planNotice prev cause).pending = s.pending :=
  State.post_keeps _ _ _

/-- What attachNotice keeps. -/
@[simp] theorem State.attachNotice_keeps (s : State) (p : Port) (event : PortEvent) :
    (s.attachNotice p event).clock = s.clock ∧ (s.attachNotice p event).settings = s.settings ∧ (s.attachNotice p event).power = s.power ∧
      (s.attachNotice p event).supply = s.supply ∧ (s.attachNotice p event).lanes = s.lanes ∧ (s.attachNotice p event).seq = s.seq ∧
      (s.attachNotice p event).store = s.store ∧ (s.attachNotice p event).dram = s.dram ∧ (s.attachNotice p event).uplink = s.uplink ∧
      (s.attachNotice p event).lenses = s.lenses ∧ (s.attachNotice p event).monitor = s.monitor ∧ (s.attachNotice p event).table = s.table ∧
      (s.attachNotice p event).sweeps = s.sweeps ∧ (s.attachNotice p event).profile = s.profile ∧ (s.attachNotice p event).freeCount = s.freeCount ∧
      (s.attachNotice p event).pending = s.pending :=
  State.post_keeps _ _ _

/-- What readyNotice keeps. -/
@[simp] theorem State.readyNotice_keeps (s : State) :
    s.readyNotice.clock = s.clock ∧ s.readyNotice.settings = s.settings ∧ s.readyNotice.power = s.power ∧
      s.readyNotice.supply = s.supply ∧ s.readyNotice.lanes = s.lanes ∧ s.readyNotice.seq = s.seq ∧
      s.readyNotice.store = s.store ∧ s.readyNotice.dram = s.dram ∧ s.readyNotice.uplink = s.uplink ∧
      s.readyNotice.lenses = s.lenses ∧ s.readyNotice.monitor = s.monitor ∧ s.readyNotice.table = s.table ∧
      s.readyNotice.sweeps = s.sweeps ∧ s.readyNotice.profile = s.profile ∧ s.readyNotice.freeCount = s.freeCount ∧
      s.readyNotice.pending = s.pending :=
  State.post_keeps _ _ _

/-- What a change of power state keeps. -/
@[simp] theorem State.setPowerState_keeps (s : State) (p : Port) (new : PowerState) (r : OffReason) :
    (s.setPowerState p new r).clock = s.clock ∧ (s.setPowerState p new r).settings = s.settings ∧ (s.setPowerState p new r).supply = s.supply ∧
      (s.setPowerState p new r).lanes = s.lanes ∧ (s.setPowerState p new r).seq = s.seq ∧ (s.setPowerState p new r).store = s.store ∧
      (s.setPowerState p new r).dram = s.dram ∧ (s.setPowerState p new r).uplink = s.uplink ∧ (s.setPowerState p new r).lenses = s.lenses ∧
      (s.setPowerState p new r).monitor = s.monitor ∧ (s.setPowerState p new r).table = s.table ∧ (s.setPowerState p new r).sweeps = s.sweeps ∧
      (s.setPowerState p new r).profile = s.profile ∧ (s.setPowerState p new r).freeCount = s.freeCount ∧ (s.setPowerState p new r).pending = s.pending := by
  simp [State.setPowerState]

@[simp] theorem State.setPowerState_power (s : State) (p : Port) (new : PowerState) (r : OffReason) :
    (s.setPowerState p new r).power = upd s.power p (fun w => w.enter (s.profileOf p) s.clock new r) := by
  simp [State.setPowerState]

/-- The profile of a port is a function of the settings alone. -/
theorem State.profileOf_congr (s t : State) (p : Port) (h : s.settings = t.settings) : s.profileOf p = t.profileOf p := by
  simp [State.profileOf, h]

end Sys2Proof.Machine
end

