-- ==== Sys2Proof/Laws/Memory.lean ====
section
/-!
SUPPORT. The frame DRAM: every operation keeps its canonical form, a byte written is read back, and every other byte reads
as before.
-/

namespace Sys2Proof.Machine

theorem Memory.wfFrom_mono : ∀ (m : List Host.Cell) (low low' : Nat), low' ≤ low → Memory.wfFrom low m = true →
    Memory.wfFrom low' m = true
  | [], _, _, _, _ => rfl
  | (b, x) :: rest, low, low', h, w => by
    simp only [Memory.wfFrom, Bool.and_eq_true, decide_eq_true_eq] at w ⊢
    exact ⟨⟨⟨Nat.le_trans h w.1.1.1, w.1.1.2⟩, w.1.2⟩, w.2⟩

/-- Writing a byte at or above `low` keeps the form. -/
theorem Memory.write_wfFrom : ∀ (m : List Host.Cell) (low a : Nat) (v : Byte), low ≤ a → a < 1073741824 →
    Memory.wfFrom low m = true → Memory.wfFrom low (Memory.write m a v) = true
  | [], low, a, v, hl, ha, _ => by
    unfold Memory.write
    split
    · rfl
    · next h =>
      simp only [Memory.wfFrom, Bool.and_eq_true, decide_eq_true_eq, and_true]
      exact ⟨⟨hl, ha⟩, by simpa using h⟩
  | (b, x) :: rest, low, a, v, hl, ha, w => by
    have w0 := w
    simp only [Memory.wfFrom, Bool.and_eq_true, decide_eq_true_eq] at w
    obtain ⟨⟨⟨h1, h2⟩, h3⟩, h4⟩ := w
    unfold Memory.write
    split
    · next hlt =>
      split
      · exact w0
      · next hv =>
        simp only [Memory.wfFrom, Bool.and_eq_true, decide_eq_true_eq]
        exact ⟨⟨⟨hl, ha⟩, by simpa using hv⟩, ⟨⟨⟨hlt, h2⟩, h3⟩, h4⟩⟩
    · split
      · next heq =>
        split
        · exact Memory.wfFrom_mono rest (b + 1) low (Nat.le_succ_of_le h1) h4
        · next hv =>
          simp only [Memory.wfFrom, Bool.and_eq_true, decide_eq_true_eq]
          exact ⟨⟨⟨hl, ha⟩, by simpa using hv⟩, heq ▸ h4⟩
      · next hlt hne =>
        simp only [Memory.wfFrom, Bool.and_eq_true, decide_eq_true_eq]
        exact ⟨⟨⟨h1, h2⟩, h3⟩, Memory.write_wfFrom rest (b + 1) a v (by omega) ha h4⟩

/-- An address below the first entry reads as 0. -/
theorem Memory.read_below : ∀ (m : List Host.Cell) (low a : Nat), a < low → Memory.wfFrom low m = true → Memory.read m a = 0
  | [], _, _, _, _ => rfl
  | (b, x) :: rest, low, a, h, w => by
    simp only [Memory.wfFrom, Bool.and_eq_true, decide_eq_true_eq] at w
    have hb : low ≤ b := w.1.1.1
    unfold Memory.read
    rw [if_neg (by omega), if_pos (by omega)]

/-- A byte written is read back, and every other byte reads as before. -/
theorem Memory.read_write : ∀ (m : List Host.Cell) (low a c : Nat) (v : Byte), Memory.wfFrom low m = true →
    Memory.read (Memory.write m a v) c = if c = a then v else Memory.read m c
  | [], low, a, c, v, _ => by
    unfold Memory.write
    split
    · next h => rw [h]; split <;> rfl
    · simp only [Memory.read, ite_self]
  | (b, x) :: rest, low, a, c, v, w => by
    have w0 := w
    simp only [Memory.wfFrom, Bool.and_eq_true, decide_eq_true_eq] at w
    have hrest := w.2
    unfold Memory.write
    split
    · next hlt =>
      split
      · next hv =>
        split
        · next hc => rw [hc, hv]; exact Memory.read_below _ b a hlt (by
            simp only [Memory.wfFrom, Bool.and_eq_true, decide_eq_true_eq]; exact ⟨⟨⟨Nat.le_refl _, w.1.1.2⟩, w.1.2⟩, hrest⟩)
        · rfl
      · conv_lhs => unfold Memory.read
        by_cases hc : c = a
        · simp [hc]
        · by_cases hca : c < a
          · rw [if_neg hc, if_pos hca, if_neg hc]
            unfold Memory.read
            rw [if_neg (by omega), if_pos (by omega)]
          · rw [if_neg hc, if_neg hca, if_neg hc]
    · split
      · next heq =>
        subst heq
        split
        · next hv =>
          by_cases hc : c = a
          · subst hc
            rw [if_pos rfl, hv]
            exact Memory.read_below rest (c + 1) c (by omega) hrest
          · rw [if_neg hc]
            conv_rhs => unfold Memory.read
            rw [if_neg hc]
            split
            · next hlt => exact Memory.read_below rest (a + 1) c (by omega) hrest
            · rfl
        · by_cases hc : c = a <;> simp [Memory.read, hc]
      · next hlt hne =>
        conv_lhs => unfold Memory.read
        conv_rhs => rw [show Memory.read ((b, x) :: rest) c = (if c = b then x else if c < b then 0 else Memory.read rest c) from rfl]
        rw [Memory.read_write rest (b + 1) a c v hrest]
        by_cases hcb : c = b
        · rw [if_pos hcb, if_pos hcb, if_neg (by omega)]
        · rw [if_neg hcb, if_neg hcb]
          by_cases hc : c = a
          · rw [if_pos hc, if_pos hc, if_neg (by omega)]
          · rw [if_neg hc, if_neg hc]

theorem bufferAddr_lt (buffer : Fin 48) (offset : Nat) : bufferAddr buffer offset < 1073741824 := by
  unfold bufferAddr
  have := buffer.isLt
  have := Nat.mod_lt offset (show 0 < 16777216 by omega)
  omega

theorem Memory.write_wf (m : List Host.Cell) (a : Nat) (v : Byte) (ha : a < 1073741824) (w : Memory.wf m = true) :
    Memory.wf (Memory.write m a v) = true :=
  Memory.write_wfFrom m 0 a v (Nat.zero_le _) ha w

theorem Memory.read_write_wf (m : List Host.Cell) (a c : Nat) (v : Byte) (w : Memory.wf m = true) :
    Memory.read (Memory.write m a v) c = if c = a then v else Memory.read m c :=
  Memory.read_write m 0 a c v w

theorem Memory.writeBytes_wf (buffer : Fin 48) : ∀ (bs : List Byte) (m : List Host.Cell) (offset : Nat),
    Memory.wf m = true → Memory.wf (Memory.writeBytes m buffer offset bs) = true
  | [], _, _, w => w
  | b :: bs, m, offset, w =>
    Memory.writeBytes_wf buffer bs _ _ (Memory.write_wf m _ b (bufferAddr_lt buffer offset) w)

/-- A byte that no written place addresses reads as before. -/
theorem Memory.read_writeBytes_other (buffer : Fin 48) : ∀ (bs : List Byte) (m : List Host.Cell) (offset c : Nat),
    Memory.wf m = true → (∀ i, i < bs.length → c ≠ bufferAddr buffer (offset + i)) →
    Memory.read (Memory.writeBytes m buffer offset bs) c = Memory.read m c
  | [], _, _, _, _, _ => rfl
  | b :: bs, m, offset, c, w, h => by
    unfold Memory.writeBytes
    rw [Memory.read_writeBytes_other buffer bs _ _ c (Memory.write_wf m _ b (bufferAddr_lt buffer offset) w)
        (fun i hi => by
          have := h (i + 1) (by simp only [List.length_cons]; omega)
          rwa [show offset + (i + 1) = offset + 1 + i by omega] at this),
      Memory.read_write_wf m _ c b w]
    exact if_neg (by simpa using h 0 (by simp))

/-- Two places of one buffer less than 16 MiB apart have different addresses. -/
theorem bufferAddr_ne (buffer : Fin 48) (a b : Nat) (h : a < b) (hb : b < a + 16777216) :
    bufferAddr buffer a ≠ bufferAddr buffer b := by
  unfold bufferAddr
  omega

/-- A byte written is read back. -/
theorem Memory.read_writeBytes_at (buffer : Fin 48) : ∀ (bs : List Byte) (m : List Host.Cell) (offset i : Nat),
    Memory.wf m = true → bs.length ≤ 16777216 → (h : i < bs.length) →
    Memory.read (Memory.writeBytes m buffer offset bs) (bufferAddr buffer (offset + i)) = bs[i]
  | [], _, _, _, _, _, h => absurd h (by simp)
  | b :: bs, m, offset, 0, w, hl, _ => by
    unfold Memory.writeBytes
    rw [Memory.read_writeBytes_other buffer bs _ _ _ (Memory.write_wf m _ b (bufferAddr_lt buffer offset) w)
        (fun i hi => by
          simp only [List.length_cons] at hl
          exact bufferAddr_ne buffer _ _ (by omega) (by omega)),
      Memory.read_write_wf m _ _ b w]
    simp
  | b :: bs, m, offset, i + 1, w, hl, h => by
    unfold Memory.writeBytes
    have := Memory.read_writeBytes_at buffer bs (Memory.write m (bufferAddr buffer offset) b) (offset + 1) i
      (Memory.write_wf m _ b (bufferAddr_lt buffer offset) w) (by simp only [List.length_cons] at hl; omega)
      (by simpa using h)
    rw [show offset + (i + 1) = offset + 1 + i by omega, this]
    simp

theorem Memory.writeLine_wf (m : List Host.Cell) (buffer : Fin 48) (width k : Nat) (pixels : List Nat)
    (w : Memory.wf m = true) : Memory.wf (Memory.writeLine m buffer width k pixels) = true :=
  Memory.writeBytes_wf buffer _ m _ w

theorem Memory.fillLines_wf (buffer : Fin 48) (width : Nat) : ∀ (ks : List Nat) (m : List Host.Cell),
    Memory.wf m = true → Memory.wf (Memory.fillLines m buffer width ks) = true
  | [], _, w => w
  | k :: ks, m, w => Memory.fillLines_wf buffer width ks _ (Memory.writeLine_wf m buffer width k _ w)

theorem Memory.combine_wf (target : Fin 48) (members : List (Sign × Fin 48)) (depth : Nat) : ∀ (n : Nat)
    (m : List Host.Cell), Memory.wf m = true → Memory.wf (Memory.combine target members depth n m) = true
  | 0, _, w => w
  | n + 1, m, w => Memory.writeBytes_wf target _ _ _ (Memory.combine_wf target members depth n m w)

end Sys2Proof.Machine
end

