-- ==== Sys2Proof/Laws/Operands.lean ====
section
/-!
SUPPORT. The field encodings undo each other: a number read from its own bytes is the number (R174), a content whose bytes are
escaped and unescaped is the content, and a frame spelled by section 9.1 is judged well formed (R172).
-/

namespace Sys2Proof.Machine

/-! ## Numbers in bytes -/

@[simp] theorem numBytes_length : ∀ (k n : Nat), (numBytes k n).length = k
  | 0, _ => rfl
  | k + 1, n => by simp [numBytes, numBytes_length k]

@[simp] theorem num1_length (n : Nat) : (num1 n).length = 1 := numBytes_length 1 n
@[simp] theorem num2_length (n : Nat) : (num2 n).length = 2 := numBytes_length 2 n
@[simp] theorem num4_length (n : Nat) : (num4 n).length = 4 := numBytes_length 4 n
@[simp] theorem num8_length (n : Nat) : (num8 n).length = 8 := numBytes_length 8 n

theorem bytesNum_append_one (bs : List Byte) (b : Byte) : bytesNum (bs ++ [b]) = bytesNum bs * 256 + b.toNat := by
  simp [bytesNum]

/-- A number read from its own bytes. -/
theorem bytesNum_numBytes : ∀ (k n : Nat), n < 256 ^ k → bytesNum (numBytes k n) = n
  | 0, n, h => by simp only [Nat.pow_zero] at h; simp [numBytes, bytesNum]; omega
  | k + 1, n, h => by
    rw [numBytes, bytesNum_append_one, bytesNum_numBytes k (n / 256) (by rw [Nat.pow_succ] at h; omega)]
    simp only [BitVec.toNat_ofNat]
    omega

/-- The field at the start of a body. -/
theorem numAt_head (k n : Nat) (rest : List Byte) (h : n < 256 ^ k) : numAt (numBytes k n ++ rest) 0 k = n := by
  rw [numAt, List.drop_zero, List.take_left' (numBytes_length k n), bytesNum_numBytes k n h]

/-- The field after the first ones of a body. -/
theorem numAt_skip (pre rest : List Byte) (o size : Nat) (h : pre.length ≤ o) :
    numAt (pre ++ rest) o size = numAt rest (o - pre.length) size := by
  rw [numAt, List.drop_append, List.drop_eq_nil_of_le h, List.nil_append, numAt]

/-- The fields of a body that a longer body begins with. -/
theorem numAt_left (pre rest : List Byte) (o size : Nat) (h : o + size ≤ pre.length) :
    numAt (pre ++ rest) o size = numAt pre o size := by
  rw [numAt, numAt, List.drop_append_of_le_length (by omega), List.take_append_of_le_length (by simp; omega)]

theorem numAt_num1 (n : Nat) (rest : List Byte) (h : n < 256) : numAt (num1 n ++ rest) 0 1 = n := numAt_head 1 n rest h
theorem numAt_num2 (n : Nat) (rest : List Byte) (h : n < 65536) : numAt (num2 n ++ rest) 0 2 = n := numAt_head 2 n rest h
theorem numAt_num4 (n : Nat) (rest : List Byte) (h : n < 4294967296) : numAt (num4 n ++ rest) 0 4 = n :=
  numAt_head 4 n rest h

/-- A port read from its own byte. -/
theorem portAt_num1 (p : Port) (rest : List Byte) : portAt (num1 p.val ++ rest) 0 = some p := by
  have := p.isLt
  simp only [portAt, numAt_num1 p.val rest (by omega)]
  rw [dif_pos this]

theorem portAt_num1_only (p : Port) : portAt (num1 p.val) 0 = some p := by
  have := portAt_num1 p []
  rwa [List.append_nil] at this

theorem portAt_none (b : Byte) (rest : List Byte) (h : 7 < b.toNat) : portAt (b :: rest) 0 = none := by
  simp only [portAt, numAt, List.drop_zero, List.take_succ_cons, List.take_zero, bytesNum, List.foldl_cons, List.foldl_nil,
    Nat.zero_mul, Nat.zero_add]
  rw [dif_neg (by omega)]

/-! ## Frames on the line (section 9.1, R172) -/

theorem escape_xor (b : Byte) (h : b = 0xF5 ∨ b = 0xF4) : (b ^^^ 0x40 = 0xB4 ∨ b ^^^ 0x40 = 0xB5) ∧ b ^^^ 0x40 ^^^ 0x40 = b := by
  rcases h with rfl | rfl <;> decide

/-- Escaping and unescaping give the content back. -/
theorem unescape_escapeBytes : ∀ bs : List Byte, unescape (escapeBytes bs) = some bs
  | [] => rfl
  | b :: bs => by
    unfold escapeBytes
    split
    · next h =>
      have hx := escape_xor b h
      rw [unescape, if_pos rfl, if_pos hx.1, unescape_escapeBytes bs, Option.map_some, hx.2]
    · next h =>
      have hb : b ≠ 0xF4 := fun e => h (.inr e)
      have ih := unescape_escapeBytes bs
      cases hc : escapeBytes bs with
      | nil =>
        rw [hc] at ih
        rw [unescape, if_neg hb]
        simp only [unescape, Option.some.injEq] at ih
        rw [← ih]
      | cons c rest =>
        rw [hc] at ih
        rw [unescape, if_neg hb, ih]
        rfl

/-- An escaped content gathers as many bytes as it has. -/
theorem gatheredCount_escapeBytes : ∀ bs : List Byte, gatheredCount (escapeBytes bs) = bs.length
  | [] => rfl
  | b :: bs => by
    have ih := gatheredCount_escapeBytes bs
    unfold escapeBytes
    split
    · rw [gatheredCount, if_pos rfl, ih, List.length_cons]; omega
    · next h =>
      have hb : b ≠ 0xF4 := fun e => h (.inr e)
      cases hc : escapeBytes bs with
      | nil =>
        rw [hc] at ih
        rw [gatheredCount, if_neg hb, List.length_cons, ← ih]
        rfl
      | cons c rest =>
        rw [hc] at ih
        rw [gatheredCount, if_neg hb, ih, List.length_cons]; omega

theorem escapeBytes_ne_nil (b : Byte) (bs : List Byte) : escapeBytes (b :: bs) ≠ [] := by
  unfold escapeBytes
  split <;> simp

/-- A content spelled by section 9.1 is judged well formed (R172). -/
theorem judgeContent_spelled (kind tag : Byte) (body : List Byte) (h : body.length ≤ 1024) :
    judgeContent (withCrc16 ([kind, tag] ++ num2 body.length ++ body)) = .wellFormed ⟨kind, tag, body⟩ := by
  have hn : bytesNum (num2 body.length) = body.length := bytesNum_numBytes 2 _ (by omega)
  have e : num2 body.length = [BitVec.ofNat 8 (body.length / 256), BitVec.ofNat 8 body.length] := rfl
  rw [e] at hn ⊢
  simp only [withCrc16, List.cons_append, List.nil_append, judgeContent, hn, List.length_append, num2_length]
  rw [if_neg (by omega), if_neg (by simp), List.take_left' rfl]
  simp

/-- A request frame as it stands on the line is judged well formed. -/
theorem judge_lineOf (kind tag : Byte) (body : List Byte) (h : body.length ≤ 1024) :
    judge (Safety.lineOf kind tag body) = .wellFormed ⟨kind, tag, body⟩ := by
  have e : (Safety.lineOf kind tag body).map (·.value) =
      escapeBytes (withCrc16 ([kind, tag] ++ num2 body.length ++ body)) := by
    simp [Safety.lineOf, Function.comp_def]
  have hne : Safety.lineOf kind tag body ≠ [] := by
    intro h0
    have := congrArg (List.map (·.value)) h0
    rw [e] at this
    exact escapeBytes_ne_nil _ _ this
  have hlen : (withCrc16 ([kind, tag] ++ num2 body.length ++ body)).length = body.length + 6 := by
    simp only [withCrc16, List.length_append, num2_length, List.length_cons, List.length_nil]; omega
  unfold judge
  rw [if_neg hne, e, gatheredCount_escapeBytes, hlen, if_neg (by omega), if_neg (by simp [Safety.lineOf]),
    unescape_escapeBytes]
  exact judgeContent_spelled kind tag body h

end Sys2Proof.Machine
end

