-- ==== Sys2Proof/Laws/Ops.lean ====
section
/-!
SUPPORT. What the shared operations of the blocks do, said once: serving a request, posting a notice, replying,
the transmit choice, the walk, a lens that does not answer, and the ports of a row.
-/

namespace Sys2Proof.Machine

open Sys2Proof.Safety

/-! ## Serving a request (R173, R175) -/

/-- A request of a row's kind whose body is one of the row's and has a length of the kind reaches its owner. -/
theorem serveWhen_owner {s : State} {kind tag : Byte} {body : List Byte} (h : Serves s kind tag body)
    {lengthOk ofRow : List Byte → Bool} (hl : lengthOk body = true) (ho : ofRow body = true)
    (owner : List Byte → State → State) :
    s.serveWhen kind lengthOk ofRow owner = .next (owner body s).transmit := by
  simp [State.serveWhen, show s.link.toServe = some ⟨kind, tag, body⟩ from h, hl, ho, finish]

/-- A request whose body has not a length of its kind is answered BAD_LENGTH. -/
theorem serveWhen_badLength {s : State} {kind tag : Byte} {body : List Byte} (h : Serves s kind tag body)
    {lengthOk : List Byte → Bool} (hl : lengthOk body = false) (ofRow : List Byte → Bool)
    (owner : List Byte → State → State) :
    s.serveWhen kind lengthOk ofRow owner = .next (s.reply .badLength).transmit := by
  simp [State.serveWhen, show s.link.toServe = some ⟨kind, tag, body⟩ from h, hl, finish]

/-- A request whose kind has one body length, and whose body has it, reaches its owner. -/
theorem serve_owner {s : State} {kind tag : Byte} {body : List Byte} (h : Serves s kind tag body) {size : Nat}
    (hl : body.length = size) (owner : List Byte → State → State) :
    s.serve kind size owner = .next (owner body s).transmit :=
  serveWhen_owner h (by simp [hl]) rfl owner

/-- A request in service stands at the head of the queue, unanswered. -/
theorem Serves.head {s : State} {kind tag : Byte} {body : List Byte} (h : Serves s kind tag body) :
    s.link.answered = false ∧ ∃ rest, s.link.requests = ⟨kind, tag, body⟩ :: rest := by
  simp only [Serves, Link.toServe] at h
  split at h
  · cases h
  · next hn =>
    refine ⟨by simpa using hn, ?_⟩
    cases hr : s.link.requests with
    | nil => rw [hr] at h; cases h
    | cons r rest => rw [hr] at h; simp only [List.head?_cons, Option.some.injEq] at h; exact ⟨rest, by rw [h]⟩

/-! ## Notices and replies (R173, R176) -/

/-- A notice posted with room on the queue. -/
theorem post_room {s : State} (h : s.link.notices.length < 32) (port : Option Port) (body : NoticeBody) :
    s.post port body = { s with link := { s.link with notices := s.link.notices ++ [⟨port, s.clock, body⟩] } } := by
  simp [State.post, h]

/-- Whatever the queue holds, a notice posted changes the link alone. -/
theorem post_link (s : State) (port : Option Port) (body : NoticeBody) :
    ∃ l : Link, s.post port body = { s with link := l } ∧ l.framer = s.link.framer ∧ l.requests = s.link.requests ∧
      l.answered = s.link.answered ∧ l.replies = s.link.replies ∧ l.sending = s.link.sending := by
  unfold State.post
  split
  · exact ⟨_, rfl, rfl, rfl, rfl, rfl, rfl⟩
  · exact ⟨_, rfl, rfl, rfl, rfl, rfl, rfl⟩

/-- A reply changes the link alone. -/
theorem answer_link (s : State) (status : Status) (fields : List Byte) :
    ∃ l : Link, s.answer status fields = { s with link := l } ∧ l.requests = s.link.requests ∧
      l.notices = s.link.notices ∧ l.lost = s.link.lost :=  by
  unfold State.answer Link.answer
  split <;> exact ⟨_, rfl, rfl, rfl, rfl⟩

/-- The transmit choice changes the link alone, and takes nothing from the request queue. -/
theorem transmit_link (s : State) :
    ∃ l : Link, s.transmit = { s with link := l } ∧ l.requests = s.link.requests ∧ l.answered = s.link.answered ∧
      l.counts = s.link.counts := by
  unfold State.transmit Link.transmit
  split
  · exact ⟨_, rfl, rfl, rfl, rfl⟩
  · split
    · exact ⟨_, rfl, rfl, rfl, rfl⟩
    · split <;> exact ⟨_, rfl, rfl, rfl, rfl⟩

/-! ## The walk (R20, R21) -/

/-- With no claim on the list the walk changes nothing. -/
theorem walk_nil {s : State} (h : s.supply.claims = []) : s.walk = s := by simp [State.walk, h, State.walkSteps]

/-- With the supply LOW the walk changes nothing (R21). -/
theorem walk_low {s : State} (h : s.supply.low.isSome = true) : s.walk = s := by
  unfold State.walk
  cases hc : s.supply.claims with
  | nil => rfl
  | cons c rest =>
    have : s.admits c = false := by
      cases hl : s.supply.low with
      | none => rw [hl] at h; cases h
      | some x => simp [State.admits, hl]
    simp [State.walkSteps, hc, this]

/-! ## A lens that does not answer (R127, R128, R130) -/

/-- A STOP that hangs leaves a STALLED lens as it is (R127). -/
theorem hang_stop_stalled {s : State} {p : Port} (h : s.lenses[p].state = .stalled) : s.hang p true = s := by
  simp only [State.hang, h, if_true]

/-- A hang leaves a lens in FAULT as it is. -/
theorem hang_fault {s : State} {p : Port} (h : s.lenses[p].state = .fault) (stop : Bool) : s.hang p stop = s := by
  simp only [State.hang, h]

/-- With no transaction of the hub under way a hang does not read whether an address byte was acknowledged (R128). -/
theorem execBusTimeout_acked {s : State} {p : Port} (h : s.lenses[p].bus.state ≠ .hub) (addressAcked : Bool) :
    execBusTimeout ⟨p, addressAcked⟩ s = execBusTimeout ⟨p, false⟩ s := by
  simp only [execBusTimeout, h, decide_false, Bool.and_false, Bool.false_eq_true, if_false]

/-- The third NO_ANSWER in a row at a lens with no move in flight and no halt read clears the count alone (R128). -/
theorem silent_idle {s : State} {p : Port} (h : s.lenses[p].occupied = false) :
    s.silent p = s.setLens p (fun l => { l with noAnswer := 0 }) := by
  simp only [State.silent, h, Bool.false_eq_true, if_false]

/-- A STOP unanswered is counted and does not count in a row (R128). -/
theorem noAnswer_stop (s : State) (p : Port) :
    s.noAnswer p .stop = s.lensCount p (fun c => { c with noAnswers := sat32 c.noAnswers }) := by
  simp [State.noAnswer]

/-! ## Frames by id (R80) -/

/-- A frame found by its id is on the list and has that id. -/
theorem Store.frame?_spec {t : Store} {id : Nat} {f : FrameRecord} (h : t.frame? id = some f) :
    f ∈ t.frames ∧ f.id = id := by
  simp only [Store.frame?] at h
  exact ⟨List.mem_of_find?_eq_some h, by simpa using List.find?_some h⟩

/-! ## The eight ports -/

theorem mem_allPorts (p : Port) : p ∈ allPorts := by fin_cases p <;> decide

end Sys2Proof.Machine
end

