-- ==== Sys2Proof/WellFormed.lean ====
section
/-!
DEFINITION. Which commands can arrive: the operands of each command lie within what its event can bring (the width of the
packet field or of the measurement that carries it). A meaning is total on the others too: they are operands that no
device on the part's pins can give (notes/assumptions/12.md).
-/

namespace Sys2Proof

/-- A REPORT is a read of 8 bytes (section 6.4). -/
def BusOutcome.wellFormed : BusOutcome → Bool
  | .ack => true
  | .noAnswer => true
  | .rejected => true
  | .report bytes => bytes.length ≤ 8

/-- Whether the operands of a command lie in their ranges: no delimiter inside a control frame (R172), samples within the
range of the current monitor (R9), a comparator that trips at 4,500 mA (R10), packet fields of their widths (section
2.3), a head message that is not empty (R132), and deviations of at most 16,384 indices from −2,048 to 2,047 (R160). DESIGN
CHOICE: a measured calibration count is below 65,536 (R159, notes/assumptions/92.md), and so is a comparator current in mA
(R11, notes/assumptions/93.md). -/
def Instr.wellFormed : Instr → Bool
  | .powerOnReset => true
  | .nreset => true
  | .controlFrameReceived bytes => bytes.all (fun b => b.value != 0xF5)
  | .unknownRequest => true
  | .txFrameEnd => true
  | .portConfig => true
  | .portPowerOn => true
  | .portPowerOff => true
  | .portPowerProbe => true
  | .portUnlock => true
  | .portStatus => true
  | .setCapacity => true
  | .setSupplyPolicy => true
  | .supplyStatus => true
  | .probePulseStart _ => true
  | .probePulseEnd _ milliamps => milliamps ≤ 4500
  | .rampEnd _ => true
  | .currentSample _ milliamps => milliamps ≤ 4500
  | .thresholdTrip _ => true
  | .hardLimitTrip _ milliamps => 4500 ≤ milliamps && milliamps < 65536
  | .openLoad _ => true
  | .cooldownEnd _ => true
  | .tripDecay _ => true
  | .supplyLow millivolts _ => millivolts < 65536
  | .supplyFullShedCheck millivolts => millivolts < 65536
  | .supplyRecovered millivolts _ => millivolts < 65536
  | .laneStatus => true
  | .laneLockAcquired _ => true
  | .trainingDeadline _ => true
  | .trainingRetry _ => true
  | .lockLost _ => true
  | .quietRetrainEnd _ _ => true
  | .packetUnknownType _ => true
  | .frameStart _ _ width height depth => width < 65536 && height < 65536 && depth < 256
  | .line _ number pixels _ => number < 65536 && pixels.length ≤ 8192
  | .frameEnd _ _ lineCount => lineCount < 65536
  | .receptionDeadline _ => true
  | .exposureWindowEnd _ => true
  | .planLoad => true
  | .planArm => true
  | .planStop => true
  | .planAbort => true
  | .planClear => true
  | .planFire => true
  | .planStatus => true
  | .signalConfig => true
  | .periodExpiry => true
  | .trigInEdge _ => true
  | .heldCycleStart => true
  | .slotDispatch _ => true
  | .frameHold => true
  | .frameRelease => true
  | .storeStatus => true
  | .combineComplete => true
  | .regionRead => true
  | .uplinkStatus => true
  | .ready _ => true
  | .grant _ => true
  | .idle => true
  | .returnError => true
  | .returnSilence => true
  | .uplinkPacketEnd => true
  | .lensMove => true
  | .lensPreset => true
  | .lensPresetSet => true
  | .lensHome => true
  | .lensHalt => true
  | .lensStatus => true
  | .pollSlot _ => true
  | .sidebandTransactionEnd _ outcome => outcome.wellFormed
  | .settleEnd _ => true
  | .moveDeadline _ => true
  | .haltReadPoll _ => true
  | .haltDeadline _ => true
  | .busTimeout _ => true
  | .arbitrationLost _ => true
  | .headMessage _ bytes => bytes != []
  | .motionSegment => true
  | .evidenceConfig => true
  | .breakList => true
  | .breakClear => true
  | .evidenceWindowClose => true
  | .cableSet => true
  | .sweepRequest => true
  | .sweepCancel => true
  | .sweepResult => true
  | .calibrationEnd count => count < 65536
  | .acquisitionEnd deviations => deviations.length ≤ 16384 && deviations.all (fun d => -2048 ≤ d && d ≤ 2047)
  | .sweepDeadline => true
  | .analysisEnd => true
  | .identify => true
  | .linkStatus => true
  | .cellReset => true
  | .profileSave => true
  | .profileWriteEnd _ => true
  | .profileRestoreDefaults => true
  | .headStart _ => true
  | .busRecoveryEnd _ => true
  | .gatheredContentOverlong => true

end Sys2Proof
end

