-- ==== Sys2Proof/Laws/PerInstr.lean ====
section
/-!
SUPPORT. Facts proved command by command. The family RequestsWellFormed: a command that serves a request of one body length is
well-formed, since what a request brings stands in the request queue and not in the command (R173, R174).
-/

namespace Sys2Proof.Laws.RequestsWellFormed

/-- A command that serves a request whose kind has one body length is well-formed. -/
def Statement (i : Instr) : Prop :=
  ∀ (kind : Byte) (size : Nat), (i, kind, size) ∈ Safety.bodyLengths → i.wellFormed = true

theorem powerOnReset : Statement (Instr.powerOnReset) := fun _ _ _ => rfl
theorem nreset : Statement (Instr.nreset) := fun _ _ _ => rfl
theorem controlFrameReceived (bytes : List LineByte) : Statement (Instr.controlFrameReceived bytes) :=
  fun _ _ h => by simp [Safety.bodyLengths] at h
theorem unknownRequest : Statement (Instr.unknownRequest) := fun _ _ _ => rfl
theorem txFrameEnd : Statement (Instr.txFrameEnd) := fun _ _ _ => rfl
theorem portConfig : Statement (Instr.portConfig) := fun _ _ _ => rfl
theorem portPowerOn : Statement (Instr.portPowerOn) := fun _ _ _ => rfl
theorem portPowerOff : Statement (Instr.portPowerOff) := fun _ _ _ => rfl
theorem portPowerProbe : Statement (Instr.portPowerProbe) := fun _ _ _ => rfl
theorem portUnlock : Statement (Instr.portUnlock) := fun _ _ _ => rfl
theorem portStatus : Statement (Instr.portStatus) := fun _ _ _ => rfl
theorem setCapacity : Statement (Instr.setCapacity) := fun _ _ _ => rfl
theorem setSupplyPolicy : Statement (Instr.setSupplyPolicy) := fun _ _ _ => rfl
theorem supplyStatus : Statement (Instr.supplyStatus) := fun _ _ _ => rfl
theorem probePulseStart (p : Port) : Statement (Instr.probePulseStart p) := fun _ _ _ => rfl
theorem probePulseEnd (p : Port) (milliamps : Nat) : Statement (Instr.probePulseEnd p milliamps) :=
  fun _ _ h => by simp [Safety.bodyLengths] at h
theorem rampEnd (p : Port) : Statement (Instr.rampEnd p) := fun _ _ _ => rfl
theorem currentSample (p : Port) (milliamps : Nat) : Statement (Instr.currentSample p milliamps) :=
  fun _ _ h => by simp [Safety.bodyLengths] at h
theorem thresholdTrip (p : Port) : Statement (Instr.thresholdTrip p) := fun _ _ _ => rfl
theorem hardLimitTrip (p : Port) (milliamps : Nat) : Statement (Instr.hardLimitTrip p milliamps) :=
  fun _ _ h => by simp [Safety.bodyLengths] at h
theorem openLoad (p : Port) : Statement (Instr.openLoad p) := fun _ _ _ => rfl
theorem cooldownEnd (p : Port) : Statement (Instr.cooldownEnd p) := fun _ _ _ => rfl
theorem tripDecay (p : Port) : Statement (Instr.tripDecay p) := fun _ _ _ => rfl
theorem supplyLow (millivolts : Nat) (heldMicros : Nat) : Statement (Instr.supplyLow millivolts heldMicros) :=
  fun _ _ h => by simp [Safety.bodyLengths] at h
theorem supplyFullShedCheck (millivolts : Nat) : Statement (Instr.supplyFullShedCheck millivolts) :=
  fun _ _ h => by simp [Safety.bodyLengths] at h
theorem supplyRecovered (millivolts : Nat) (heldMicros : Nat) : Statement (Instr.supplyRecovered millivolts heldMicros) :=
  fun _ _ h => by simp [Safety.bodyLengths] at h
theorem laneStatus : Statement (Instr.laneStatus) := fun _ _ _ => rfl
theorem laneLockAcquired (p : Port) : Statement (Instr.laneLockAcquired p) := fun _ _ _ => rfl
theorem trainingDeadline (p : Port) : Statement (Instr.trainingDeadline p) := fun _ _ _ => rfl
theorem trainingRetry (p : Port) : Statement (Instr.trainingRetry p) := fun _ _ _ => rfl
theorem lockLost (p : Port) : Statement (Instr.lockLost p) := fun _ _ _ => rfl
theorem quietRetrainEnd (p : Port) (hasLock : Bool) : Statement (Instr.quietRetrainEnd p hasLock) := fun _ _ _ => rfl
theorem packetUnknownType (p : Port) : Statement (Instr.packetUnknownType p) := fun _ _ _ => rfl
theorem frameStart (p : Port) (tag : Byte) (width height depth : Nat) : Statement (Instr.frameStart p tag width height depth) :=
  fun _ _ h => by simp [Safety.bodyLengths] at h
theorem line (p : Port) (number : Nat) (pixels : List Byte) (crc : BitVec 32) : Statement (Instr.line p number pixels crc) :=
  fun _ _ h => by simp [Safety.bodyLengths] at h
theorem frameEnd (p : Port) (tag : Byte) (lineCount : Nat) : Statement (Instr.frameEnd p tag lineCount) :=
  fun _ _ h => by simp [Safety.bodyLengths] at h
theorem receptionDeadline (p : Port) : Statement (Instr.receptionDeadline p) := fun _ _ _ => rfl
theorem exposureWindowEnd (p : Port) : Statement (Instr.exposureWindowEnd p) := fun _ _ _ => rfl
theorem planLoad : Statement (Instr.planLoad) := fun _ _ _ => rfl
theorem planArm : Statement (Instr.planArm) := fun _ _ _ => rfl
theorem planStop : Statement (Instr.planStop) := fun _ _ _ => rfl
theorem planAbort : Statement (Instr.planAbort) := fun _ _ _ => rfl
theorem planClear : Statement (Instr.planClear) := fun _ _ _ => rfl
theorem planFire : Statement (Instr.planFire) := fun _ _ _ => rfl
theorem planStatus : Statement (Instr.planStatus) := fun _ _ _ => rfl
theorem signalConfig : Statement (Instr.signalConfig) := fun _ _ _ => rfl
theorem periodExpiry : Statement (Instr.periodExpiry) := fun _ _ _ => rfl
theorem trigInEdge (edge : Edge) : Statement (Instr.trigInEdge edge) := fun _ _ _ => rfl
theorem heldCycleStart : Statement (Instr.heldCycleStart) := fun _ _ _ => rfl
theorem slotDispatch (slot : Fin 4) : Statement (Instr.slotDispatch slot) := fun _ _ _ => rfl
theorem frameHold : Statement (Instr.frameHold) := fun _ _ _ => rfl
theorem frameRelease : Statement (Instr.frameRelease) := fun _ _ _ => rfl
theorem storeStatus : Statement (Instr.storeStatus) := fun _ _ _ => rfl
theorem combineComplete : Statement (Instr.combineComplete) := fun _ _ _ => rfl
theorem regionRead : Statement (Instr.regionRead) := fun _ _ _ => rfl
theorem uplinkStatus : Statement (Instr.uplinkStatus) := fun _ _ _ => rfl
theorem ready (grant : BitVec 16) : Statement (Instr.ready grant) := fun _ _ _ => rfl
theorem grant (grant : BitVec 16) : Statement (Instr.grant grant) := fun _ _ _ => rfl
theorem idle : Statement (Instr.idle) := fun _ _ _ => rfl
theorem returnError : Statement (Instr.returnError) := fun _ _ _ => rfl
theorem returnSilence : Statement (Instr.returnSilence) := fun _ _ _ => rfl
theorem uplinkPacketEnd : Statement (Instr.uplinkPacketEnd) := fun _ _ _ => rfl
theorem lensMove : Statement (Instr.lensMove) := fun _ _ _ => rfl
theorem lensPreset : Statement (Instr.lensPreset) := fun _ _ _ => rfl
theorem lensPresetSet : Statement (Instr.lensPresetSet) := fun _ _ _ => rfl
theorem lensHome : Statement (Instr.lensHome) := fun _ _ _ => rfl
theorem lensHalt : Statement (Instr.lensHalt) := fun _ _ _ => rfl
theorem lensStatus : Statement (Instr.lensStatus) := fun _ _ _ => rfl
theorem pollSlot (p : Port) : Statement (Instr.pollSlot p) := fun _ _ _ => rfl
theorem sidebandTransactionEnd (p : Port) (outcome : BusOutcome) : Statement (Instr.sidebandTransactionEnd p outcome) :=
  fun _ _ h => by simp [Safety.bodyLengths] at h
theorem settleEnd (p : Port) : Statement (Instr.settleEnd p) := fun _ _ _ => rfl
theorem moveDeadline (p : Port) : Statement (Instr.moveDeadline p) := fun _ _ _ => rfl
theorem haltReadPoll (p : Port) : Statement (Instr.haltReadPoll p) := fun _ _ _ => rfl
theorem haltDeadline (p : Port) : Statement (Instr.haltDeadline p) := fun _ _ _ => rfl
theorem busTimeout (hang : BusHang) : Statement (Instr.busTimeout hang) := fun _ _ _ => rfl
theorem arbitrationLost (p : Port) : Statement (Instr.arbitrationLost p) := fun _ _ _ => rfl
theorem headMessage (p : Port) (bytes : List Byte) : Statement (Instr.headMessage p bytes) :=
  fun _ _ h => by simp [Safety.bodyLengths] at h
theorem motionSegment : Statement (Instr.motionSegment) := fun _ _ _ => rfl
theorem evidenceConfig : Statement (Instr.evidenceConfig) := fun _ _ _ => rfl
theorem breakList : Statement (Instr.breakList) := fun _ _ _ => rfl
theorem breakClear : Statement (Instr.breakClear) := fun _ _ _ => rfl
theorem evidenceWindowClose : Statement (Instr.evidenceWindowClose) := fun _ _ _ => rfl
theorem cableSet : Statement (Instr.cableSet) := fun _ _ _ => rfl
theorem sweepRequest : Statement (Instr.sweepRequest) := fun _ _ _ => rfl
theorem sweepCancel : Statement (Instr.sweepCancel) := fun _ _ _ => rfl
theorem sweepResult : Statement (Instr.sweepResult) := fun _ _ _ => rfl
theorem calibrationEnd (count : Nat) : Statement (Instr.calibrationEnd count) :=
  fun _ _ h => by simp [Safety.bodyLengths] at h
theorem acquisitionEnd (deviations : List Int) : Statement (Instr.acquisitionEnd deviations) :=
  fun _ _ h => by simp [Safety.bodyLengths] at h
theorem sweepDeadline : Statement (Instr.sweepDeadline) := fun _ _ _ => rfl
theorem analysisEnd : Statement (Instr.analysisEnd) := fun _ _ _ => rfl
theorem identify : Statement (Instr.identify) := fun _ _ _ => rfl
theorem linkStatus : Statement (Instr.linkStatus) := fun _ _ _ => rfl
theorem cellReset : Statement (Instr.cellReset) := fun _ _ _ => rfl
theorem profileSave : Statement (Instr.profileSave) := fun _ _ _ => rfl
theorem profileWriteEnd (agrees : Bool) : Statement (Instr.profileWriteEnd agrees) := fun _ _ _ => rfl
theorem profileRestoreDefaults : Statement (Instr.profileRestoreDefaults) := fun _ _ _ => rfl
theorem headStart (p : Port) : Statement (Instr.headStart p) := fun _ _ _ => rfl
theorem busRecoveryEnd (p : Port) : Statement (Instr.busRecoveryEnd p) := fun _ _ _ => rfl
theorem gatheredContentOverlong : Statement (Instr.gatheredContentOverlong) := fun _ _ _ => rfl

end Sys2Proof.Laws.RequestsWellFormed
end

