-- ==== Sys2Proof/Tests/Slice0.lean ====
section
/-!
SUPPORT. The model's own tests: an ill-formed command for each check of WellFormed, the values that the spec works out, a
few single steps, and a witness for every statement of the certificate that has hypotheses.
-/

namespace Sys2Proof.Tests

open Sys2Proof.Machine Sys2Proof.Safety

-- One theorem at a time: each of the small ones below would otherwise wait on a thread of its own for those before it.
set_option Elab.async false

/-! ## Small states -/

/-- The part 5 s after its start, with no port powered. -/
def base : State := { State.reset with clock := 5000000, seq := { ({} : Sequencer) with cycleCounter := 7 } }

/-- A request of this kind and body, with tag 0x33, stands at the head of the queue with an IDENTIFY behind it. -/
def ask (s : State) (kind : Byte) (body : List Byte) : State :=
  { s with link := { s.link with requests := [⟨kind, 0x33, body⟩, ⟨0x24, 9, []⟩] } }

/-- One port's power, lens, lane and profile changed. -/
def power (s : State) (p : Port) (f : PortPower → PortPower) : State := { s with power := upd s.power p f }
def lens (s : State) (p : Port) (f : Lens → Lens) : State := { s with lenses := upd s.lenses p f }
def lane (s : State) (p : Port) (f : Lane → Lane) : State := { s with lanes := upd s.lanes p f }
def prof (s : State) (p : Port) (f : PortProfile → PortProfile) : State :=
  { s with settings := { s.settings with ports := upd s.settings.ports p f } }

/-- The claim list, the supply LOW with its look due, the capacity and the plan, each set. -/
def claims (s : State) (c : List Claim) : State := { s with supply := { s.supply with claims := c } }
def low (s : State) : State := { s with supply := { s.supply with low := some .first, fullCheckAt := some 5000000 } }
def capacity (n : Nat) (s : State) : State := { s with settings := { s.settings with capacity := n } }
def plan (s : State) (st : PlanState) (q : Option Plan) : State := { s with seq := { s.seq with state := st, plan := q } }

/-- The link with a framer, a number of waiting requests, refusals and notices. -/
def linkOf (f : Link → Link) : State := { base with link := f { base.link with framer := .gathering } }

/-- Port 3 in a power state, its timers due. -/
def in3 (st : PowerState) : State :=
  power base 3 (fun w => { w with
    state := st, reason := .trip, tripCount := if st = .locked then 5 else 2, decayAt := some 77
    pulseEndAt := some 4999999, probeAt := some 5000000, rampEndAt := some 4999998, cooldownEndAt := some 5000000
    nextSampleAt := 5000000 })

/-- A FOCUS_IRIS_ZOOM lens, IDLE, on port 3 in ON. -/
def lensIdle : State :=
  lens (power (prof base 3 (fun f => { f with lensKind := .focusIrisZoom, configured := true })) 3
    (fun w => { w with state := .on })) 3 (fun l => { l with
      state := .idle, position := ⟨some 100, some 20, some 3000⟩, bus := ⟨.free, none, []⟩ })

/-- A host SEEK with no settle time, a plan SEEK with one, and a HOME. -/
def seek0 : Move := ⟨.seek, ⟨some 500, none, some 10⟩, 0, .host, none⟩
def seek30 : Move := ⟨.seek, ⟨some 500, none, some 10⟩, 30, .plan, some 2⟩
def home : Move := ⟨.home, {}, 0, .host, none⟩

/-- A move in flight on that lens. -/
def flight (m : Move) (acked : Bool) (settle : Option Time) (deadline poll : Time) : Flight :=
  ⟨m, 40, deadline, poll, acked, settle⟩
def flying (f : Flight) : State :=
  lens lensIdle 3 (fun l => { l with
    state := if f.move.kind = .seek then .moving else .homing, claim := .granted, flight := some f })
def hub (s : State) (k : TxnKind) (losses : Nat) : State := lens s 3 (fun l => { l with bus := ⟨.hub, some ⟨k, losses, [1]⟩, []⟩ })
def head (s : State) : State := lens s 3 (fun l => { l with bus := ⟨.head, none, []⟩ })

/-- A plan slot on ports 1 and 3, and plans of it. -/
def slot1 : Slot :=
  ⟨Vector.ofFn (fun (i : Fin 8) => i.val = 3 || i.val = 1), 0, 50000, 3, 0, 20, 10000, [true, false], [.plus, .minus], none,
    true, 3⟩
def freePlan (period : Nat) : Plan := ⟨.freeRun, some period, none, 2, [slot1]⟩
def linePlan : Plan := ⟨.lineTrigger, none, some .falling, 2, [slot1]⟩
def twoSlots (offset : Nat) : Plan := { linePlan with slots := [{ slot1 with offset := offset }, slot1] }

/-- Ports 1 and 3 configured. -/
def configured : State :=
  prof (prof base 3 (fun f => { f with configured := true })) 1 (fun f => { f with configured := true })

/-- Port 3 ON with its lane in a state, and the frame it receives. -/
def lane3 (st : LaneState) (f : Lane → Lane) : State :=
  lane (power base 3 (fun w => { w with state := .on })) 3 (fun l => f { l with state := st })
def window (rx : RxState) : RxWindow := ⟨0x51, 4900000, 4950000, 4999999, 1, 7, 0, {}, rx⟩
def frame (depth : Nat) : RxFrame := ⟨0x51, 0, 9, 1, 7, 0, 4900000, 16, 3, depth, some 1, [1], 40, {}⟩
def receiving (depth : Nat) : State :=
  { lane3 .locked (fun l => { l with window := some (window .receiving), frame := some (frame depth) }) with
    dram := [(0, 9), (5, 7), (64, 3), (95, 4), (96, 8)] }
def awaiting (free : List (Fin 48)) : State :=
  let s := prof (lane3 .locked (fun l => { l with window := some (window .awaitingStart) })) 3
    (fun f => { f with width := 16, height := 3, depth := 10 })
  { s with store := { s.store with freeList := free } }

/-- A frame record in a buffer, and a store of some frames with every other buffer free. -/
def record (id : Nat) (b : Fin 48) : FrameRecord := ⟨id, b, 2, 1, 7, 0, 99, 16, 1, 10, some 4, {}, false, false, none⟩
def stored (st : BufferState) (fs : List FrameRecord) : State :=
  { base with store := { base.store with
      frames := fs
      buffers := Vector.ofFn (fun (b : Fin 48) => if fs.any (fun f => f.buffer = b) then st else .free)
      freeList := (List.finRange 48).filter (fun b => !fs.any (fun f => f.buffer = b))
      idCounter := 12 } }
def uplink (s : State) (f : Uplink → Uplink) : State := { s with uplink := f s.uplink }

/-- A break record, and a table of them. -/
def broken (id : Nat) (p : Port) (k : BreakKind) (st : BreakState) : BreakRecord := ⟨id, p, k, st, none, none, 7, 5, 6, none⟩
def table (rs : List BreakRecord) (next : Nat) : State := { base with table := { base.table with records := rs, nextId := next } }

/-- The records of a full table, none of them CLEARED. -/
def full : List BreakRecord := (List.range 32).map (fun i => broken (20 + i) 1 .reflection .suspect)

/-- A sweep entry and a sweep of it, with the port's cable record set. -/
def entry (p : Port) (number : Nat) : SweepEntry := ⟨p, .baseline, 4, .all, some 7, 60, number, .host⟩
def cable : CableRecord := ⟨true, some 1800, 680, some 3, [20, 40], 96⟩
def sweepOf (e : SweepEntry) (samples : List (List Int)) : Sweep := ⟨e, cable, samples, none, 6000000, none⟩
def sweeping (w : Sweep) (st : SweepState) : State :=
  { base with
    settings := { base.settings with cables := upd base.settings.cables 3 (fun _ => cable) }
    sweeps := { base.sweeps with
      sweep := some w
      results := upd base.sweeps.results w.entry.port (fun r => { r with entry := some w.entry, state := st }) } }
def queued (s : State) (q : List SweepEntry) : State := { s with sweeps := { s.sweeps with queue := q } }

/-- The pixels of a line, at and beyond the greatest value of their depth. -/
def pixels10 : List Nat := [0, 1, 2, 1023, 1024, 5, 6, 7, 8, 9, 10, 11, 12, 13, 14, 65535]
def pixels8 : List Nat := [0, 1, 2, 255, 4, 5, 6, 7, 8, 9, 10, 11, 12, 13, 14, 15]

/-! ## How an optional field meets a premise about its content -/

theorem of_some {α : Type} {o : Option α} {a : α} {q : α → Prop} (h : o = some a) (hq : q a) : ∀ x, o = some x → q x := by
  intro x hx
  rw [h] at hx
  cases hx
  exact hq

theorem of_none {α : Type} {o : Option α} {q : Prop} {x : α} (h : o = none) (hx : o = some x) : q := by
  rw [h] at hx
  cases hx

theorem runsOnEdge {s : State} (h : s.seq.plan = some linePlan) : RunsOnEdge s .falling := ⟨linePlan, h, by decide⟩

theorem not_runsOnEdge {s : State} {edge : Edge} (h : s.seq.plan = some (freePlan 100000)) : ¬ RunsOnEdge s edge := by
  rintro ⟨q, hq, hm, -⟩
  rw [h] at hq
  cases hq
  revert hm
  decide

theorem freePlan_zero_fits : PlanFits (freePlan 0) := ⟨by decide, by decide, of_some rfl (by decide), by decide⟩

theorem freePlan_fits {period : Nat} (h : period < 4294967296) : PlanFits (freePlan period) :=
  ⟨freePlan_zero_fits.1, freePlan_zero_fits.2.1, of_some rfl h, freePlan_zero_fits.2.2.2⟩

/-- The next state of an outcome, and that there is one. -/
def after (o : Host.Outcome State Fault Refusal) : State := match o with | .next t => t | _ => State.reset
def isNext (o : Host.Outcome State Fault Refusal) : Bool := match o with | .next _ => true | _ => false
theorem next_of {o : Host.Outcome State Fault Refusal} (h : isNext o = true) : ∃ t, o = .next t := by
  cases o with
  | next t => exact ⟨t, rfl⟩
  | fault _ => cases h
  | refused _ => cases h

/-! ## Ill-formed commands

One command for each check of WellFormed, at the first value outside its range, which the check refuses. -/

theorem test_delimiter_in_frame : (Instr.controlFrameReceived [⟨0xF5, true⟩]).wellFormed = false := by decide
theorem test_probe_over_range : (Instr.probePulseEnd 0 4501).wellFormed = false := by decide
theorem test_sample_over_range : (Instr.currentSample 0 4501).wellFormed = false := by decide
theorem test_hard_limit_below : (Instr.hardLimitTrip 0 4499).wellFormed = false := by decide
theorem test_hard_limit_beyond : (Instr.hardLimitTrip 0 65536).wellFormed = false := by decide
theorem test_supply_low_beyond : (Instr.supplyLow 65536 0).wellFormed = false := by decide
theorem test_supply_check_beyond : (Instr.supplyFullShedCheck 65536).wellFormed = false := by decide
theorem test_supply_recovered_beyond : (Instr.supplyRecovered 65536 0).wellFormed = false := by decide
theorem test_frame_width_beyond : (Instr.frameStart 0 0 65536 1 8).wellFormed = false := by decide
theorem test_frame_height_beyond : (Instr.frameStart 0 0 1 65536 8).wellFormed = false := by decide
theorem test_frame_depth_beyond : (Instr.frameStart 0 0 1 1 256).wellFormed = false := by decide
theorem test_line_number_beyond : (Instr.line 0 65536 [] 0).wellFormed = false := by decide
theorem test_line_too_long {pixels : List Byte} (h : pixels.length = 8193) :
    (Instr.line 0 0 pixels 0).wellFormed = false := by simp [Instr.wellFormed, h]
theorem test_line_count_beyond : (Instr.frameEnd 0 0 65536).wellFormed = false := by decide
theorem test_report_too_long : (Instr.sidebandTransactionEnd 0 (.report (List.replicate 9 0))).wellFormed = false := by
  decide
theorem test_head_message_empty : (Instr.headMessage 0 []).wellFormed = false := by decide
theorem test_calibration_beyond : (Instr.calibrationEnd 65536).wellFormed = false := by decide
theorem test_deviations_too_many {deviations : List Int} (h : deviations.length = 16385) :
    (Instr.acquisitionEnd deviations).wellFormed = false := by simp [Instr.wellFormed, h]
theorem test_deviation_below : (Instr.acquisitionEnd [-2049]).wellFormed = false := by decide
theorem test_deviation_beyond : (Instr.acquisitionEnd [2048]).wellFormed = false := by decide

/-- No row of the table has bits, so no word spells a command, and `withFetchWord` leaves the state as it is. -/
theorem test_no_word_spells : decodeTableWord 8 0x24 = none := rfl

/-! ## Values worked in the spec

Every expected value below is worked in the text of the rule named. -/

/-- R9: a moving lens adds its surge, 1,200 + 300; a strobe in its interval is capped, 2,400 + 2,500 to 4,500. -/
theorem test_r9_lens_allowance :
    (lens (power base 3 (fun w => { w with state := .on })) 3 (fun l => { l with state := .moving })).effectiveThreshold 3 =
      1500 := by decide +kernel
theorem test_r9_capped :
    (power (prof base 3 (fun f => { f with overcurrent := 2400, strobePeak := 2500 })) 3 (fun w =>
      { w with state := .on, strobes := [(4999000, 5000000)] })).effectiveThreshold 3 = 4500 := by decide +kernel

/-- R89: members at depth 10, clamped once after the last is added. -/
theorem test_r89_difference : combinePixel 10 [(.plus, 812), (.minus, 95)] = 717 := by decide
theorem test_r89_below_zero : combinePixel 10 [(.plus, 40), (.minus, 95)] = 0 := by decide
theorem test_r89_clamped_once : combinePixel 10 [(.plus, 1000), (.plus, 900), (.minus, 950)] = 950 := by decide

/-- R121: 800 steps at 64 steps/ms are 13 ms; a HOME from UNKNOWN at the default speeds takes 256 ms. -/
theorem test_r121_estimate : axisTime (some 1200) (some 2000) 64 = 13 := by decide
theorem test_r121_home :
    (prof base 3 (fun f => { f with lensKind := .focusIrisZoom })).estimate 3 home = 256 := by decide +kernel

/-- R164: n = 16 with HALF needs 8, and n = 5 with QUARTER needs 2. -/
theorem test_r164_half : requiredCount 16 .half = 8 := by decide
theorem test_r164_quarter : requiredCount 5 .quarter = 2 := by decide

/-- Section 8.10: port 3's cable record, and the class and distance of each reflection of the worked sweep. -/
def cable810 : CableRecord := ⟨true, some 1800, 680, some 37, [2462], 96⟩
def seen (index : Nat) (polarity : Polarity) (mean : Int) : Option ReflectionClass × Option Nat :=
  let r := classifyFault cable810 412 ⟨index, polarity, mean, none, none, none⟩
  (r.cls, r.distance)
theorem test_810_coupler : seen 2466 .open 212 = (some .coupler, some 601) := by decide +kernel
theorem test_810_fault : seen 5170 .open 158 = (some .fault, some 1270) := by decide +kernel
theorem test_810_end : seen 7310 .open 905 = (some .farEnd, some 1799) := by decide +kernel
theorem test_810_beyond : seen 9400 .short (-131) = (some .beyond, none) := by decide +kernel
theorem test_810_beyond_distance : distanceCm 9363 680 412 = 2316 := by decide

/-- The usual check values of the two CRCs, over the digits 1 to 9 (PRESUMED: the spec gives the polynomials, the initial
values and the inversions of sections 2.3 and 9.1, and no example). -/
def digits : List Byte := [0x31, 0x32, 0x33, 0x34, 0x35, 0x36, 0x37, 0x38, 0x39]
theorem test_crc16 : crc16 digits = 0x29B1#16 := by decide +kernel
theorem test_crc32 : crc32 digits = 0xCBF43926#32 := by decide +kernel

/-! ## Single steps, by the worked tables of the spec -/

/-- R14: with a base reservation of 600 mA an average of 750 sends no OVERDRAW notice, and 751 sends one. -/
theorem test_r14_armed :
    ((after (exec (.currentSample 3 750) (power (in3 .on) 3 (fun w =>
      { w with samples := List.replicate 1000 750 })))).power[3]).overdrawSent = false := by decide +kernel
theorem test_r14_sent :
    ((after (exec (.currentSample 3 751) (power (in3 .on) 3 (fun w =>
      { w with samples := List.replicate 1000 751 })))).power[3]).overdrawSent = true := by decide +kernel

/-- R173: a short body is answered BAD_LENGTH, and a kind beyond the catalogue UNKNOWN_REQUEST. -/
theorem test_bad_length :
    (after (exec .portStatus (ask base 4 []))).link.counts.badLength = 1 := by decide +kernel
theorem test_unknown :
    (after (exec .unknownRequest (ask base 0x29 []))).link.counts.unknown = 1 := by decide +kernel

/-- R35: a retry that falls due during an acquisition on its lane is made at the acquisition's end, also where the sweep
goes on to its next acquisition. -/
def putOff : State :=
  let s := power (sweeping (sweepOf (entry 3 1) []) .acquiring) 3 (fun w => { w with state := .on })
  lane { s with sweeps := { s.sweeps with acquisition := some ⟨3, 5000000, true⟩ } } 3 (fun l =>
    { l with state := .down, retryAt := some 4999900 })
theorem test_r35_put_off : ((after (exec (.acquisitionEnd [0]) putOff)).lanes[3]).state = .training := by decide +kernel

/-- R127: the STOP of a stall that hangs leaves the lens STALLED; any other transaction that hangs leaves it FAULT. -/
def hung (k : TxnKind) : LensState :=
  (after (exec (.busTimeout ⟨3, true⟩) (hub (lens lensIdle 3 (fun l => { l with state := .stalled })) k 0))).lenses[3].state
theorem test_r127_stop : hung .stop = .stalled := by decide +kernel
theorem test_r127_other : hung .poll = .fault := by decide +kernel

/-- R128: an address byte acknowledged before the hang has set the consecutive NO_ANSWER count to 0, and one that was not
leaves it. -/
def hungCount (acked : Bool) : Nat :=
  (after (exec (.busTimeout ⟨3, acked⟩) (hub (lens lensIdle 3 (fun l => { l with noAnswer := 2 })) .poll 0))).lenses[3].noAnswer
theorem test_r128_hang : hungCount true = 0 ∧ hungCount false = 2 := by decide +kernel

/-- R174: a list carries its count byte, also where it always has the same number of entries. -/
theorem test_r174_list : (State.reset.store.statusFields).head? = some 48 := by decide +kernel

/-- R171: the record of a port that no sweep has begun on has its gathered, restart and suspension counts absent. -/
theorem test_r171_none : State.reset.sweeps.results[3].gathered = none ∧ State.reset.sweeps.results[3].restarts = none ∧
    State.reset.sweeps.results[3].suspensions = none := by decide +kernel

/-- Right after reset the part has an event due only once a request or a measurement arrives: a step passes 1 µs
(notes/assumptions/5.md). -/
theorem test_step_from_reset : (after (step State.reset)).clock = State.reset.clock + 1 := by decide +kernel

/-! ## Witnesses

For each statement with hypotheses, a namespace of its name: `clause<k>_met` gives a concrete state and operands that meet
all the hypotheses of its k-th clause together (the clauses counted in the order in which they stand, `clause<j>_<k>_met`
for two clauses of the same hypotheses); where a statement is one clause, `witness`, or a name that says which of its cases
is met. The tag is 0x33 (51) throughout, and the values stand at the bounds of their ranges where the clauses meet. A clause
that is missing has no hypotheses. -/

/-! ### StepRunsFrontCommand -/

namespace StepRunsFrontCommand

def v1 : State := { base with pending := [Instr.idle, Instr.nreset] }
def s1 : Instr := Instr.idle
def s2 : State := in3 .ramping
def s3 : State := { base with profile := { base.profile with write := some ⟨{}, 0, 5000000⟩ } }

theorem clause1_met : v1.pending = [s1, Instr.nreset] := by decide +kernel
theorem clause2_met : s2.pending = [] ∧ s2.nextEvent = some (Instr.rampEnd 3) := by decide +kernel
theorem clause3_met : s3.pending = [] ∧ s3.nextEvent = none ∧ s3.clock < 18446744073709551615 := by decide +kernel

end StepRunsFrontCommand

/-! ### SpelledFrameIsReceived -/

namespace SpelledFrameIsReceived

def s1 : State := linkOf id

theorem witness : s1.link.framer = Framer.gathering ∧ (List.replicate 1024 245).length ≤ 1024 := by decide +kernel

end SpelledFrameIsReceived

/-! ### BadFramesAreDiscarded -/

namespace BadFramesAreDiscarded

def s1 : State := linkOf id
def v1 : List LineByte := ([1] : List Byte).map (fun b => LineByte.mk b false)
def v2 : List LineByte := ([0xF4, 1] : List Byte).map (fun b => LineByte.mk b true)
def v3 : List LineByte := ([1, 2, 4, 1, 5, 6] : List Byte).map (fun b => LineByte.mk b true)
def v4 : List Byte := [1, 2, 4, 1, 5, 6]
def v5 : List LineByte := ([1, 2, 0, 0, 5] : List Byte).map (fun b => LineByte.mk b true)
def v6 : List Byte := [1, 2, 0, 0, 5]
def v7 : List LineByte := ([1, 2, 0, 0, 5, 6] : List Byte).map (fun b => LineByte.mk b true)
def v8 : List Byte := [1, 2, 0, 0, 5, 6]
def s2 : State := base

theorem clause1_8_met : s1.link.framer = Framer.gathering := by decide +kernel
theorem clause2_met :
    s1.link.framer = Framer.gathering ∧ v1 ≠ [] ∧ gatheredCount (List.map (fun x => x.value) v1) ≤ 1030 ∧
      (∃ b ∈ v1, b.stopHigh = false) :=
  by decide +kernel
theorem clause3_met :
    s1.link.framer = Framer.gathering ∧ v2 ≠ [] ∧ gatheredCount (List.map (fun x => x.value) v2) ≤ 1030 ∧
      (∀ b ∈ v2, b.stopHigh = true) ∧ unescape (List.map (fun x => x.value) v2) = none :=
  by decide +kernel
theorem clause4_met :
    s1.link.framer = Framer.gathering ∧ v3 ≠ [] ∧ gatheredCount (List.map (fun x => x.value) v3) ≤ 1030 ∧
      (∀ b ∈ v3, b.stopHigh = true) ∧ unescape (List.map (fun x => x.value) v3) = some v4 ∧ 4 ≤ v4.length ∧
      1024 < bytesNum (List.take 2 (List.drop 2 v4)) :=
  by decide +kernel
theorem clause5_met :
    s1.link.framer = Framer.gathering ∧ v5 ≠ [] ∧ gatheredCount (List.map (fun x => x.value) v5) ≤ 1030 ∧
      (∀ b ∈ v5, b.stopHigh = true) ∧ unescape (List.map (fun x => x.value) v5) = some v6 ∧ v6.length < 6 ∧
      bytesNum (List.take 2 (List.drop 2 v6)) ≤ 1024 :=
  by decide +kernel
theorem clause6_met :
    s1.link.framer = Framer.gathering ∧ v7 ≠ [] ∧ gatheredCount (List.map (fun x => x.value) v7) ≤ 1030 ∧
      (∀ b ∈ v7, b.stopHigh = true) ∧ unescape (List.map (fun x => x.value) v7) = some v8 ∧
      v8.length = 6 + bytesNum (List.take 2 (List.drop 2 v8)) ∧ bytesNum (List.take 2 (List.drop 2 v8)) ≤ 1024 ∧
      withCrc16 (List.take (v8.length - 2) v8) ≠ v8 :=
  by decide +kernel
theorem clause7_met : s2.link.framer ≠ Framer.gathering := by decide +kernel

end BadFramesAreDiscarded

/-! ### LinkSendsRepliesFirst -/

namespace LinkSendsRepliesFirst

def s1 : Link := { sending := some ⟨.notice, []⟩ }
def v1 : Reply := Reply.mk false 1 2 .ok []
def s2 : Link := { replies := [⟨false, 1, 2, .ok, []⟩] }
def v2 : Notice := Notice.mk (some 3) 3 (.overdraw 900 600)
def s3 : Link := { notices := [⟨some 3, 3, .overdraw 900 600⟩], lost := 2 }
def s4 : Link := {}
def s5 : State := linkOf (fun l => { l with notices := List.replicate 31 ⟨none, 3, .overdraw 900 600⟩ })
def s6 : State := linkOf (fun l => { l with notices := List.replicate 32 ⟨none, 3, .overdraw 900 600⟩, lost := 255 })
def s7 : State := linkOf (fun l => { l with sending := some ⟨.reply true, [1]⟩ })
def s8 : State := linkOf (fun l => { l with sending := some ⟨.refusal, [1]⟩ })
def s9 : State := linkOf (fun l => { l with sending := some ⟨.notice, [1]⟩ })

theorem clause1_met : s1.sending.isSome = true := by decide +kernel
theorem clause2_met : s2.sending = none ∧ s2.replies = [v1] := by decide +kernel
theorem clause3_met : s3.sending = none ∧ s3.replies = [] ∧ s3.notices = [v2] := by decide +kernel
theorem clause4_met : s4.sending = none ∧ s4.replies = [] ∧ s4.notices = [] := by decide +kernel
theorem clause5_met : s5.link.notices.length < 32 := by decide +kernel
theorem clause6_met : 32 ≤ s6.link.notices.length := by decide +kernel
theorem clause7_met : s7.link.sending = some { kind := TxKind.reply true, wire := [1] } := by decide +kernel
theorem clause8_met : s8.link.sending = some { kind := TxKind.refusal, wire := [1] } := by decide +kernel
theorem clause9_met : s9.link.sending = some { kind := TxKind.notice, wire := [1] } := by decide +kernel

end LinkSendsRepliesFirst

/-! ### RequestsAreAnswered -/

namespace RequestsAreAnswered

def v1 : Request := Request.mk 4 0x33 [3]
def s1 : State := ask base 4 [3]
def s2 : State := ask base 0 []
def s3 : State := ask base 0x29 [7]

theorem clause1_met : s1.link.requests = [v1, { kind := 36, tag := 9, body := [] }] := by decide +kernel
theorem clause2_met : Serves s2 0 51 [] := by decide +kernel
theorem clause2_met_2 : Serves s3 41 51 [7] ∧ 41 ≤ (41 : Byte).toNat := by decide +kernel
def s4 : State := ask base 1 (List.replicate 35 0)

theorem clause3_met :
    (.portConfig, 0x01, 36) ∈ bodyLengths ∧ Serves s4 0x01 51 (List.replicate 35 0) ∧
      (List.replicate 35 (0 : Byte)).length ≠ 36 :=
  by decide +kernel

end RequestsAreAnswered

/-! ### StatusRequestsOnlyReply -/

namespace StatusRequestsOnlyReply

def s1 : State := ask base 0x13 (1 :: num4 4294967295)
def s2 : State := ask (stored .held [record 12 0]) 0x13 (1 :: num4 12)

theorem clause1_met : Serves (ask base 4 (num1 7)) 4 51 (num1 7) := by decide +kernel
theorem clause2_met : Serves (ask base 8 (num1 7)) 8 51 (num1 7) := by decide +kernel
theorem clause3_met : Serves (ask base 27 (num1 7)) 27 51 (num1 7) := by decide +kernel
theorem clause4_met : Serves (ask base 30 (num1 7)) 30 51 (num1 7) := by decide +kernel
theorem clause5_met : Serves (ask base 35 (num1 7)) 35 51 (num1 7) := by decide +kernel
theorem clause6_met : 7 < (8 : Byte).toNat ∧ Serves (ask base 4 [8]) 4 51 [8] := by decide +kernel
theorem clause7_met : 7 < (8 : Byte).toNat ∧ Serves (ask base 8 [8]) 8 51 [8] := by decide +kernel
theorem clause8_met : 7 < (8 : Byte).toNat ∧ Serves (ask base 27 [8]) 27 51 [8] := by decide +kernel
theorem clause9_met :
    7 < (8 : Byte).toNat ∧ Serves (ask base 30 [8]) 30 51 [8] ∧ (8 : Byte) ≠ 0xFF :=
  by decide +kernel
theorem clause10_met : 7 < (8 : Byte).toNat ∧ Serves (ask base 35 [8]) 35 51 [8] := by decide +kernel
theorem clause11_met : Serves (ask base 30 [0xFF]) 30 51 [0xFF] := by decide +kernel
theorem clause12_met : Serves (ask base 7 []) 7 51 [] := by decide +kernel
theorem clause13_met : Serves (ask base 15 []) 15 51 [] := by decide +kernel
theorem clause14_met : Serves (ask base 21 []) 21 51 [] := by decide +kernel
theorem clause15_met : Serves (ask base 19 (0 :: num4 0)) 19 51 (0 :: num4 0) := by decide +kernel
theorem clause16_met :
    Serves s1 0x13 51 (1 :: num4 4294967295) ∧ s1.store.frame? 4294967295 = none :=
  by decide +kernel
theorem clause17_met : Serves s2 0x13 51 (1 :: num4 12) ∧ s2.store.frame? 12 = some (record 12 0) := by decide +kernel

end StatusRequestsOnlyReply

/-! ### LinkAnswersIdentifyAndStatus -/

namespace LinkAnswersIdentifyAndStatus

def s1 : State := ask base 0x24 []
def s2 : State := ask base 0x28 []

theorem clause1_met : Serves s1 36 51 [] := by decide +kernel
theorem clause2_met : Serves s2 40 51 [] := by decide +kernel

end LinkAnswersIdentifyAndStatus

/-! ### ProfileStoreSavesAndRestores -/

namespace ProfileStoreSavesAndRestores

def s1 : State := ask base 0x26 []
def v1 : ProfileWrite := ProfileWrite.mk {} 4800000 5000000
def s2 : State := ask { base with profile := { base.profile with write := some ⟨{}, 4800000, 5000000⟩ } } 0x26 []
def s4 : State := ask (in3 .cooldown) 0x27 []
def s5 : State := ask (plan base .armed none) 0x27 []

theorem clause1_met : Serves s1 38 51 [] ∧ s1.profile.write = none := by decide +kernel
theorem clause2_met : Serves s2 38 51 [] ∧ s2.profile.write.isSome = true := by decide +kernel
theorem clause3_4_met : s2.profile.write = some v1 ∧ v1.endAt ≤ s2.clock := by decide +kernel
theorem clause6_met :
    Serves s4 39 51 [] ∧ (∃ p : Port, s4.power[p].state = PowerState.waiting ∨ s4.power[p].state = PowerState.ramping
      ∨ s4.power[p].state = PowerState.on ∨ s4.power[p].state = PowerState.cooldown) :=
  by decide +kernel
theorem clause6_met_2 : Serves s5 39 51 [] ∧ s5.seq.state = PlanState.armed := by decide +kernel
def s6 : State := ask (plan (in3 .probing) .loaded none) 0x27 []
def s7 : State := ask (claims (in3 .locked) [⟨5, .lens, 300, 1, 4⟩]) 0x27 []

theorem clause5_met :
    Serves s6 0x27 51 [] ∧ s6.seq.state = .loaded ∧ (∀ p : Port, s6.power[p].state = .off ∨ s6.power[p].state =
      .probing ∨ s6.power[p].state = .locked) :=
  by decide +kernel
theorem clause5_met_2 :
    Serves s7 0x27 51 [] ∧ s7.seq.state = .empty ∧ (∀ p : Port, s7.power[p].state = .off ∨ s7.power[p].state =
      .probing ∨ s7.power[p].state = .locked) ∧ s7.supply.claims ≠ [] :=
  by decide +kernel

end ProfileStoreSavesAndRestores

/-! ### ResetsStartThePart -/

namespace ResetsStartThePart

def s1 : State := { base with dram := [(5, 7)], freeCount := 9 }
def v1 : Settings := { capacity := 3000 }
def s2 : State := { base with profile := { base.profile with image := some { capacity := 3000 } } }

theorem clause1_met : s1.profile.image = none := by decide +kernel
theorem clause2_met : s2.profile.image = some v1 ∧ s2.profile.write = none := by decide +kernel
/-- No port of the factory defaults has auto-power. -/
theorem clause2_none : ∀ p : Port, p ∈ ([] : List Port) ↔ v1.ports[p].autoPower = true ∧ v1.ports[p].priority ≤ 3 := by
  decide +kernel
/-- An image with auto-power on port 6 of priority 3 and on ports 1 and 5 of priority 2. -/
def v2 : Settings := { ports := Vector.ofFn (fun (p : Fin 8) =>
  { autoPower := p.val = 1 || p.val = 5 || p.val = 6, priority := if p.val = 6 then 3 else 2 }) }
def s3 : State := { base with profile := { base.profile with image := some v2 } }
theorem clause2_met_2 :
    s3.profile.image = some v2 ∧ s3.profile.write = none ∧
      (∀ p : Port, p ∈ ([6, 1, 5] : List Port) ↔ v2.ports[p].autoPower = true ∧ v2.ports[p].priority ≤ 3) ∧
      ([6, 1, 5] : List Port).Pairwise (fun p q => v2.ports[q].priority < v2.ports[p].priority ∨
        (v2.ports[p].priority = v2.ports[q].priority ∧ p < q)) := by decide +kernel

end ResetsStartThePart

/-! ### CellResetRestsTheCell -/

namespace CellResetRestsTheCell

def s1 : State := ask (in3 .locked) 0x25 []

theorem witness : Serves s1 37 51 [] := by decide +kernel
theorem no_item_met : s1.uplink.item = none ∧ s1.uplink.trailer = none ∧ s1.sweeps.sweep = none := by decide +kernel
/-- A sweep of port 3 in progress. -/
def s2 : State := ask (sweeping (sweepOf (entry 3 1) []) .suspended) 0x25 []
theorem sweep_met :
    Serves s2 37 51 [] ∧ s2.sweeps.sweep = some (sweepOf (entry 3 1) []) ∧ (sweepOf (entry 3 1) []).entry.port = 3 := by
  decide +kernel
/-- A frame in flight with a packet under way, or none while it waits for a credit. -/
def flies (packet : Option Packet) : State :=
  ask (uplink (stored .sending [record 12 0]) (fun u => { u with
    up := true, item := some ⟨.frame, 12, .line 1, 3, 77⟩, packet := packet, waiting := packet.isNone })) 0x25 []
def line0 : Packet := ⟨.line, withCrc16 (0xC2 :: (num4 12 ++ num2 3 ++ [1, 2, 3]))⟩
abbrev Flies (packet : Option Packet) : Prop :=
  Serves (flies packet) 37 51 [] ∧ (flies packet).uplink.item = some ⟨.frame, 12, .line 1, 3, 77⟩ ∧
    (flies packet).store.frame? 12 = some (record 12 0) ∧ (flies packet).uplink.packet = packet
theorem waiting_met : Flies none ∧ (flies none).uplink.waiting = true ∧ (flies none).uplink.credits = 0 := by
  decide +kernel
theorem packet_met : Flies (some ⟨.header, []⟩) ∧ Flies (some line0) ∧ Flies (some ⟨.trailer, []⟩) := by decide +kernel

end CellResetRestsTheCell

/-! ### PortConfigReplacesProfile -/

namespace PortConfigReplacesProfile

def v1 : PortProfile :=
    { baseReservation := 3000, overcurrent := 3000, lensKind := .focusIrisZoom, readout := 200000 }
def s1 : State := ask (in3 .off) 1 (portConfigBody 8 v1)
def v2 : PortProfile := { overcurrent := 599 }
def s2 : State := ask (in3 .off) 1 (portConfigBody 3 { overcurrent := 599 })
def s3 : State := ask (in3 .cooldown) 1 (portConfigBody 3 v1)
def s4 : State := ask (in3 .probing) 1 (portConfigBody 3 v1)

theorem clause1_met : ProfileFits v1 ∧ 8 < 256 ∧ Serves s1 1 51 (portConfigBody 8 v1) ∧ 7 < 8 := by decide +kernel
theorem clause1_met_2 :
    ProfileFits v2 ∧ 3 < 256 ∧ Serves s2 1 51 (portConfigBody 3 v2) ∧ (¬ProfileInRange v2) := by decide +kernel
theorem clause2_met :
    ProfileFits v1 ∧ Serves s3 1 51 (portConfigBody 3 v1) ∧ ProfileInRange v1 ∧
      s3.power[3].state = PowerState.cooldown :=
  by decide +kernel
theorem clause3_met :
    ProfileFits v1 ∧ Serves s4 1 51 (portConfigBody 3 v1) ∧ ProfileInRange v1 ∧
      s4.power[3].state = PowerState.probing ∧ (¬PlanHolds s4 3) :=
  by decide +kernel

end PortConfigReplacesProfile

/-! ### PortPowerOnRaisesClaim -/

namespace PortPowerOnRaisesClaim

def s1 : State := ask (in3 .cooldown) 2 (num1 3 ++ num1 0)
def s2 : State := ask (in3 .locked) 2 (num1 3 ++ num1 0)
def s3 : State := ask (in3 .off) 2 (num1 3 ++ num1 0)
def s4 : State := ask (in3 .probing) 2 (num1 3 ++ num1 0)
def s5 : State := ask (capacity 600 (in3 .off)) 2 (num1 3 ++ num1 0)
def s6 : State := ask (low (in3 .off)) 2 (num1 3 ++ num1 0)
def s7 : State := ask base 2 (num1 3 ++ num1 3)
def s8 : State := ask base 2 (num1 8 ++ num1 0)
def s9 : State := ask base 2 (num1 8 ++ num1 1)
def s10 : State := ask base 2 (num1 8 ++ num1 2)

theorem clause1_met : Serves s1 2 51 (num1 3 ++ num1 0) ∧ s1.power[3].state = PowerState.cooldown := by decide +kernel
theorem clause2_met : Serves s2 2 51 (num1 3 ++ num1 0) ∧ s2.power[3].state = PowerState.locked := by decide +kernel
theorem clause3_met :
    Serves s3 2 51 (num1 3 ++ num1 0) ∧ s3.power[3].state = PowerState.off ∧ s3.supply.claims = [] ∧
      s3.supply.low = none ∧ s3.committed + s3.settings.ports[3].baseReservation ≤ s3.settings.capacity :=
  by decide +kernel
theorem clause3_met_2 :
    Serves s4 2 51 (num1 3 ++ num1 0) ∧ s4.power[3].state = PowerState.probing ∧ s4.supply.claims = [] ∧
      s4.supply.low = none ∧ s4.committed + s4.settings.ports[3].baseReservation ≤ s4.settings.capacity :=
  by decide +kernel
theorem clause3_met_3 :
    Serves s5 2 51 (num1 3 ++ num1 0) ∧ s5.power[3].state = PowerState.off ∧ s5.supply.claims = [] ∧
      s5.supply.low = none ∧ s5.committed + s5.settings.ports[3].baseReservation ≤ s5.settings.capacity :=
  by decide +kernel
theorem clause4_met :
    Serves s6 2 51 (num1 3 ++ num1 0) ∧ s6.power[3].state = PowerState.off ∧ s6.supply.low.isSome = true :=
  by decide +kernel
theorem clause5_6_7_met : 3 < 256 ∧ Serves s7 2 51 (num1 3 ++ num1 3) ∧ 2 < 3 := by decide +kernel
theorem clause8_met : 8 < 256 ∧ 0 < 256 ∧ Serves s8 2 51 (num1 8 ++ num1 0) ∧ 7 < 8 := by decide +kernel
theorem clause9_met : 8 < 256 ∧ 1 < 256 ∧ Serves s9 2 51 (num1 8 ++ num1 1) ∧ 7 < 8 := by decide +kernel
theorem clause10_met : 8 < 256 ∧ 2 < 256 ∧ Serves s10 2 51 (num1 8 ++ num1 2) ∧ 7 < 8 := by decide +kernel
/-- Port 3 asks with a claim waiting: one of lower priority that will not fit behind it; one of higher priority that does not
fit; and, its own claim at the head, a capacity 1 mA too small for it. -/
def asks (cap priority : Nat) (waiting : Claim) : State :=
  ask (claims (capacity cap (prof (in3 .off) 3 (fun f => { f with priority := priority }))) [waiting]) 2 (num1 3 ++ num1 0)
def s11 : State := asks 1199 1 ⟨5, .power, 600, 0, 4⟩
def s12 : State := asks 599 1 ⟨5, .power, 600, 1, 4⟩
def s13 : State := asks 599 2 ⟨5, .power, 600, 1, 4⟩
theorem clause3_met_4 :
    Serves s11 2 51 (num1 3 ++ num1 0) ∧ s11.power[3].state = PowerState.off ∧
      (∀ d, s11.supply.claims.head? = some d → d.priority < s11.settings.ports[3].priority ∧
        s11.settings.capacity < s11.committed + s11.settings.ports[3].baseReservation + d.need) ∧
      (∀ d ∈ s11.supply.claims, d.port = 3 → d.kind ≠ .power) ∧ s11.supply.low = none ∧
      s11.committed + s11.settings.ports[3].baseReservation ≤ s11.settings.capacity :=
  ⟨by decide +kernel, by decide +kernel, of_some rfl (by decide +kernel), by decide +kernel⟩
theorem clause4_met_2 :
    Serves s12 2 51 (num1 3 ++ num1 0) ∧ s12.power[3].state = PowerState.off ∧
      (insertClaim ⟨3, .power, s12.settings.ports[3].baseReservation, s12.settings.ports[3].priority, s12.clock⟩
        s12.supply.claims).head? = some ⟨5, .power, 600, 1, 4⟩ ∧ s12.settings.capacity < s12.committed + 600 := by
  decide +kernel
theorem clause4_met_3 :
    Serves s13 2 51 (num1 3 ++ num1 0) ∧ s13.power[3].state = PowerState.off ∧
      (insertClaim ⟨3, .power, s13.settings.ports[3].baseReservation, s13.settings.ports[3].priority, s13.clock⟩
        s13.supply.claims).head? = some ⟨3, .power, 600, 2, 5000000⟩ ∧ s13.settings.capacity < s13.committed + 600 := by
  decide +kernel

end PortPowerOnRaisesClaim

/-! ### PortPowerOffAndProbeAtRest -/

namespace PortPowerOffAndProbeAtRest

def s1 : State := ask (in3 .locked) 2 (num1 3 ++ num1 1)
def s2 : State := ask (in3 .locked) 2 (num1 3 ++ num1 2)
def s3 : State := ask (in3 .off) 2 (num1 3 ++ num1 1)
def s4 : State := ask (in3 .probing) 2 (num1 3 ++ num1 2)
def s5 : State := ask (claims (in3 .waiting) [⟨3, .power, 600, 1, 4⟩]) 2 (num1 3 ++ num1 1)
def s6 : State := ask (in3 .off) 2 (num1 3 ++ num1 2)

theorem clause1_met : s1.power[3].state = PowerState.locked ∧ Serves s1 2 51 (num1 3 ++ num1 1) := by decide +kernel
theorem clause2_met : s2.power[3].state = PowerState.locked ∧ Serves s2 2 51 (num1 3 ++ num1 2) := by decide +kernel
theorem clause3_met : s3.power[3].state = PowerState.off ∧ Serves s3 2 51 (num1 3 ++ num1 1) := by decide +kernel
theorem clause4_met : s4.power[3].state = PowerState.probing ∧ Serves s4 2 51 (num1 3 ++ num1 2) := by decide +kernel
theorem clause5_met :
    s5.power[3].state = PowerState.waiting ∧ (∀ c ∈ s5.supply.claims, c.port = 3 ∧ c.kind = ClaimKind.power) ∧
      Serves s5 2 51 (num1 3 ++ num1 1) :=
  by decide +kernel
theorem clause6_met : s6.power[3].state = PowerState.off ∧ Serves s6 2 51 (num1 3 ++ num1 2) := by decide +kernel

end PortPowerOffAndProbeAtRest

/-! ### LeavingOnRestsThePort -/

namespace LeavingOnRestsThePort

/-- Port 3 ON with a lens move pending and a frame coming in, asked to leave ON; and the same with its sweep acquiring. -/
def s1 (v : Nat) : State :=
  ask (lens (receiving 10) 3 (fun l => { l with state := .idle, pending := some seek30 })) 2 (num1 3 ++ num1 v)
def s2 (v : Nat) : State := { s1 v with sweeps := {
  (sweeping (sweepOf (entry 3 1) [[]]) .acquiring).sweeps with acquisition := some ⟨3, 5000100, true⟩ } }

theorem off_met : PowerClaims (s1 1) ∧ (s1 1).power[3].state = .on ∧ Serves (s1 1) 2 51 (num1 3 ++ num1 1) := by
  decide +kernel
theorem probe_met : PowerClaims (s2 2) ∧ (s2 2).power[3].state = .on ∧ Serves (s2 2) 2 51 (num1 3 ++ num1 2) := by
  decide +kernel
theorem sweep_met :
    (s2 2).sweeps.sweep = some (sweepOf (entry 3 1) [[]]) ∧ (sweepOf (entry 3 1) [[]]).entry.port = 3 ∧
      (s2 2).sweeps.results[3].state = .acquiring ∧ (s2 2).sweeps.acquisition = some ⟨3, 5000100, true⟩ := by
  decide +kernel

end LeavingOnRestsThePort

/-! ### PortUnlockClearsTrips -/

namespace PortUnlockClearsTrips

def s1 : State := ask (in3 .locked) 3 (num1 3)
def s2 : State := ask (in3 .off) 3 (num1 3)

theorem clause1_met : Serves s1 3 51 (num1 3) ∧ s1.power[3].state = PowerState.locked := by decide +kernel
theorem clause2_met : Serves s2 3 51 (num1 3) ∧ s2.power[3].state ≠ PowerState.locked := by decide +kernel

end PortUnlockClearsTrips

/-! ### WalkGrantsFromTheHead -/

namespace WalkGrantsFromTheHead

def s1 : State := base
def v1 : Claim := Claim.mk 3 .power 600 1 4
def s2 : State := capacity 599 (claims (in3 .waiting) [v1])
def v2 : Claim := Claim.mk 5 .lens 300 1 4
def v3 : List Claim := [(Claim.mk 5 .lens 300 1 4)]
def s3 : State := capacity 600 (claims (in3 .waiting) [v1, v2])
def v4 : List Claim := [Claim.mk 1 .power 1 3 3, Claim.mk 2 .power 1 1 4, Claim.mk 4 .power 1 0 3]

theorem clause1_met : s1.supply.claims = [] := by decide +kernel
theorem clause2_met : s2.supply.claims = [v1] ∧ s2.settings.capacity < s2.committed + v1.need := by decide +kernel
theorem clause3_met :
    s3.supply.claims = v1 :: v3 ∧ s3.supply.low = none ∧ s3.committed + v1.need ≤ s3.settings.capacity :=
  by decide +kernel
theorem clause4_5_met : List.Pairwise (fun a b => b.priority ≤ a.priority) v4 := by decide +kernel

end WalkGrantsFromTheHead

/-! ### CapacityCoversCommitted -/

namespace CapacityCoversCommitted

def s2 : State := ask (in3 .off) 5 (num2 499)
def s3 : State := ask (in3 .on) 5 (num2 599)
def s4 : State := ask (in3 .on) 5 (num2 600)
def s5 : State := ask (in3 .off) 5 (num2 40000)
def s6 : State := ask (in3 .off) 5 (num2 40001)

theorem clause5_met : 499 < 65536 ∧ Serves s2 5 51 (num2 499) ∧ 499 < 500 := by decide +kernel
theorem clause6_met :
    599 < 65536 ∧ Serves s3 5 51 (num2 599) ∧ 500 ≤ 599 ∧ 599 ≤ 40000 ∧ 599 < s3.committed := by decide +kernel
theorem clause7_met :
    600 < 65536 ∧ Serves s4 5 51 (num2 600) ∧ 500 ≤ 600 ∧ 600 ≤ 40000 ∧ s4.committed ≤ 600 := by decide +kernel
theorem clause7_met_2 :
    40000 < 65536 ∧ Serves s5 5 51 (num2 40000) ∧ 500 ≤ 40000 ∧ 40000 ≤ 40000 ∧ s5.committed ≤ 40000 :=
  by decide +kernel
theorem clause5_met_2 : 40001 < 65536 ∧ Serves s6 5 51 (num2 40001) ∧ 40000 < 40001 := by decide +kernel

end CapacityCoversCommitted

/-! ### ProbePulseTellsPresence -/

namespace ProbePulseTellsPresence

def s1 : State := prof (power (in3 .probing) 3 (fun w => { w with presence := .present })) 3 (fun f => { f with autoPower := false })
def s2 : State := prof (power (in3 .probing) 3 (fun w => { w with presence := .unseen })) 3 (fun f => { f with autoPower := false })
def s3 : State := prof (power (in3 .probing) 3 (fun w => { w with presence := .absent })) 3 (fun f => { f with autoPower := false })
def s4 : State := prof (power (in3 .probing) 3 (fun w => { w with presence := .absent })) 3 (fun f => { f with autoPower := true })

theorem clause1_met :
    s1.power[3].state = PowerState.probing ∧ s1.settings.ports[3].probeEnable = true ∧
      s1.power[3].probeAt = some 5000000 ∧ 5000000 ≤ s1.clock :=
  by decide +kernel
theorem clause2_met :
    s1.power[3].state = PowerState.probing ∧ s1.power[3].pulseEndAt = some 4999999 ∧ 4999999 ≤ s1.clock ∧ 1 < 2 ∧
      s1.power[3].presence = Presence.present :=
  by decide +kernel
theorem clause3_met :
    s2.power[3].state = PowerState.probing ∧ s2.power[3].pulseEndAt = some 4999999 ∧ 4999999 ≤ s2.clock ∧ 1 < 2 ∧
      s2.power[3].presence ≠ Presence.present :=
  by decide +kernel
theorem clause4_met :
    s1.power[3].state = PowerState.probing ∧ s1.power[3].pulseEndAt = some 4999999 ∧ 4999999 ≤ s1.clock ∧ 2 ≤ 2 ∧
      2 ≤ 20 ∧ s1.settings.ports[3].autoPower = false ∧ s1.power[3].presence = Presence.present :=
  by decide +kernel
theorem clause5_met :
    s3.power[3].state = PowerState.probing ∧ s3.power[3].pulseEndAt = some 4999999 ∧ 4999999 ≤ s3.clock ∧ 2 ≤ 20 ∧
      20 ≤ 20 ∧ s3.settings.ports[3].autoPower = false ∧ s3.power[3].presence ≠ Presence.present :=
  by decide +kernel
theorem clause6_met :
    s4.power[3].state = PowerState.probing ∧ s4.power[3].pulseEndAt = some 4999999 ∧ 4999999 ≤ s4.clock ∧ 2 ≤ 20 ∧
      20 ≤ 20 ∧ s4.settings.ports[3].autoPower = true ∧ PowerClaims s4 :=
  by decide +kernel
theorem clause7_met :
    s1.power[3].state = PowerState.probing ∧ s1.power[3].pulseEndAt = some 4999999 ∧ 4999999 ≤ s1.clock ∧ 20 < 21 :=
  by decide +kernel

end ProbePulseTellsPresence

/-! ### RampEndsOnOrOpen -/

namespace RampEndsOnOrOpen

def s1 : State := power (in3 .ramping) 3 (fun w => { w with samples := [40] })
def s2 : State := power (in3 .ramping) 3 (fun w => { w with samples := [39] })

theorem clause2_met :
    s1.power[3].state = PowerState.ramping ∧ s1.power[3].rampEndAt = some 4999998 ∧ 4999998 ≤ s1.clock ∧
      s1.settings.ports[3].underload ≤ s1.power[3].samples.headD 0 ∧ s1.sweeps.sweep = none ∧
      s1.sweeps.acquisition = none ∧ s1.lenses[3].pending = none ∧ s1.settings.ports[3].autoHome = false :=
  by decide +kernel
theorem clause4_met :
    s2.power[3].state = PowerState.ramping ∧ s2.power[3].rampEndAt = some 4999998 ∧ 4999998 ≤ s2.clock ∧
      s2.power[3].samples.headD 0 < s2.settings.ports[3].underload ∧ s2.supply.claims = [] ∧
      s2.settings.ports[3].autoSweep = false :=
  by decide +kernel
/-- Port 3 in RAMPING with a sweep of it in a stage, its segment the current one or not, and an acquisition under way. -/
def ramping (st : SweepState) (segment : Segment) (a : Option Acquisition) : State :=
  let s := sweeping (sweepOf (entry 3 1) [[1]]) st
  power { s with sweeps := { s.sweeps with acquisition := a }, monitor := { s.monitor with segment := segment } } 3 (fun w =>
    { w with state := .ramping, rampEndAt := some 5000000, samples := [40] })
def s3 : State := ramping .acquiring (some 7) (some ⟨3, 5000100, true⟩)
def s4 : State := ramping .suspended none none
def s5 : State := ramping .suspended (some 7) none
theorem clause1_met :
    s3.power[3].state = .ramping ∧ s3.power[3].rampEndAt = some 5000000 ∧ 5000000 ≤ s3.clock ∧
      s3.settings.ports[3].underload ≤ s3.power[3].samples.headD 0 ∧ s3.lenses[3].pending = none ∧
      s3.settings.ports[3].autoHome = false ∧ s3.sweeps.acquisition = some ⟨3, 5000100, true⟩ ∧
      (∀ w, s3.sweeps.sweep = some w → w.entry.port = 3 → s3.sweeps.results[3].state = .calibrating ∨
        s3.sweeps.results[3].state = .acquiring ∨ s3.sweeps.results[3].state = .suspended ∨
        s3.sweeps.results[3].state = .analysing) :=
  ⟨by decide +kernel, by decide +kernel, by decide +kernel, by decide +kernel, by decide +kernel, by decide +kernel,
    by decide +kernel, of_some rfl (by decide +kernel)⟩
theorem clause2_met_2 :
    s4.power[3].state = .ramping ∧ s4.settings.ports[3].underload ≤ s4.power[3].samples.headD 0 ∧
      s4.lenses[3].pending = none ∧ s4.settings.ports[3].autoHome = false ∧ s4.sweeps.acquisition = none ∧
      s4.sweeps.sweep = some (sweepOf (entry 3 1) [[1]]) ∧ s4.sweeps.results[3].state = .suspended ∧
      s4.gapOpen (entry 3 1) = false := by decide +kernel
theorem clause3_met :
    s5.power[3].state = .ramping ∧ s5.settings.ports[3].underload ≤ s5.power[3].samples.headD 0 ∧
      s5.lenses[3].pending = none ∧ s5.settings.ports[3].autoHome = false ∧ s5.sweeps.acquisition = none ∧
      s5.sweeps.sweep = some (sweepOf (entry 3 1) [[1]]) ∧ s5.sweeps.results[3].state = .suspended ∧
      s5.gapOpen (entry 3 1) = true := by decide +kernel
/-- The lane that an acquisition has kept DOWN, at its end: with no sweep, and with one whose gap is open or not. -/
def kept (st : SweepState) (segment : Segment) : State :=
  power (ramping st segment (some ⟨3, 5000000, false⟩)) 3 (fun w => { w with state := .on })
def s6 : State := let s := kept .none none; { s with sweeps := { s.sweeps with sweep := none } }
theorem clause5_met :
    s6.sweeps.acquisition = some ⟨3, 5000000, false⟩ ∧ 5000000 ≤ s6.clock ∧ s6.power[3].state = .on ∧
      s6.lanes[3].state = .down ∧ s6.lanes[3].retryAt = none ∧ s6.sweeps.sweep = none ∧ s6.sweeps.queue = [] := by
  decide +kernel
theorem clause6_7_met :
    ∀ st ∈ [SweepState.calibrating, .acquiring, .suspended], ∀ segment ∈ [none, some 7],
      (kept st segment).sweeps.acquisition = some ⟨3, 5000000, false⟩ ∧ (kept st segment).power[3].state = .on ∧
      (kept st segment).lanes[3].state = .down ∧ (kept st segment).lanes[3].retryAt = none ∧
      (kept st segment).sweeps.sweep = some (sweepOf (entry 3 1) [[1]]) ∧ (entry 3 1).port = 3 ∧
      (kept st segment).sweeps.results[3].state = st ∧
      [[1]].length < (entry 3 1).acquisitions ∧
      (kept st segment).gapOpen (entry 3 1) = segment.isSome := by decide +kernel

end RampEndsOnOrOpen

/-! ### SampleKeepsRunsAndOverdraw -/

namespace SampleKeepsRunsAndOverdraw

def s1 : State := in3 .off
def s2 : State := in3 .ramping
def s3 : State := power (in3 .on) 3 (fun w => { w with samples := List.replicate 1000 600, overdrawSent := true })
def s4 : State := power (in3 .on) 3 (fun w => { w with samples := List.replicate 1000 750 })
def s5 : State := power (in3 .on) 3 (fun w => { w with samples := List.replicate 1000 751 })

theorem clause1_met :
    s1.power[3].nextSampleAt ≤ s1.clock ∧ 4500 ≤ 4500 ∧ s1.power[3].state ≠ PowerState.ramping ∧
      s1.power[3].state ≠ PowerState.on :=
  by decide +kernel
theorem clause2_met :
    s2.power[3].nextSampleAt ≤ s2.clock ∧ 2400 ≤ 4500 ∧ 2400 ≤ s2.effectiveThreshold 3 ∧
      (¬s2.effectiveThreshold 3 < 2400) ∧ s2.power[3].state = PowerState.ramping :=
  by decide +kernel
theorem clause3_met :
    s3.power[3].nextSampleAt ≤ s3.clock ∧ 600 ≤ 4500 ∧ 600 ≤ s3.effectiveThreshold 3 ∧
      (¬s3.effectiveThreshold 3 < 600) ∧ s3.power[3].state = PowerState.on ∧ (¬(List.take 100 (List.take 1000 (600 ::
      s3.power[3].samples))).sum / 100 < s3.settings.ports[3].underload) ∧ s3.settings.ports[3].underload ≤
      (List.take 100 (List.take 1000 (600 :: s3.power[3].samples))).sum / 100 ∧ s3.power[3].overdrawSent = true :=
  by decide +kernel
theorem clause4_met :
    s4.power[3].nextSampleAt ≤ s4.clock ∧ 750 ≤ 4500 ∧ 750 ≤ s4.effectiveThreshold 3 ∧
      (¬s4.effectiveThreshold 3 < 750) ∧ s4.power[3].state = PowerState.on ∧ (¬(List.take 100 (List.take 1000 (750 ::
      s4.power[3].samples))).sum / 100 < s4.settings.ports[3].underload) ∧ s4.settings.ports[3].underload ≤
      (List.take 100 (List.take 1000 (750 :: s4.power[3].samples))).sum / 100 ∧ s4.power[3].overdrawSent = false ∧
      (List.take 1000 (List.take 1000 (750 :: s4.power[3].samples))).sum / 1000 * 4 ≤
      s4.settings.ports[3].baseReservation * 5 :=
  by decide +kernel
theorem clause5_met :
    s5.power[3].nextSampleAt ≤ s5.clock ∧ 751 ≤ 4500 ∧ 751 ≤ s5.effectiveThreshold 3 ∧
      (¬s5.effectiveThreshold 3 < 751) ∧ s5.power[3].state = PowerState.on ∧ (¬(List.take 100 (List.take 1000 (751 ::
      s5.power[3].samples))).sum / 100 < s5.settings.ports[3].underload) ∧ s5.settings.ports[3].underload ≤
      (List.take 100 (List.take 1000 (751 :: s5.power[3].samples))).sum / 100 ∧ s5.power[3].overdrawSent = false ∧
      s5.settings.ports[3].baseReservation * 5 < (List.take 1000 (List.take 1000 (751 :: s5.power[3].samples))).sum /
      1000 * 4 :=
  by decide +kernel

end SampleKeepsRunsAndOverdraw

/-! ### TripInRampCountsAndCools -/

namespace TripInRampCountsAndCools

def v1 : Run := ⟨1000, 3000⟩
def s1 : State := power (in3 .ramping) 3 (fun w =>
    { w with tripCount := 0, overRun := some ⟨1000, 3000⟩, samples := [7] })
def s2 : State := power (in3 .ramping) 3 (fun w =>
    { w with tripCount := 4, overRun := some ⟨1000, 3000⟩, samples := [7] })

theorem clause1_met :
    s1.power[3].state = PowerState.ramping ∧ s1.supply.claims = [] ∧ s1.power[3].tripCount < 5 ∧
      s1.power[3].tripCount < 4 ∧ (¬s1.power[3].tripCount = 4) ∧ s1.power[3].tripCount ≠ 2 ∧
      s1.power[3].tripCount ≠ 4 ∧ (¬s1.power[3].tripCount = 2) ∧ 7 = s1.power[3].samples.headD 0 ∧
      s1.power[3].overRun = some v1 ∧ v1.start + 2000 ≤ v1.last :=
  by decide +kernel
theorem clause2_met :
    s2.power[3].state = PowerState.ramping ∧ s2.supply.claims = [] ∧ s2.power[3].tripCount < 5 ∧
      (¬s2.power[3].tripCount < 4) ∧ s2.power[3].tripCount = 4 ∧ s2.power[3].tripCount ≠ 2 ∧
      (¬s2.power[3].tripCount ≠ 4) ∧ (¬s2.power[3].tripCount = 2) ∧ 4500 ≤ 4500 :=
  by decide +kernel
/-- The same with a claim waiting for what the trip releases. -/
theorem clause1_met_2 :
    (claims s1 [⟨5, .power, 600, 1, 4⟩]).power[3].state = .ramping ∧
      (claims s1 [⟨5, .power, 600, 1, 4⟩]).power[3].tripCount = 0 := by decide +kernel

end TripInRampCountsAndCools

/-! ### TripOrOpenLoadLeavesOn -/

namespace TripOrOpenLoadLeavesOn

def v1 : Run := ⟨1000, 3000⟩
def s1 : State := power (receiving 10) 3 (fun w =>
    { w with tripCount := 4, overRun := some ⟨1000, 3000⟩, underRun := some ⟨1000, 201000⟩ })
def v2 : Run := ⟨1000, 201000⟩

theorem clause1_met :
    PowerClaims s1 ∧ s1.power[3].state = PowerState.on ∧ s1.power[3].tripCount < 5 ∧ s1.power[3].overRun = some v1 ∧
      v1.start + 2000 ≤ v1.last :=
  by decide +kernel
theorem clause1_met_2 :
    PowerClaims s1 ∧ s1.power[3].state = PowerState.on ∧ s1.power[3].tripCount < 5 ∧ 4500 ≤ 4500 := by decide +kernel
theorem clause2_met :
    PowerClaims s1 ∧ s1.power[3].state = PowerState.on ∧ s1.power[3].tripCount < 5 ∧ s1.power[3].underRun = some v2 ∧
      v2.start + 200000 ≤ v2.last :=
  by decide +kernel

end TripOrOpenLoadLeavesOn

/-! ### CooldownEndsAndTripsDecay -/

namespace CooldownEndsAndTripsDecay

def s1 : State := capacity 600 (in3 .cooldown)
def s2 : State := low (in3 .cooldown)
def s3 : State := in3 .on

theorem clause1_met :
    5000000 ≤ s1.clock ∧ s1.power[3].state = PowerState.cooldown ∧ s1.power[3].cooldownEndAt = some 5000000 ∧
      s1.supply.claims = [] ∧ s1.supply.low = none ∧ s1.committed + s1.settings.ports[3].baseReservation ≤
      s1.settings.capacity :=
  by decide +kernel
theorem clause2_met :
    5000000 ≤ s2.clock ∧ s2.power[3].state = PowerState.cooldown ∧ s2.power[3].cooldownEndAt = some 5000000 ∧
      s2.supply.low.isSome = true :=
  by decide +kernel
theorem clause3_met :
    77 ≤ s3.clock ∧ s3.power[3].state ≠ PowerState.locked ∧ s3.power[3].decayAt = some 77 := by decide +kernel
/-- The same with a claim waiting: granted ahead of one that will not fit behind it, and put behind one that does not fit. -/
def waits (cap priority : Nat) : State :=
  claims (capacity cap (prof (in3 .cooldown) 3 (fun f => { f with priority := priority }))) [⟨5, .power, 600, 1, 4⟩]
def s4 : State := waits 1199 2
def s5 : State := waits 599 1
theorem clause1_met_2 :
    s4.power[3].state = PowerState.cooldown ∧ s4.power[3].cooldownEndAt = some 5000000 ∧
      (∀ d, s4.supply.claims.head? = some d → d.priority < s4.settings.ports[3].priority ∧
        s4.settings.capacity < s4.committed + s4.settings.ports[3].baseReservation + d.need) ∧
      (∀ d ∈ s4.supply.claims, d.port = 3 → d.kind ≠ .power) ∧ s4.supply.low = none ∧
      s4.committed + s4.settings.ports[3].baseReservation ≤ s4.settings.capacity :=
  ⟨by decide +kernel, by decide +kernel, of_some rfl (by decide +kernel), by decide +kernel⟩
theorem clause2_met_2 :
    s5.power[3].state = PowerState.cooldown ∧ s5.power[3].cooldownEndAt = some 5000000 ∧
      (insertClaim ⟨3, .power, s5.settings.ports[3].baseReservation, s5.settings.ports[3].priority, s5.clock⟩
        s5.supply.claims).head? = some ⟨5, .power, 600, 1, 4⟩ ∧ s5.settings.capacity < s5.committed + 600 := by
  decide +kernel

end CooldownEndsAndTripsDecay

/-! ### LowSupplySheds -/

namespace LowSupplySheds

def s1 : State := in3 .on
def s2 : State := low (in3 .on)

theorem clause1_met : s1.supply.low = none ∧ 18999 < 19000 ∧ 1000 ≤ 1000 := by decide +kernel
theorem clause2_met : 19000 ≤ 19000 := by decide +kernel
theorem clause2_met_2 : 999 < 1000 := by decide +kernel
theorem clause3_met :
    s2.supply.fullCheckAt = some 5000000 ∧ 5000000 ≤ s2.clock ∧ s2.supply.low.isSome = true ∧ 18999 < 19000 :=
  by decide +kernel
theorem clause4_met : s2.supply.fullCheckAt = some 5000000 ∧ 5000000 ≤ s2.clock ∧ 19000 ≤ 19000 := by decide +kernel

end LowSupplySheds

/-! ### RecoveryRaisesShedPorts -/

namespace RecoveryRaisesShedPorts

def s1 : State := (let s := power (low (in3 .off)) 3 (fun w => { w with shedMark := true }); { s with settings := { s.settings with policy := .latched } })
def s2 : State := power (low (in3 .off)) 3 (fun w => { w with shedMark := true })

theorem clause1_met :
    s1.supply.low.isSome = true ∧ 20500 < 20501 ∧ 100000 ≤ 100000 ∧ s1.supply.claims = [] ∧
      s1.settings.policy = RecoveryPolicy.latched :=
  by decide +kernel
theorem clause2_met :
    s2.supply.low.isSome = true ∧ 20500 < 20501 ∧ 100000 ≤ 100000 ∧ s2.settings.policy = RecoveryPolicy.auto :=
  by decide +kernel
theorem clause3_met : 20500 ≤ 20500 := by decide +kernel
theorem clause3_met_2 : 99999 < 100000 := by decide +kernel

end RecoveryRaisesShedPorts

/-! ### LaneTrainsAndLosesLock -/

namespace LaneTrainsAndLosesLock

def s1 : State := lane3 .training (fun l => { l with deadlineAt := some 5000000 })
def s2 : State := lane3 .training (fun l => { l with deadlineAt := some 5000000, failedRun := 65534 })
def s3 : State := lane3 .down (fun l => { l with retryAt := some 5000000 })
def s4 : State := lane3 .locked id
def s5 : State := receiving 10
def s6 : State := lane3 .quiet (fun l => { l with retrainAt := some 5000000 })

theorem clause1_met : s1.lanes[3].state = LaneState.training := by decide +kernel
theorem clause2_met :
    s1.lanes[3].state = LaneState.training ∧ s1.lanes[3].deadlineAt = some 5000000 ∧ 5000000 ≤ s1.clock ∧
      s1.lanes[3].failedRun < 65535 ∧ s1.lanes[3].failedRun = 0 :=
  by decide +kernel
theorem clause1_met_2 : s2.lanes[3].state = LaneState.training := by decide +kernel
theorem clause3_met :
    s2.lanes[3].state = LaneState.training ∧ s2.lanes[3].deadlineAt = some 5000000 ∧ 5000000 ≤ s2.clock ∧
      s2.lanes[3].failedRun < 65535 ∧ s2.lanes[3].failedRun ≠ 0 :=
  by decide +kernel
theorem clause4_met :
    (∀ (a : Acquisition), s3.sweeps.acquisition = some a → a.port ≠ 3) ∧ s3.power[3].state = PowerState.on ∧
      s3.lanes[3].state = LaneState.down ∧ s3.lanes[3].retryAt = some 5000000 ∧ 5000000 ≤ s3.clock :=
  ⟨fun _ => of_none (by decide +kernel), by decide +kernel⟩
theorem clause5_met : s4.lanes[3].state = LaneState.locked ∧ s4.lanes[3].frame = none := by decide +kernel
theorem clause7_met : s4.lanes[3].state = LaneState.locked := by decide +kernel
theorem clause6_met : s5.lanes[3].state = LaneState.locked ∧ s5.lanes[3].frame = some (frame 10) := by decide +kernel
theorem clause7_met_2 : s5.lanes[3].state = LaneState.locked := by decide +kernel
theorem clause8_9_met :
    s6.lanes[3].state = LaneState.quiet ∧ s6.lanes[3].retrainAt = some 5000000 ∧ 5000000 ≤ s6.clock ∧
      s6.sweeps.sweep = none :=
  by decide +kernel
theorem clause10_11_12_13_met : s6.lanes[3].state ≠ LaneState.locked := by decide +kernel

end LaneTrainsAndLosesLock

/-! ### FrameStartOpensFrame -/

namespace FrameStartOpensFrame

def s1 : State := lane3 .locked id
def s2 : State := awaiting []
def s3 : State := receiving 10
def s4 : State := awaiting [0, 1]
def s5 : State := (let s := awaiting []; { s with store := { s.store with notified := upd s.store.notified 3 (fun _ => some 7) } })

theorem clause1_met : s1.lanes[3].state = LaneState.locked ∧ s1.lanes[3].window = none := by decide +kernel
theorem clause2_met :
    s2.lanes[3].state = LaneState.locked ∧ s2.lanes[3].window = some (window RxState.awaitingStart) ∧
      82 ≠ (window RxState.awaitingStart).tag :=
  by decide +kernel
theorem clause2_met_2 :
    s3.lanes[3].state = LaneState.locked ∧ s3.lanes[3].window = some (window RxState.receiving) ∧
      (window RxState.receiving).rx ≠ RxState.awaitingStart :=
  by decide +kernel
theorem clause3_met :
    s4.lanes[3].state = LaneState.locked ∧ s4.lanes[3].window = some (window RxState.awaitingStart) ∧
      (window RxState.awaitingStart).rx = RxState.awaitingStart ∧ 81 = (window RxState.awaitingStart).tag ∧
      16 = s4.settings.ports[3].width ∧ 3 = s4.settings.ports[3].height ∧ 10 = s4.settings.ports[3].depth ∧
      s4.store.freeList = [0, 1] :=
  by decide +kernel
theorem clause5_met :
    s2.lanes[3].state = LaneState.locked ∧ s2.lanes[3].window = some (window RxState.awaitingStart) ∧
      (window RxState.awaitingStart).rx = RxState.awaitingStart ∧ 81 = (window RxState.awaitingStart).tag ∧
      16 = s2.settings.ports[3].width ∧ 3 = s2.settings.ports[3].height ∧ 10 = s2.settings.ports[3].depth ∧
      s2.store.freeList = [] ∧ (s2.seq.signAt (window RxState.awaitingStart).slot (window
      RxState.awaitingStart).position).signed = false ∧
      s2.store.notified[3] ≠ some (window RxState.awaitingStart).cycle :=
  by decide +kernel
theorem clause4_met :
    s5.lanes[3].state = LaneState.locked ∧ s5.lanes[3].window = some (window RxState.awaitingStart) ∧
      (window RxState.awaitingStart).rx = RxState.awaitingStart ∧ 81 = (window RxState.awaitingStart).tag ∧
      16 = s5.settings.ports[3].width ∧ 3 = s5.settings.ports[3].height ∧ 10 = s5.settings.ports[3].depth ∧
      s5.store.freeList = [] ∧ (s5.seq.signAt (window RxState.awaitingStart).slot (window
      RxState.awaitingStart).position).signed = false ∧
      s5.store.notified[3] = some (window RxState.awaitingStart).cycle :=
  by decide +kernel

end FrameStartOpensFrame

/-! ### LineStoresItsPixels -/

namespace LineStoresItsPixels

def s1 : State := receiving 10
def s2 : State := receiving 8
def s3 : State := awaiting []
def s4 : State := lane3 .locked (fun l => { l with window := some (window .dropped) })

theorem clause1_met :
    (∀ (k : Nat), (frame 10).lastLine = some k → k < 2) ∧ s1.lanes[3].state = LaneState.locked ∧
      s1.lanes[3].window = some (window RxState.receiving) ∧ (window RxState.receiving).rx = RxState.receiving ∧
      s1.lanes[3].frame = some (frame 10) ∧ 2 < (frame 10).height ∧ pixels10.length = (frame 10).width ∧
      (2 + 1) * (frame 10).width * 2 ≤ 16777216 ∧ MemoryCanonical s1 ∧ (frame 10).depth ≠ 8 ∧
      (∀ v ∈ pixels10, v < 65536) ∧ (true = true ↔ ∃ v ∈ pixels10, 2 ^ (frame 10).depth - 1 < v) ∧
      (true = true ↔ crc32 (List.map pixelBytes pixels10).flatten ≠ crc32 (List.map pixelBytes pixels10).flatten + 1)
      :=
  ⟨of_some rfl (by decide), by decide +kernel⟩
theorem clause1_met_2 :
    (∀ (k : Nat), (frame 8).lastLine = some k → k < 2) ∧ s2.lanes[3].state = LaneState.locked ∧
      s2.lanes[3].window = some (window RxState.receiving) ∧ (window RxState.receiving).rx = RxState.receiving ∧
      s2.lanes[3].frame = some (frame 8) ∧ 2 < (frame 8).height ∧ pixels8.length = (frame 8).width ∧
      (2 + 1) * (frame 8).width * 2 ≤ 16777216 ∧ MemoryCanonical s2 ∧ (frame 8).depth = 8 ∧ (∀ v ∈ pixels8, v < 256) ∧
      List.map (BitVec.ofNat 8) pixels8 = List.map (BitVec.ofNat 8) pixels8 ∧
      (false = true ↔ ∃ v ∈ pixels8, 2 ^ (frame 8).depth - 1 < v) ∧
      (false = true ↔ crc32 (List.map (BitVec.ofNat 8) pixels8) ≠ crc32 (List.map (BitVec.ofNat 8) pixels8)) :=
  ⟨of_some rfl (by decide), by decide +kernel⟩
theorem clause2_met :
    (∃ k, (frame 10).lastLine = some k ∧ 1 ≤ k) ∧ s1.lanes[3].state = LaneState.locked ∧
      s1.lanes[3].window = some (window RxState.receiving) ∧ (window RxState.receiving).rx = RxState.receiving ∧
      s1.lanes[3].frame = some (frame 10) :=
  ⟨⟨_, rfl, by decide⟩, by decide +kernel⟩
theorem clause2_met_2 :
    s1.lanes[3].state = LaneState.locked ∧ s1.lanes[3].window = some (window RxState.receiving) ∧
      (window RxState.receiving).rx = RxState.receiving ∧ s1.lanes[3].frame = some (frame 10) ∧
      (frame 10).height ≤ 3 :=
  by decide +kernel
theorem clause3_met :
    s3.lanes[3].state = LaneState.locked ∧ (∃ w, s3.lanes[3].window = some w ∧ w.rx = RxState.awaitingStart) :=
  ⟨by decide +kernel, ⟨_, rfl, by decide⟩⟩
theorem clause4_met :
    s4.lanes[3].state = LaneState.locked ∧ (∃ w, s4.lanes[3].window = some w ∧ w.rx = RxState.dropped) :=
  ⟨by decide +kernel, ⟨_, rfl, by decide⟩⟩

end LineStoresItsPixels

/-! ### FrameEndAndDeadlineCloseWindow -/

namespace FrameEndAndDeadlineCloseWindow

def v1 : Exposure := Exposure.mk 5000000 1 7
def s1 : State := lane3 .locked (fun l => { l with exposure := some ⟨5000000, 1, 7⟩ })
def s2 : State := awaiting []
def s3 : State := lane3 .locked (fun l => { l with window := some (window .dropped) })
def s4 : State := receiving 10

theorem clause1_met : s1.lanes[3].state = LaneState.locked ∧ s1.lanes[3].window = none := by decide +kernel
theorem clause6_met :
    s1.lanes[3].exposure = some v1 ∧ v1.endAt ≤ s1.clock ∧ s1.seq.state = PlanState.empty ∧
      s1.lenses[3].stage ≠ StartStage.windowWait ∧ s1.lenses[3].toBegin = false ∧ s1.lenses[3].bus.waiting = [] ∧
      s1.sweeps.sweep = none :=
  by decide +kernel
theorem clause2_met :
    s2.lanes[3].window = some (window RxState.awaitingStart) ∧ s2.lanes[3].state = LaneState.locked ∧
      (window RxState.awaitingStart).rx = RxState.awaitingStart :=
  by decide +kernel
theorem clause4_met :
    s2.lanes[3].window = some (window RxState.awaitingStart) ∧ (window RxState.awaitingStart).deadline ≤ s2.clock ∧
      (window RxState.awaitingStart).rx = RxState.awaitingStart :=
  by decide +kernel
theorem clause3_met :
    s3.lanes[3].window = some (window RxState.dropped) ∧ s3.lanes[3].state = LaneState.locked ∧
      (window RxState.dropped).rx = RxState.dropped :=
  by decide +kernel
theorem clause5_met :
    s4.lanes[3].window = some (window RxState.receiving) ∧ (window RxState.receiving).rx = RxState.receiving ∧
      s4.lanes[3].frame = some (frame 10) ∧ MemoryCanonical s4 ∧
      (frame 10).height * (frame 10).width * 2 ≤ 16777216 ∧ s4.lanes[3].state = LaneState.locked :=
  by decide +kernel
/-- A whole frame of port 3 with a mean of 20, one above the threshold, of a DARK position, at its deadline: the 7 high
frames before it make it the eighth; its position is signed or not, and the plan LOADED. -/
def record9 : FrameRecord := ⟨9, 0, 3, 1, 7, 0, 4900000, 16, 3, 10, none, {}, false, false, none⟩
def whole : RxFrame := { frame 10 with stored := [0, 1, 2], pixelSum := 1007 }
def dark (sign : Sign) (up : Bool) : State :=
  let k := { slot1 with fire := [false, true], signs := [sign, .plus] }
  let r := lane (receiving 10) 3 (fun l => { l with frame := some whole })
  let q := plan (prof r 3 (fun f => { f with ambientLimit := .eight, ambientThreshold := 19 })) .loaded
    (some { linePlan with slots := [slot1, k] })
  uplink { q with
    seq := { q.seq with exceed := upd q.seq.exceed 3 (fun _ => 7) }
    store := { q.store with frames := [record9], buffers := upd q.store.buffers 0 (fun _ => .filling) } } (fun u =>
    { u with up := up, credits := if up then 5 else 0 })
theorem clause5_high_met :
    (∀ k, k < whole.height → k ∈ whole.stored) ∧ whole.flags.truncated = false ∧
      (dark .none false).settings.ports[3].ambientThreshold < whole.pixelSum / (whole.width * whole.height) ∧
      ((dark .none false).settings.ports[3].ambientLimit, 8) ∈
        [(AmbientLimit.off, 0), (.one, 1), (.eight, 8), (.thirtyTwo, 32)] ∧
      (∃ k, (dark .none false).seq.slots[whole.slot.val]? = some k ∧ 0 < k.used ∧ k.fire[whole.position]? = some false) ∧
      8 ≤ (dark .none false).seq.exceed[3] + 1 :=
  ⟨by decide +kernel, by decide +kernel, by decide +kernel, by decide +kernel,
    ⟨{ slot1 with fire := [false, true], signs := [.none, .plus] }, by decide +kernel⟩, by decide +kernel⟩
theorem clause5_routed_met :
    ∀ sign ∈ [Sign.none, .plus, .minus],
      (dark sign false).lanes[3].frame = some whole ∧ (dark sign false).store.frame? whole.id = some record9 ∧
      (dark sign false).store.groups = [] ∧ (dark sign false).uplink.up = false ∧ (dark sign false).seq.state = .loaded ∧
      ((dark sign false).seq.slots[record9.slot.val]?).map (fun k => k.signs[record9.position]?) = some (some sign) := by
  decide +kernel
/-- That state with this many credits, and the held set full or with one place left. -/
def ready (credits held : Nat) : State :=
  let s := uplink (dark .none true) (fun u => { u with credits := credits })
  { s with store := { s.store with heldSet := (List.range held).map (· + 100) } }
theorem clause5_sent_met :
    ∀ credits ∈ [0, 5], ∀ held ∈ [7, 8], ∀ s, s = ready credits held →
      s.store.frame? whole.id = some record9 ∧ s.uplink.up = true ∧ s.uplink.item = none ∧ s.uplink.trailer = none ∧
      s.uplink.packet = none ∧ s.uplink.regions = [] ∧ s.store.outputQueue = [] ∧ s.store.groups = [] ∧
      s.uplink.credits = credits ∧ s.store.heldSet.length = held := by
  intro credits hc held hh s hs
  subst hs
  revert held
  revert credits
  decide +kernel
/-- The eighth high dark frame is told, and the count begins again (R72). -/
theorem test_r72_eighth :
    ((after (exec (.receptionDeadline 3) (dark .none false))).seq.exceed[3]) = 0 ∧
      (after (exec (.receptionDeadline 3) (dark .none false))).link.sending.isSome = true := by decide +kernel

end FrameEndAndDeadlineCloseWindow

/-! ### PlanLoadChecksThePlan -/

namespace PlanLoadChecksThePlan

def s1 : State := ask (plan base .armed (some linePlan)) 9 (planBody (freePlan 1000000))

theorem clause1_met :
    PlanFits (freePlan 1000000) ∧ Serves s1 9 51 (planBody (freePlan 1000000)) ∧ s1.seq.state = PlanState.armed :=
  ⟨freePlan_fits (by decide), by decide +kernel⟩
def s7 : State := ask base 9 (planBody (freePlan 999))
def s8 : State := ask base 9 (planBody (freePlan 1000000))
def s9 : State := ask configured 9 (planBody (freePlan 72000))
def ends (k : Slot) (p : Port) : Nat := k.offset + k.exposure + configured.settings.ports[p].readout + 2000

theorem slot1_inRange : ∀ k ∈ [slot1], (∃ p : Port, k.marks p = true) ∧ k.offset ≤ 1000000 ∧ 10 ≤ k.exposure ∧
    k.exposure ≤ 100000 ∧ k.pulses ≤ 16 ∧ k.firstPulse ≤ 100000 ∧ 2 ≤ k.pulseWidth ∧ k.pulseWidth ≤ 1000 ∧
    k.pulseWidth + 2 ≤ k.pulsePeriod ∧ k.pulsePeriod ≤ 10000 := by decide

theorem freePlan_inRange {period : Nat} (h : 1000 ≤ period) (h' : period ≤ 1000000) : PlanInRange (freePlan period) := by
  refine ⟨?_, ?_, ?_, ?_, fun _ => ⟨rfl, period, rfl, h, h'⟩, fun hm => ?_, slot1_inRange⟩
  · exact Nat.le_refl 1
  · exact Nat.le_add_left 1 3
  · exact Nat.le_add_left 1 1
  · exact Nat.le_add_left 2 6
  · cases hm

theorem freePlan_short {period : Nat} (h : period < 1000) : ¬ PlanInRange (freePlan period) := by
  rintro ⟨-, -, -, -, hf, -⟩
  obtain ⟨-, n, hn, h1, -⟩ := hf rfl
  cases hn
  omega

theorem one_slot {q : Plan} {b : Slot} (h : q.slots = [b]) {i j : Nat} {a c : Slot} (hij : i < j)
    (hc : q.slots[j]? = some c) (_ : q.slots[i]? = some a) : False := by
  have hj : j < q.slots.length := (List.getElem?_eq_some_iff.mp hc).1
  rw [h] at hj
  simp at hj
  omega

theorem clause2_met :
    PlanFits (freePlan 999) ∧ (¬ PlanInRange (freePlan 999)) ∧ Serves s7 9 51 (planBody (freePlan 999)) ∧
      s7.seq.state = .empty :=
  ⟨freePlan_fits (by decide), freePlan_short (by decide), by decide +kernel⟩
theorem clause3_met :
    PlanFits (freePlan 1000000) ∧ PlanInRange (freePlan 1000000) ∧ Serves s8 9 51 (planBody (freePlan 1000000)) ∧
      s8.seq.state = .empty ∧ s8.planFails (freePlan 1000000) = some ⟨.wrongState, 2, some 0, some 1⟩ :=
  ⟨freePlan_fits (by decide), freePlan_inRange (by decide) (by decide), by decide +kernel⟩
theorem clause4_met :
    PlanFits (freePlan 72000) ∧ PlanInRange (freePlan 72000) ∧ Serves s9 9 51 (planBody (freePlan 72000)) ∧
      s9.seq.state = .empty ∧ s9.planFails (freePlan 72000) = none ∧ s9.sweeps.sweep = none :=
  ⟨freePlan_fits (by decide), freePlan_inRange (by decide) (by decide), by decide +kernel⟩
theorem clause5_met :
    (∃ k ∈ (freePlan 1000000).slots, ∃ p : Port, k.marks p = true ∧ base.settings.ports[p].configured = false) :=
  by decide +kernel
theorem clause6_met :
    (∀ k p, ends k p = k.offset + k.exposure + configured.settings.ports[p].readout + 2000) ∧ (∀ k ∈ (twoSlots
      71999).slots, ∀ p : Port, k.marks p = true → configured.settings.ports[p].configured = true) ∧
      (∃ (i j : Nat) (a b : Slot) (p : Port), i < j ∧ (twoSlots 71999).slots[i]? = some a ∧
      (twoSlots 71999).slots[j]? = some b ∧ a.marks p = true ∧ b.marks p = true ∧ a.offset < ends b p ∧
      b.offset < ends a p) :=
  ⟨fun _ _ => rfl, by decide +kernel, ⟨0, 1, { slot1 with offset := 71999 }, slot1, 3, by decide, rfl, rfl,
    by decide +kernel⟩⟩
theorem clause7_met :
    (∀ (i j : Nat) (a b : Slot) (p : Port), i < j → (freePlan 71999).slots[i]? = some a → (freePlan 71999).slots[j]?
      = some b → a.marks p = true → b.marks p = true → ends b p ≤ a.offset ∨ ends a p ≤ b.offset) ∧
      (∀ k ∈ (freePlan 71999).slots, ∀ p : Port, k.marks p = true → configured.settings.ports[p].configured = true) ∧
      (freePlan 71999).mode = .freeRun ∧ (freePlan 71999).period = some 71999 ∧
      (∃ k ∈ (freePlan 71999).slots, ∃ p : Port, k.marks p = true ∧ 71999 < ends k p) :=
  ⟨fun _ _ _ _ _ hij ha hb => (one_slot rfl hij hb ha).elim, by decide +kernel⟩
theorem clause8_met :
    (∀ (i j : Nat) (a b : Slot) (p : Port), i < j → (freePlan 72000).slots[i]? = some a → (freePlan 72000).slots[j]?
      = some b → a.marks p = true → b.marks p = true → ends b p ≤ a.offset ∨ ends a p ≤ b.offset) ∧
      (∀ k ∈ (freePlan 72000).slots, ∀ p : Port, k.marks p = true → configured.settings.ports[p].configured = true) ∧
      (freePlan 72000).period = some 72000 ∧
      (∀ k ∈ (freePlan 72000).slots, ∀ p : Port, k.marks p = true → ends k p ≤ 72000) :=
  ⟨fun _ _ _ _ _ hij ha hb => (one_slot rfl hij hb ha).elim, by decide +kernel⟩

end PlanLoadChecksThePlan

/-! ### PlanRequestsByState -/

namespace PlanRequestsByState

def s1 : State := ask (plan configured .armed (some linePlan)) 10 []
def v1 : PlanFailure := PlanFailure.mk .wrongState 2 (some 0) (some 1)
def s2 : State := ask (plan base .loaded (some linePlan)) 0xA []
def s3 : State := ask (capacity 2999 (plan (prof configured 3 (fun f =>
    { f with configured := true, strobePeak := 3000 })) .loaded (some linePlan))) 0xA []
def s4 : State := ask (capacity 3000 (plan (prof configured 3 (fun f =>
    { f with configured := true, strobePeak := 3000 })) .loaded (some linePlan))) 0xA []
def s5 : State := ask (plan configured .loaded (some linePlan)) 11 []
def s6 : State := ask (plan configured .stopping (some linePlan)) 11 []
def s7 : State := ask (plan configured .running (some linePlan)) 11 []
def s8 : State := ask (plan configured .armed (some linePlan)) 11 []
def s9 : State := ask (plan configured .empty (some linePlan)) 13 []
def s10 : State := ask (plan configured .running (some linePlan)) 13 []
def s11 : State := ask (plan configured .loaded (some linePlan)) 13 []
def s12 : State := ask (plan configured .loaded (some linePlan)) 12 []
def s13 : State := ask (plan configured .running (some linePlan)) 12 []

theorem clause1_met : Serves s1 10 51 [] ∧ s1.seq.state ≠ PlanState.loaded := by decide +kernel
theorem clause2_met :
    Serves s2 10 51 [] ∧ s2.seq.state = PlanState.loaded ∧ s2.seq.plan = some linePlan ∧
      s2.planFails linePlan = some v1 :=
  by decide +kernel
theorem clause3_met :
    Serves s3 10 51 [] ∧ s3.seq.state = PlanState.loaded ∧ s3.seq.plan = some linePlan ∧
      s3.planFails linePlan = none ∧ s3.settings.capacity < s3.committed + s3.strobeReservation :=
  by decide +kernel
theorem clause4_met :
    Serves s4 10 51 [] ∧ s4.seq.state = PlanState.loaded ∧ s4.seq.plan = some linePlan ∧
      s4.planFails linePlan = none ∧ s4.supply.low = none ∧
      s4.committed + s4.strobeReservation ≤ s4.settings.capacity ∧ linePlan.mode = CycleMode.lineTrigger ∧
      s4.sweeps.sweep = none :=
  by decide +kernel
theorem clause6_met : Serves s5 11 51 [] ∧ s5.seq.state = PlanState.loaded := by decide +kernel
theorem clause7_met : Serves s6 11 51 [] ∧ s6.seq.state = PlanState.stopping := by decide +kernel
theorem clause8_met :
    Serves s7 11 51 [] ∧ s7.seq.state = PlanState.running ∧ s7.sweeps.sweep = none := by decide +kernel
theorem clause9_met :
    Serves s8 11 51 [] ∧ s8.seq.state = PlanState.armed ∧ s8.sweeps.sweep = none := by decide +kernel
theorem clause10_met : Serves s9 13 51 [] ∧ s9.seq.state = PlanState.empty := by decide +kernel
theorem clause11_met : Serves s10 13 51 [] ∧ s10.seq.state = PlanState.running := by decide +kernel
theorem clause12_met :
    Serves s11 13 51 [] ∧ s11.seq.state = PlanState.loaded ∧ s11.sweeps.sweep = none := by decide +kernel
theorem clause13_met : Serves s12 12 51 [] ∧ s12.seq.state = PlanState.loaded := by decide +kernel
theorem clause14_met : Serves s13 12 51 [] ∧ s13.seq.state = PlanState.running := by decide +kernel

/-- A plan in FREE_RUN to be armed, with no port in QUIET and with one. -/
def s14 : State := ask (plan configured .loaded (some (freePlan 1000000))) 10 []
def s15 : State := lane s14 3 (fun l => { l with state := .quiet })

theorem clause5_met :
    Serves s14 10 51 [] ∧ s14.seq.state = .loaded ∧ s14.seq.plan = some (freePlan 1000000) ∧
      s14.planFails (freePlan 1000000) = none ∧ s14.supply.low = none ∧
      s14.committed + s14.strobeReservation ≤ s14.settings.capacity ∧ (freePlan 1000000).mode = .freeRun ∧
      s14.sweeps.sweep = none ∧ s14.seq.pending = none ∧ ¬ PlanQuiet s14 ∧ ∀ k ∈ s14.seq.slots, k.preset = none :=
  by decide +kernel
theorem clause5_met_2 :
    Serves s15 10 51 [] ∧ s15.seq.state = .loaded ∧ s15.seq.plan = some (freePlan 1000000) ∧
      s15.planFails (freePlan 1000000) = none ∧ s15.supply.low = none ∧
      s15.committed + s15.strobeReservation ≤ s15.settings.capacity ∧ s15.sweeps.sweep = none ∧
      s15.seq.pending = none ∧ PlanQuiet s15 :=
  by decide +kernel

/-- Cycle 7 with every slot dispatched and its last window, of port 3, at its deadline. -/
def v15 : Cycle := ⟨7, 1, 4900000, false, [0], [(0, 3)]⟩
def v16 : RxWindow := { window .dropped with slot := 0 }
def v17 : PendingTrigger := ⟨.line, 4, false⟩
def s16 (st : PlanState) (g : Option PendingTrigger) : State :=
  let s := plan (lane3 .locked (fun l => { l with window := some v16 })) st (some linePlan)
  { s with seq := { s.seq with pending := g, cycleCounter := 8, current := some v15 } }
def s17 : State := lane (s16 .running (some v17)) 1 (fun l => { l with state := .quiet })
abbrev Closing (s : State) : Prop :=
  s.seq.plan = some linePlan ∧ s.seq.current = some v15 ∧ s.lanes[3].window = some v16 ∧ v16.rx = .dropped ∧
    v16.deadline ≤ s.clock ∧ v16.cycle = v15.number ∧ v15.windows = [(v16.slot, 3)] ∧
    (∀ k : Fin 4, s.seq.slots[k.val]? ≠ none → k ∈ v15.dispatched) ∧ s.sweeps.sweep = none ∧
    ∀ o : Port, s.lenses[o].stage ≠ .windowWait

theorem clause15_met :
    Closing (s16 .running none) ∧ (s16 .running none).seq.state = .running ∧ (s16 .running none).seq.pending = none :=
  by decide +kernel
theorem clause16_met : Closing s17 ∧ s17.seq.state = .running ∧ s17.seq.pending = some v17 ∧ PlanQuiet s17 := by
  decide +kernel
theorem clause17_met :
    Closing (s16 .running (some v17)) ∧ (s16 .running (some v17)).seq.state = .running ∧
      (s16 .running (some v17)).seq.pending = some v17 ∧ ¬ PlanQuiet (s16 .running (some v17)) ∧
      (s16 .running (some v17)).seq.cycleCounter < 18446744073709551615 ∧
      ∀ k ∈ (s16 .running (some v17)).seq.slots, k.preset = none :=
  by decide +kernel
theorem clause18_met :
    Closing (s16 .stopping none) ∧ (s16 .stopping none).seq.state = .stopping ∧
      (s16 .stopping none).store.groups = [] ∧ (s16 .stopping none).supply.claims = [] :=
  by decide +kernel

end PlanRequestsByState

/-! ### StartsByPlanState -/

namespace StartsByPlanState

def s1 : State := plan configured .loaded (some linePlan)
def s2 : State := plan configured .stopping (some linePlan)
def s3 : State := lane (plan configured .armed (some linePlan)) 3 (fun l => { l with state := .quiet })
def s4 : State := plan configured .armed (some linePlan)
def s5 : State := plan configured .running (some linePlan)
def v1 : PendingTrigger := PendingTrigger.mk .line 4 true
def s6 : State := (let s := plan configured .armed (some (freePlan 100000)); { s with seq := { s.seq with pending := some v1, nextExpiry := some 5000000 } })
def s7 : State := ask (plan configured .running (some linePlan)) 0xE []
def s8 : State := plan configured .armed (some (freePlan 100000))
def s9 : State := ask (plan configured .running (some (freePlan 100000))) 0xE []
def s10 : State := (let s := plan configured .armed (some linePlan); { s with seq := { s.seq with pending := some v1 } })

theorem clause1_met :
    RunsOnEdge s1 Edge.falling ∧ s1.seq.state = PlanState.loaded :=
  ⟨runsOnEdge (by decide +kernel), by decide +kernel⟩
theorem clause2_met :
    RunsOnEdge s2 Edge.falling ∧ s2.seq.state = PlanState.stopping :=
  ⟨runsOnEdge (by decide +kernel), by decide +kernel⟩
theorem clause3_met :
    RunsOnEdge s3 Edge.falling ∧ s3.seq.state = PlanState.armed ∧ s3.seq.pending = none ∧ PlanQuiet s3 :=
  ⟨runsOnEdge (by decide +kernel), by decide +kernel⟩
theorem clause4_met :
    RunsOnEdge s4 Edge.falling ∧ s4.seq.state = PlanState.armed ∧ s4.seq.pending = none ∧ (¬PlanQuiet s4) ∧
      s4.seq.cycleCounter < 18446744073709551615 ∧ (∀ k ∈ s4.seq.slots, k.preset = none) ∧ s4.sweeps.sweep = none ∧
      s4.seq.plan = some linePlan :=
  ⟨runsOnEdge (by decide +kernel), by decide +kernel⟩
theorem clause5_met :
    RunsOnEdge s5 Edge.falling ∧ s5.seq.state = PlanState.running ∧ s5.seq.pending = none :=
  ⟨runsOnEdge (by decide +kernel), by decide +kernel⟩
theorem clause6_met :
    RunsFree s6 ∧ (∃ at_, s6.seq.nextExpiry = some at_ ∧ at_ ≤ s6.clock) ∧
      (∀ (g : PendingTrigger), s6.seq.pending = some g → g.source ≠ StartSource.timer) ∧
      s6.seq.state = PlanState.armed ∧ s6.seq.pending = some v1 :=
  ⟨⟨freePlan 100000, by decide +kernel⟩, ⟨5000000, by decide +kernel⟩, of_some (a := v1) (by decide +kernel) (by
    decide), by decide +kernel⟩
theorem clause5_met_2 :
    (∃ e, RunsOnEdge s7 e) ∧ Serves s7 14 51 [] ∧ s7.seq.state = PlanState.running ∧ s7.seq.pending = none :=
  ⟨⟨.falling, runsOnEdge (by decide +kernel)⟩, by decide +kernel⟩
theorem clause7_met : ¬RunsOnEdge s8 Edge.falling := not_runsOnEdge (by decide +kernel)
theorem clause7_met_2 : ¬RunsOnEdge s9 Edge.rising := not_runsOnEdge (by decide +kernel)
theorem clause8_met : Serves s9 14 51 [] ∧ RunsFree s9 := ⟨by decide +kernel, ⟨freePlan 100000, by decide +kernel⟩⟩
theorem clause9_met :
    s10.seq.state = PlanState.armed ∧ s10.seq.plan = some linePlan ∧ s10.seq.pending = some v1 ∧ v1.held = true ∧
      (¬PlanQuiet s10) ∧ s10.seq.cycleCounter < 18446744073709551615 ∧ (∀ k ∈ s10.seq.slots, k.preset = none) ∧
      s10.sweeps.sweep = none :=
  by decide +kernel

end StartsByPlanState

/-! ### SlotDispatchTriggersPorts -/

namespace SlotDispatchTriggersPorts

def v1 : Cycle := ⟨7, 0, 5000000, true, [1], []⟩
def s1 : State := (let s := plan (lane3 .locked id) .running (some linePlan); { s with seq := { s.seq with current := some ⟨7, 0, 5000000, true, [1], []⟩ } })

theorem witness :
    s1.seq.current = some v1 ∧ s1.seq.slots[0]? = some slot1 ∧ (0 ∉ v1.dispatched) ∧
      v1.start + slot1.offset ≤ s1.clock ∧ s1.sweeps.sweep = none ∧
      slot1.marks 1 = true ∧ s1.power[1].state ≠ .on :=
  by decide +kernel
/-- The flags of port 3 with no claim waiting, and with one waiting where port 1 is triggered before it. -/
theorem flags_met :
    slot1.marks 3 = true ∧ s1.power[3].state = .on ∧ s1.lanes[3].state = .locked ∧ s1.supply.claims = [] := by
  decide +kernel
def s2 : State :=
  claims (lane (power s1 1 (fun w => { w with state := .on })) 1 (fun l => { l with state := .locked })) [⟨5, .power, 600, 1, 4⟩]
theorem flags_met_2 :
    ∀ q : Port, q < 3 → slot1.marks q = true → s2.power[q].state = .on ∧ s2.lanes[q].state = .locked := by decide +kernel
/-- The windows that a dispatch to port 3 finds open: with no frame, dropped, and with a frame in reception. -/
def s3 (rx : RxState) : State :=
  lane { s1 with dram := (receiving 10).dram } 3 (fun l =>
    { l with window := some (window rx), frame := if rx = .receiving then some (frame 10) else none })
theorem open_met :
    ∀ rx ∈ [RxState.awaitingStart, .dropped, .receiving],
      (s3 rx).seq.current = some v1 ∧ (s3 rx).seq.slots[0]? = some slot1 ∧ v1.start + slot1.offset ≤ (s3 rx).clock ∧
      (s3 rx).sweeps.sweep = none ∧ slot1.marks 3 = true ∧ (s3 rx).power[3].state = .on ∧
      (s3 rx).lanes[3].state = .locked ∧ (s3 rx).lanes[3].window = some (window rx) ∧
      (rx = .receiving → (s3 rx).lanes[3].frame = some (frame 10)) ∧ MemoryCanonical (s3 rx) ∧
      (frame 10).height * (frame 10).width * 2 ≤ 16777216 := by decide +kernel

end SlotDispatchTriggersPorts

/-! ### HoldAndReleaseByBufferState -/

namespace HoldAndReleaseByBufferState

def s1 : State := ask base 0x11 (num4 4294967295)
def s2 : State := ask base 0x12 (num4 4294967295)
def s3 : State := ask (stored .combining [record 12 0]) 17 (num4 12)
def s4 : State := ask (stored .sending [record 12 0]) 17 (num4 12)
def s5 : State := ask (stored .sending [record 12 0]) 18 (num4 12)
def s6 : State := ask (stored .held [record 12 0]) 18 (num4 12)
def v1 : RegionEntry := RegionEntry.mk 5 12 .linear 0 (some 1) 3
def s7 : State := ask (uplink (stored .held [record 12 0]) (fun u => { u with regions := [v1] })) 0x12 (num4 12)

theorem clause1_met :
    4294967295 < 4294967296 ∧ s1.store.frame? 4294967295 = none ∧ Serves s1 17 51 (num4 4294967295) :=
  by decide +kernel
theorem clause2_met :
    4294967295 < 4294967296 ∧ s2.store.frame? 4294967295 = none ∧ Serves s2 18 51 (num4 4294967295) :=
  by decide +kernel
theorem clause3_met :
    12 < 4294967296 ∧ s3.store.frame? 12 = some (record 12 0) ∧ Serves s3 17 51 (num4 12) ∧
      s3.store.buffers[(record 12 0).buffer] = BufferState.combining :=
  by decide +kernel
theorem clause4_met :
    12 < 4294967296 ∧ s4.store.frame? 12 = some (record 12 0) ∧ Serves s4 17 51 (num4 12) ∧
      s4.store.buffers[(record 12 0).buffer] = BufferState.sending :=
  by decide +kernel
theorem clause5_met :
    12 < 4294967296 ∧ s5.store.frame? 12 = some (record 12 0) ∧ Serves s5 18 51 (num4 12) ∧
      s5.store.buffers[(record 12 0).buffer] ≠ BufferState.held :=
  by decide +kernel
theorem clause7_met :
    (∀ (i : Item), s6.uplink.item = some i → i.frame = 12 → i.kind = ItemKind.frame) ∧ 12 < 4294967296 ∧
      s6.store.frame? 12 = some (record 12 0) ∧ Serves s6 18 51 (num4 12) ∧
      s6.store.buffers[(record 12 0).buffer] = BufferState.held ∧ (∀ e ∈ s6.uplink.regions, e.frame ≠ 12) :=
  ⟨fun _ => of_none (by decide +kernel), by decide +kernel⟩
theorem clause6_met :
    12 < 4294967296 ∧ s7.store.frame? 12 = some (record 12 0) ∧ Serves s7 18 51 (num4 12) ∧
      s7.store.buffers[(record 12 0).buffer] = BufferState.held ∧ (∃ e ∈ s7.uplink.regions, e.frame = 12) :=
  by decide +kernel

end HoldAndReleaseByBufferState

/-! ### CombineWritesClampedSums -/

namespace CombineWritesClampedSums

/-- Frame 10 in buffer 0 plus frame 12 in buffer 1 negated, with pixels that pass 0 and the scale. -/
def v1 : Combine := ⟨1, 2, [(.plus, 10), (.minus, 12)], 0, 5000000⟩
def s1 : State :=
  let s := stored .combining [record 12 1, record 10 0]
  { s with dram := [(0, 8), (1, 44), (16777217, 9), (16777218, 1)], store := { s.store with combine := some v1 } }
def sum (i : Nat) : Int := ((v1.members.zip [record 10 0, record 12 1]).map (fun (m : (Sign × Nat) × FrameRecord) =>
  if m.1.1 = .plus then (Memory.readPixel s1.dram m.2.buffer i : Int)
  else if m.1.1 = .minus then -(Memory.readPixel s1.dram m.2.buffer i : Int) else 0)).sum

theorem witness :
    s1.store.combine = some v1 ∧ v1.endAt ≤ s1.clock ∧ s1.store.combineQueue = [] ∧ s1.uplink.up = false ∧
      MemoryCanonical s1 ∧ StoreSound s1 ∧ v1.members.map (fun m => s1.store.frame? m.2) = [record 10 0, record 12
      1].map some ∧ (record 10 0).depth = 10 ∧ (record 10 0).width * (record 10 0).height * 2 ≤ 16777216 :=
  by decide +kernel
/-- The sums of the first two pixels, beyond the scale of 10 bits and below 0. -/
theorem sums : sum 0 = 2083 ∧ sum 1 = -256 := by decide +kernel

/-- A reception window of slot 0 and port 3 for a position, its frame of 3 lines with some of them stored, and the state
in which it closes with these groups standing, the engine and its queue set, and frames 21 and 22 in groups. -/
def w0 (rx : RxState) (position : Nat) : RxWindow := { window rx with slot := 0, cycle := 6 + position, position := position }
def f0 (position : Nat) (lines : List Nat) : RxFrame :=
  { frame 10 with slot := 0, cycle := 6 + position, position := position, stored := lines }
def r0 (position : Nat) : FrameRecord := { record 9 0 with port := 3, slot := 0, cycle := 6 + position, position := position }
def closing (rx : RxState) (position : Nat) (lines : List Nat) (groups : List Group) : State :=
  let s := plan (lane3 .locked (fun l => { l with
    window := some (w0 rx position), frame := if rx = .receiving then some (f0 position lines) else none }))
    .running (some linePlan)
  let u := stored .grouped [r0 position, record 21 5, record 22 6]
  { s with store := { u.store with
    buffers := upd u.store.buffers 0 (fun _ => .filling), groups := groups, outputQueue := [77] } }
def combines (n : Nat) (e : Option Combine) (s : State) : State :=
  { s with store := { s.store with combineQueue := List.replicate n ⟨1, 2, 3, false, [], Vector.replicate 8 none⟩, combine := e } }

/-- A new group of pass 3, one that holds frame 21 at position 0, a BROKEN one, and one of pass 2. -/
def new : Group := ⟨0, 3, 3, false, [.plus, .minus], Vector.replicate 8 none⟩
def holding : Group := { new with places := new.places.set 0 (some 21) }
def brokenGroup : Group := { new with broken := true }
def older : Group := { new with pass := 2, places := (new.places.set 0 (some 21)).set 1 (some 22) }

abbrev Closes (s : State) (rx : RxState) (i : Fin 8) (last : Bool) (held : Option Group) (others : List Group) : Prop :=
  s.seq.state = .running ∧ s.uplink.up = false ∧ StoreSound s ∧ s.lanes[3].window = some (w0 rx i.val) ∧
    s.seq.slots[(w0 rx i.val).slot.val]? = some slot1 ∧ s.seq.plan.map (·.length) = some 2 ∧
    (slot1.signs[i.val]? = some .plus ∨ slot1.signs[i.val]? = some .minus) ∧
    (last = true ↔ ∀ j : Fin 8, i < j → slot1.signs[j.val]? ≠ some .plus ∧ slot1.signs[j.val]? ≠ some .minus) ∧
    held = s.store.groups.find? (fun h => h.slot = 0 && h.port = 3) ∧
    others = s.store.groups.filter (fun h => !(h.slot = 0 && h.port = 3)) ∧ (w0 rx i.val).cycle / 2 = 3
abbrev Ends (s : State) (i : Fin 8) (lines : List Nat) (whole : Bool) : Prop :=
  s.lanes[3].frame = some (f0 i.val lines) ∧ s.store.frame? (f0 i.val lines).id = some (r0 i.val) ∧
    (f0 i.val lines).flags.aborted = false ∧ s.lanes[3].state = .locked ∧ (w0 .receiving i.val).deadline ≤ s.clock ∧
    (whole = true ↔ (f0 i.val lines).flags.truncated = false ∧
      ∀ n, n < (f0 i.val lines).height → n ∈ (f0 i.val lines).stored) ∧
    ∀ h ∈ s.store.groups, some (f0 i.val lines).id ∉ h.places.toList

/-- A frame that never starts: the first of a new group, and the last of a group that holds a member. -/
theorem lost_met : Closes (closing .awaitingStart 0 [] []) .awaitingStart 0 false none [] := by decide +kernel
theorem lost_met_2 :
    Closes (closing .awaitingStart 1 [] [holding]) .awaitingStart 1 true (some holding) [] := by decide +kernel
theorem deadline_met : (w0 .awaitingStart 1).deadline ≤ (closing .awaitingStart 1 [] [holding]).clock := by decide +kernel
/-- A frame that closes truncated, in a group of this pass and after one of an older pass. -/
theorem truncated_met : Closes (closing .receiving 1 [0, 2] [holding]) .receiving 1 true (some holding) [] := by
  decide +kernel
theorem truncated_ends : Ends (closing .receiving 1 [0, 2] [holding]) 1 [0, 2] false := by decide +kernel
theorem older_met : Closes (closing .receiving 0 [0, 2] [older]) .receiving 0 false (some older) [] := by decide +kernel
theorem older_ends :
    Ends (closing .receiving 0 [0, 2] [older]) 0 [0, 2] false ∧ older.pass ≠ 3 ∧ older.broken = false := by decide +kernel
/-- A whole frame: in a BROKEN group, before the last position, and at the last with a place empty. -/
theorem broken_met :
    Closes (closing .receiving 0 [0, 1, 2] [brokenGroup]) .receiving 0 false (some brokenGroup) [] := by decide +kernel
theorem broken_ends : Ends (closing .receiving 0 [0, 1, 2] [brokenGroup]) 0 [0, 1, 2] true := by decide +kernel
theorem first_met : Closes (closing .receiving 0 [0, 1, 2] []) .receiving 0 false none [] := by decide +kernel
theorem first_ends : Ends (closing .receiving 0 [0, 1, 2] []) 0 [0, 1, 2] true := by decide +kernel
theorem empty_met : Closes (closing .receiving 1 [0, 1, 2] []) .receiving 1 true none [] := by decide +kernel
theorem empty_ends :
    Ends (closing .receiving 1 [0, 1, 2] []) 1 [0, 1, 2] true ∧ (new.places.set 1 (some 9))[0] = none := by decide +kernel
/-- A group that becomes complete: with the engine idle, and busy with 31 and with 32 groups waiting. -/
def complete (n : Nat) (e : Option Combine) : State := combines n e (closing .receiving 1 [0, 1, 2] [holding])
theorem complete_met : Closes (complete 0 none) .receiving 1 true (some holding) [] := by decide +kernel
theorem complete_ends :
    Ends (complete 0 none) 1 [0, 1, 2] true ∧
      ∀ j : Fin 8, slot1.signs[j.val]? = some .plus ∨ slot1.signs[j.val]? = some .minus →
        (holding.places.set 1 (some 9))[j] ≠ none := by decide +kernel
theorem complete_time :
    (holding.places.set 1 (some 9)).toList.filterMap id = 21 :: [9] ∧
      (complete 0 none).store.frame? 21 = some (record 21 5) := by decide +kernel
theorem busy_met : Closes (complete 31 (some v1)) .receiving 1 true (some holding) [] := by decide +kernel
theorem busy_ends :
    Ends (complete 31 (some v1)) 1 [0, 1, 2] true ∧ (complete 31 (some v1)).store.combineQueue.length < 32 := by
  decide +kernel
theorem overflow_met : Closes (complete 32 (some v1)) .receiving 1 true (some holding) [] := by decide +kernel
theorem overflow_ends :
    Ends (complete 32 (some v1)) 1 [0, 1, 2] true ∧ 32 ≤ (complete 32 (some v1)).store.combineQueue.length := by
  decide +kernel

end CombineWritesClampedSums

/-! ### RegionReadJoinsOrIsRefused -/

namespace RegionReadJoinsOrIsRefused

def s1 : State := ask base 0x14 (num4 12 ++ num2 0 ++ num1 0 ++ num2 1)
def s2 : State := ask (stored .queued [record 12 0]) 0x14 (num4 12 ++ num2 0 ++ num1 0 ++ num2 1)
def v1 : FrameRecord := { record 12 0 with height := 64 }
def s3 : State := ask (stored .held [{ record 12 0 with height := 64 }]) 0x14 (num4 12 ++ num2 64 ++ num1 0 ++ num2 1)
def s4 : State := ask (stored .held [{ record 12 0 with height := 64 }]) 0x14 (num4 12 ++ num2 0 ++ num1 0 ++ num2 65)
def v2 : FrameRecord := { record 12 0 with height := 63 }
def s5 : State := ask (stored .held [{ record 12 0 with height := 63 }]) 0x14 (num4 12 ++ num2 62 ++ num1 2 ++ num2 0)
def v3 : RegionEntry := RegionEntry.mk 5 12 .linear 0 (some 1) 3
def v4 : RegionEntry := RegionEntry.mk 1 12 .linear 63 (some 64) 5000000
def s6 : State := ask (uplink (stored .held [ { record 12 0 with height := 64 }]) (fun u => { u with regions := List.replicate 4 v3 })) 0x14 (num4 12 ++ num2 63 ++ num1 0 ++ num2 64)
def v5 : RegionEntry := RegionEntry.mk 0 12 .group16 63 none 5000000
/-- The link is UP and nothing is in transmission: the queue empty or with an entry ahead, with this many credits. -/
def idle (ahead : List RegionEntry) (credits : Nat) : State :=
  ask (uplink (stored .held [v1]) (fun u => { u with up := true, credits := credits, regions := ahead })) 0x14
    (num4 12 ++ num2 63 ++ num1 0 ++ num2 64)
def s7 : State := ask (uplink (stored .held [ { record 12 0 with height := 64 }]) (fun u => { u with regions := List.replicate 3 v3, regionCounter := 65535 })) 0x14 (num4 12 ++ num2 63 ++ num1 1 ++ num2 0)

theorem clause1_met :
    12 < 4294967296 ∧ 0 < 65536 ∧ 0 < 256 ∧ 1 < 65536 ∧ Serves s1 20 51 (num4 12 ++ num2 0 ++ num1 0 ++ num2 1) ∧
      s1.store.frame? 12 = none :=
  by decide +kernel
theorem clause2_met :
    12 < 4294967296 ∧ 0 < 65536 ∧ 0 < 256 ∧ 1 < 65536 ∧ Serves s2 20 51 (num4 12 ++ num2 0 ++ num1 0 ++ num2 1) ∧
      s2.store.frame? 12 = some (record 12 0) ∧ s2.store.buffers[(record 12 0).buffer] ≠ BufferState.held :=
  by decide +kernel
theorem clause3_met :
    12 < 4294967296 ∧ 64 < 65536 ∧ 0 < 256 ∧ 1 < 65536 ∧ Serves s3 20 51 (num4 12 ++ num2 64 ++ num1 0 ++ num2 1) ∧
      s3.store.frame? 12 = some v1 ∧ s3.store.buffers[v1.buffer] = BufferState.held ∧ v1.height ≤ 64 :=
  by decide +kernel
theorem clause3_met_2 :
    12 < 4294967296 ∧ 0 < 65536 ∧ 0 < 256 ∧ 65 < 65536 ∧ Serves s4 20 51 (num4 12 ++ num2 0 ++ num1 0 ++ num2 65) ∧
      s4.store.frame? 12 = some v1 ∧ s4.store.buffers[v1.buffer] = BufferState.held ∧ v1.height < 65 :=
  by decide +kernel
theorem clause3_met_3 :
    12 < 4294967296 ∧ 62 < 65536 ∧ 2 < 256 ∧ 0 < 65536 ∧ Serves s5 20 51 (num4 12 ++ num2 62 ++ num1 2 ++ num2 0) ∧
      s5.store.frame? 12 = some v2 ∧ s5.store.buffers[v2.buffer] = BufferState.held ∧
      v2.height < 62 / 64 * 64 + 64 :=
  by decide +kernel
theorem clause4_met :
    12 < 4294967296 ∧ 63 < 65536 ∧ 0 < 256 ∧ 64 < 65536 ∧ Serves s6 20 51 (num4 12 ++ num2 63 ++ num1 0 ++ num2 64) ∧
      s6.store.frame? 12 = some v1 ∧ s6.store.buffers[v1.buffer] = BufferState.held ∧ 63 < v1.height ∧ 1 ≤ 64 ∧
      64 ≤ v1.height ∧ v4.mode = RegionMode.linear ∧ v4.count = some 64 ∧ (v4.number = if s6.uplink.regionCounter <
      65535 then s6.uplink.regionCounter + 1 else 0) ∧ v4.frame = 12 ∧ v4.start = 63 ∧ v4.arrival = s6.clock ∧
      4 ≤ s6.uplink.regions.length :=
  by decide +kernel
theorem clause6_met :
    12 < 4294967296 ∧ 63 < 65536 ∧ 0 < 256 ∧ 64 < 65536 ∧ Serves s6 20 51 (num4 12 ++ num2 63 ++ num1 0 ++ num2 64) ∧
      s6.store.frame? 12 = some v1 ∧ s6.store.buffers[v1.buffer] = BufferState.held ∧ 63 < v1.height ∧ 1 ≤ 64 ∧
      64 ≤ v1.height ∧ v4.mode = RegionMode.linear ∧ v4.count = some 64 ∧ (v4.number = if s6.uplink.regionCounter <
      65535 then s6.uplink.regionCounter + 1 else 0) ∧ v4.frame = 12 ∧ v4.start = 63 ∧ v4.arrival = s6.clock :=
  by decide +kernel
theorem clause5_met :
    12 < 4294967296 ∧ 63 < 65536 ∧ 1 < 256 ∧ 0 < 65536 ∧ Serves s7 20 51 (num4 12 ++ num2 63 ++ num1 1 ++ num2 0) ∧
      s7.store.frame? 12 = some v1 ∧ s7.store.buffers[v1.buffer] = BufferState.held ∧ 63 < v1.height ∧
      63 / 16 * 16 + 16 ≤ v1.height ∧ v5.mode = RegionMode.group16 ∧ v5.count = none ∧ (v5.number = if
      s7.uplink.regionCounter < 65535 then s7.uplink.regionCounter + 1 else 0) ∧ v5.frame = 12 ∧ v5.start = 63 ∧
      v5.arrival = s7.clock ∧ s7.uplink.regions.length < 4 ∧ s7.uplink.up = false :=
  by decide +kernel
theorem clause5_idle_met :
    ∀ ahead ∈ [[], [v3]], ∀ credits ∈ [0, 1],
      Serves (idle ahead credits) 20 51 (num4 12 ++ num2 63 ++ num1 0 ++ num2 64) ∧
      (idle ahead credits).store.frame? 12 = some v1 ∧ (idle ahead credits).store.buffers[v1.buffer] = .held ∧
      (v4.number = if (idle ahead credits).uplink.regionCounter < 65535
        then (idle ahead credits).uplink.regionCounter + 1 else 0) ∧ v4.arrival = (idle ahead credits).clock ∧
      (idle ahead credits).uplink.regions ++ [v4] = ahead ++ [v4] ∧
      (∀ first ∈ (ahead ++ [v4]).head?, (idle ahead credits).store.frame? first.frame = some v1) ∧
      (idle ahead credits).uplink.regions.length < 4 ∧ (idle ahead credits).uplink.up = true ∧
      (idle ahead credits).uplink.item = none ∧ (idle ahead credits).uplink.trailer = none ∧
      (idle ahead credits).uplink.packet = none ∧ (idle ahead credits).uplink.credits = credits :=
  by decide +kernel
theorem clause6_met_2 :
    12 < 4294967296 ∧ 63 < 65536 ∧ 1 < 256 ∧ 0 < 65536 ∧ Serves s7 20 51 (num4 12 ++ num2 63 ++ num1 1 ++ num2 0) ∧
      s7.store.frame? 12 = some v1 ∧ s7.store.buffers[v1.buffer] = BufferState.held ∧ 63 < v1.height ∧
      63 / 16 * 16 + 16 ≤ v1.height ∧ v5.mode = RegionMode.group16 ∧ v5.count = none ∧ (v5.number = if
      s7.uplink.regionCounter < 65535 then s7.uplink.regionCounter + 1 else 0) ∧ v5.frame = 12 ∧ v5.start = 63 ∧
      v5.arrival = s7.clock :=
  by decide +kernel
theorem clause7_met :
    12 < 4294967296 ∧ 63 < 65536 ∧ 1 < 256 ∧ 0 < 65536 ∧ Serves s7 20 51 (num4 12 ++ num2 63 ++ num1 1 ++ num2 0) ∧
      s7.store.frame? 12 = some v1 ∧ s7.store.buffers[v1.buffer] = BufferState.held ∧ 63 < v1.height ∧
      63 / 16 * 16 + 16 ≤ v1.height ∧ v5.mode = RegionMode.group16 ∧ v5.count = none ∧ (v5.number = if
      s7.uplink.regionCounter < 65535 then s7.uplink.regionCounter + 1 else 0) ∧ v5.frame = 12 ∧ v5.start = 63 ∧
      v5.arrival = s7.clock ∧ 15 < 16 :=
  by decide +kernel

end RegionReadJoinsOrIsRefused

/-! ### ReturnWordsMoveTheLink -/

namespace ReturnWordsMoveTheLink

def s1 : State := base
def s2 : State := uplink base (fun u => { u with up := true, credits := 4096, lastGoodWord := 4000000 })
def s3 : State := uplink base (fun u => { u with up := true, lastGoodWord := 4999001 })
def v1 : Item := ⟨.frame, 12, .header, 3, 0⟩
def v2 : RegionEntry := ⟨5, 12, .linear, 0, some 1, 3⟩
def v3 : Item := ⟨.region v2, 12, .header, 3, 0⟩
def s4 : State := uplink (stored .sending [record 12 0]) (fun u =>
  { u with up := true, item := some v1, packet := some ⟨.header, []⟩, lastGoodWord := 4999000 })
def s5 : State := uplink (stored .held [{ record 12 0 with heldPlace := true }]) (fun u =>
  { u with up := true, item := some v3, packet := some ⟨.header, []⟩, lastGoodWord := 4999000 })
def s6 : State := uplink (stored .sending [{ record 12 0 with heldPlace := true }]) (fun u =>
  { u with up := true, item := some v1, waiting := true, lastGoodWord := 4999000 })

theorem clause3_met : s1.uplink.up = false := by decide +kernel
theorem clause4_met : s1.uplink.up = false ∧ s1.uplink.regions = [] ∧ s1.store.outputQueue = [] := by decide +kernel
theorem clause5_met :
    s2.uplink.up = true ∧ s2.uplink.item = none ∧ s2.uplink.trailer = none ∧ s2.uplink.regions = [] ∧
      s2.store.outputQueue = [] :=
  by decide +kernel
theorem clause5_met_2 : s4.uplink.up = true ∧ s4.uplink.packet.isSome = true := by decide +kernel
theorem clause6_met : s3.uplink.up = true ∧ s3.clock < s3.uplink.lastGoodWord + 1000 := by decide +kernel
/-- The link stopped by silence, and by READY: with no item, with a frame that is freed, with a region, and with a frame
that goes to HELD. -/
theorem clause7_8_met :
    s2.uplink.up = true ∧ s2.uplink.lastGoodWord + 1000 ≤ s2.clock ∧ s2.uplink.item = none ∧ s2.uplink.regions = [] ∧
      s2.store.outputQueue = [] :=
  by decide +kernel
theorem clause7_8_met_2 :
    s4.uplink.up = true ∧ s4.uplink.lastGoodWord + 1000 ≤ s4.clock ∧ s4.uplink.item = some v1 ∧ v1.kind = .frame ∧
      s4.store.frame? v1.frame = some (record 12 0) ∧ s4.uplink.regions = [] ∧ s4.store.outputQueue = [] :=
  by decide +kernel
theorem clause7_8_met_3 :
    s5.uplink.up = true ∧ s5.uplink.lastGoodWord + 1000 ≤ s5.clock ∧ s5.uplink.item = some v3 ∧ v3.kind = .region v2 ∧
      s5.uplink.regions = [] ∧ s5.store.outputQueue = [] :=
  by decide +kernel
theorem clause7_8_met_4 :
    s6.uplink.up = true ∧ s6.uplink.lastGoodWord + 1000 ≤ s6.clock ∧ s6.uplink.item = some v1 ∧
      s6.store.frame? v1.frame = some { record 12 0 with heldPlace := true } ∧ s6.uplink.regions = [] ∧
      s6.store.outputQueue = [] :=
  by decide +kernel

end ReturnWordsMoveTheLink

/-! ### UplinkSendsFramePackets -/

namespace UplinkSendsFramePackets

/-- A frame of one line and a region of it, in flight with their next packet; the end of a HEADER or a LINE; and a state
with one of them in flight. -/
def e0 : RegionEntry := ⟨5, 12, .linear, 0, some 1, 3⟩
def i0 (kind : ItemKind) (next : ItemNext) : Item := ⟨kind, 12, next, 0, 0⟩
def p0 (kind : PacketKind) : Packet := ⟨kind, []⟩
def s1 (credits : Nat) (i : Item) (p : Option Packet) : State :=
  uplink (stored .sending [record 12 0]) (fun u => { u with
    up := true, credits := credits, item := some i, packet := p, waiting := p.isNone })
abbrev Flies (s : State) (i : Item) (p : Option Packet) : Prop :=
  s.uplink.up = true ∧ s.uplink.trailer = none ∧ s.uplink.item = some i ∧ s.store.frame? i.frame = some (record 12 0) ∧
    s.uplink.packet = p

theorem clause1_met :
    Flies (s1 0 (i0 .frame (.line 0)) (some (p0 .header))) (i0 .frame (.line 0)) (some (p0 .header)) ∧
      (s1 0 (i0 .frame (.line 0)) (some (p0 .header))).uplink.credits = 0 := by decide +kernel
/-- A GRANT of no credit in a wait. -/
theorem clause1_met_2 :
    Flies (s1 0 (i0 .frame .header) none) (i0 .frame .header) none ∧
      min 4096 ((s1 0 (i0 .frame .header) none).uplink.credits + (0 : BitVec 16).toNat) = 0 := by decide +kernel
def j0 : Item :=
  { i0 .frame .trailer with sent := 1, crc := crc32Feed 0 (((p0 .line).bytes.drop 7).take ((p0 .line).bytes.length - 9)) }
theorem clause2_met :
    (∀ place, (i0 .frame (.line 0)).next = .line place → place = 0) ∧
      Flies (s1 1 (i0 .frame (.line 0)) (some (p0 .header))) (i0 .frame (.line 0)) (some (p0 .header)) ∧
      0 < (s1 1 (i0 .frame (.line 0)) (some (p0 .header))).uplink.credits :=
  ⟨fun _ h => by cases h; rfl, by decide +kernel⟩
theorem clause2_met_2 :
    Flies (s1 4096 (i0 .frame .trailer) (some (p0 .line))) (i0 .frame .trailer) (some (p0 .line)) ∧ j0.sent = 0 + 1 ∧
      0 < (s1 4096 (i0 .frame .trailer) (some (p0 .line))).uplink.credits := by decide +kernel
theorem clause2_met_3 :
    Flies (s1 0 (i0 (.region e0) .header) none) (i0 (.region e0) .header) none ∧ e0.lines = 1 ∧
      0 < min 4096 ((s1 0 (i0 (.region e0) .header) none).uplink.credits + (1 : BitVec 16).toNat) := by decide +kernel

/-- The pending TRAILER of a cell reset, with a packet sent to its end or a wait for a credit. -/
def x0 : PendingTrailer := ⟨12, { aborted := true }, 3, 77⟩
def s4 (credits : Nat) (p : Option Packet) : State :=
  uplink base (fun u => { u with up := true, credits := credits, trailer := some x0, packet := p, waiting := p.isNone })
theorem trailer_met :
    (s4 0 (some (p0 .orphan))).uplink.up = true ∧ (s4 0 (some (p0 .orphan))).uplink.trailer = some x0 ∧
      (s4 0 (some (p0 .orphan))).uplink.packet = some (p0 .orphan) ∧ (p0 .orphan).kind = .orphan ∧
      (s4 0 (some (p0 .orphan))).uplink.credits = 0 ∧ 0 < (s4 1 (some (p0 .orphan))).uplink.credits := by decide +kernel
theorem trailer_met_2 :
    (s4 0 none).uplink.up = true ∧ (s4 0 none).uplink.trailer = some x0 ∧ (s4 0 none).uplink.packet = none ∧
      min 4096 ((s4 0 none).uplink.credits + (0 : BitVec 16).toNat) = 0 ∧
      0 < min 4096 ((s4 0 none).uplink.credits + (1 : BitVec 16).toNat) := by decide +kernel

/-- The send choice: nothing waiting; a region at the head; and a frame at the head with its hold set and seven held. -/
def sent (u : State) : State := { u with uplink := { u.uplink with
  packet := none, item := none, counts := { u.uplink.counts with regionsSent := sat32 u.uplink.counts.regionsSent } } }
def s2 (credits held : Nat) (regions : List RegionEntry) (queue : List Nat) : State :=
  let s := uplink (stored .queued [{ record 12 0 with hold := true }]) (fun u => { u with
    up := true, credits := credits, regions := regions, item := some (i0 (.region e0) .trailer)
    packet := some (p0 .trailer) })
  { s with store := { s.store with outputQueue := queue, heldSet := List.replicate held 77 } }
abbrev Chooses (s : State) : Prop :=
  s.uplink.waiting = false ∧ s.uplink.up = true ∧ s.uplink.packet = some (p0 .trailer) ∧
    s.uplink.item = some (i0 (.region e0) .trailer) ∧ s.uplink.trailer = none
theorem clause3_met :
    Chooses (s2 0 0 [] []) ∧ (sent (s2 0 0 [] [])).uplink.regions = [] ∧ (sent (s2 0 0 [] [])).store.outputQueue = [] := by
  decide +kernel
/-- The same of a handshake, of an orphan's end and of a pending trailer's end. -/
theorem clause3_met_2 :
    base.uplink.waiting = false ∧ base.uplink.up = false ∧ base.uplink.item = none ∧ base.uplink.trailer = none ∧
      base.uplink.packet = none ∧ base.uplink.regions = [] ∧ base.store.outputQueue = [] := by decide +kernel
def s3 (kind : PacketKind) : State := uplink base (fun u => { u with up := true, packet := some (p0 kind) })
theorem clause3_met_3 :
    (s3 .orphan).uplink.waiting = false ∧ (s3 .orphan).uplink.up = true ∧
      (s3 .orphan).uplink.packet = some (p0 .orphan) ∧ (s3 .orphan).uplink.item = none ∧
      (s3 .orphan).uplink.trailer = none ∧ (s3 .pendingTrailer).uplink.packet = some (p0 .pendingTrailer) ∧
      (s3 .pendingTrailer).uplink.waiting = false ∧ (s3 .pendingTrailer).uplink.up = true ∧
      (s3 .pendingTrailer).uplink.item = none := by decide +kernel
/-- The end of a frame's TRAILER. -/
theorem clause3_met_4 :
    Flies (s1 0 (i0 .frame .trailer) (some (p0 .trailer))) (i0 .frame .trailer) (some (p0 .trailer)) ∧
      (s1 0 (i0 .frame .trailer) (some (p0 .trailer))).uplink.waiting = false ∧ (p0 .trailer).kind = .trailer := by
  decide +kernel
theorem clause4_met :
    Chooses (s2 0 0 [e0] []) ∧ (sent (s2 0 0 [e0] [])).uplink.regions = [e0] ∧
      (sent (s2 0 0 [e0] [])).store.frame? e0.frame = some { record 12 0 with hold := true } ∧
      (sent (s2 0 0 [e0] [])).uplink.credits = 0 := by decide +kernel
theorem clause5_met :
    Chooses (s2 1 7 [] [12]) ∧ (sent (s2 1 7 [] [12])).uplink.regions = [] ∧
      (sent (s2 1 7 [] [12])).store.outputQueue = 12 :: [] ∧
      (sent (s2 1 7 [] [12])).store.frame? 12 = some { record 12 0 with hold := true } ∧
      (sent (s2 1 7 [] [12])).store.heldSet.length < 8 ∧ 0 < (sent (s2 1 7 [] [12])).uplink.credits := by decide +kernel
/-- The same with eight held. -/
theorem clause5_met_2 :
    Chooses (s2 1 8 [] [12]) ∧ (sent (s2 1 8 [] [12])).store.outputQueue = 12 :: [] ∧
      8 ≤ (sent (s2 1 8 [] [12])).store.heldSet.length ∧ 0 < (sent (s2 1 8 [] [12])).uplink.credits := by decide +kernel

end UplinkSendsFramePackets

/-! ### LensRequestsAreChecked -/

namespace LensRequestsAreChecked

def v1 : Axes := ⟨some 65535, none, some 10⟩
def s1 : State := ask lensIdle 0x16 (num1 8 ++ axesBytes ⟨some 65535, none, some 10⟩)
def s2 : State := ask lensIdle 0x17 (num1 8 ++ num1 0)
def s3 : State := ask lensIdle 0x19 (num1 8)
def s4 : State := ask lensIdle 0x1A (num1 8)
def s5 : State := ask lensIdle 0x17 (num1 3 ++ num1 8)
def s6 : State := ask base 0x19 (num1 3)
def s7 : State := ask base 0x1A (num1 3)
def s8 : State := ask base 0x16 (num1 3 ++ axesBytes ⟨some 65535, none, some 10⟩)
def s9 : State := ask (plan lensIdle .armed (some { linePlan with slots := [{ slot1 with preset := some 5 }] })) 0x17 (num1 3 ++ num1 7)
def s10 : State := ask (prof lensIdle 3 (fun f => { f with lensKind := .focusIris })) 0x16 (num1 3 ++ axesBytes ⟨some
    65535, none, some 10⟩)

theorem clause1_met :
    TargetsFit v1 ∧ 0 < 256 ∧ 8 < 256 ∧ 7 < 8 ∧ Serves s1 22 51 (num1 8 ++ axesBytes v1) :=
  ⟨by simp [TargetsFit, v1], by decide +kernel⟩
theorem clause2_met :
    TargetsFit v1 ∧ 0 < 256 ∧ 8 < 256 ∧ 7 < 8 ∧ Serves s2 23 51 (num1 8 ++ num1 0) :=
  ⟨by simp [TargetsFit, v1], by decide +kernel⟩
theorem clause3_met :
    TargetsFit v1 ∧ 0 < 256 ∧ 8 < 256 ∧ 7 < 8 ∧ Serves s3 25 51 (num1 8) :=
  ⟨by simp [TargetsFit, v1], by decide +kernel⟩
theorem clause4_met :
    TargetsFit v1 ∧ 0 < 256 ∧ 8 < 256 ∧ 7 < 8 ∧ Serves s4 26 51 (num1 8) :=
  ⟨by simp [TargetsFit, v1], by decide +kernel⟩
theorem clause5_met :
    TargetsFit v1 ∧ 8 < 256 ∧ 3 < 256 ∧ 3 = 3 ∧ 7 < 8 ∧ Serves s5 23 51 (num1 3 ++ num1 8) :=
  ⟨by simp [TargetsFit, v1], by decide +kernel⟩
theorem clause6_met :
    TargetsFit v1 ∧ 8 < 256 ∧ 3 < 256 ∧ 3 = 3 ∧ s6.lenses[3].state = LensState.absent ∧ Serves s6 25 51 (num1 3) :=
  ⟨by simp [TargetsFit, v1], by decide +kernel⟩
theorem clause7_met :
    TargetsFit v1 ∧ 8 < 256 ∧ 3 < 256 ∧ 3 = 3 ∧ s7.lenses[3].state = LensState.absent ∧ Serves s7 26 51 (num1 3) :=
  ⟨by simp [TargetsFit, v1], by decide +kernel⟩
theorem clause8_met :
    TargetsFit v1 ∧ 7 < 256 ∧ 3 < 256 ∧ 3 = 3 ∧ s8.lenses[3].state = LensState.absent ∧
      Serves s8 22 51 (num1 3 ++ axesBytes v1) :=
  ⟨by simp [TargetsFit, v1], by decide +kernel⟩
theorem clause9_met :
    TargetsFit v1 ∧ 7 < 256 ∧ 3 < 256 ∧ 3 = 3 ∧ s9.lenses[3].state = LensState.idle ∧ s9.seq.state = PlanState.armed ∧
      (∃ k ∈ s9.seq.slots, k.marks 3 = true ∧ k.preset ≠ none) ∧ 7 ≤ 7 ∧ Serves s9 23 51 (num1 3 ++ num1 7) :=
  ⟨by simp [TargetsFit, v1], by decide +kernel⟩
theorem clause10_met :
    TargetsFit v1 ∧ 7 < 256 ∧ 3 < 256 ∧ 3 = 3 ∧ s10.lenses[3].state = LensState.idle ∧
      s10.seq.state = PlanState.empty ∧ (¬TargetsAllowed s10.settings.ports[3].lensKind v1) ∧
      Serves s10 22 51 (num1 3 ++ axesBytes v1) :=
  ⟨by simp [TargetsFit, v1], by decide +kernel⟩
/-- An owned port is a port of a slot with a preset: a plan in service without one leaves it to the host. -/
def s11 : State := ask (plan (prof lensIdle 3 (fun f => { f with lensKind := .focusIris })) .armed (some linePlan)) 0x16
  (num1 3 ++ axesBytes v1)
theorem clause10_met_2 :
    TargetsFit v1 ∧ 7 < 256 ∧ 3 < 256 ∧ 3 = 3 ∧ s11.lenses[3].state = LensState.idle ∧
      ¬ ((s11.seq.state = .armed ∨ s11.seq.state = .running ∨ s11.seq.state = .stopping) ∧
        ∃ k ∈ s11.seq.slots, k.marks 3 = true ∧ k.preset ≠ none) ∧ ¬ TargetsAllowed s11.settings.ports[3].lensKind v1 ∧
      Serves s11 22 51 (num1 3 ++ axesBytes v1) :=
  ⟨by simp [TargetsFit, v1], by decide +kernel⟩

end LensRequestsAreChecked

/-! ### LensMovesBeginOrPend -/

namespace LensMovesBeginOrPend

def a1 : Axes := ⟨some 5000, some 255, none⟩
def m1 : Move := ⟨.seek, ⟨some 4095, some 255, none⟩, 0, .host, none⟩
def m2 : Move := ⟨.seek, ⟨some 0, none, none⟩, 0, .host, some 7⟩
def s1 : State := ask (flying (flight seek0 true none 9000000 4999990)) 0x16 (num1 3 ++ axesBytes a1)
def s2 : State := ask (lens (flying (flight seek0 true none 9000000 4999990)) 3 (fun l =>
  { l with pending := some seek30 })) 0x17 (num1 3 ++ num1 7)
def s3 : State := ask lensIdle 0x16 (num1 3 ++ axesBytes a1)
def s4 : State := ask (lens lensIdle 3 (fun l => { l with state := .stalled, position := {} })) 0x19 (num1 3)

/-- The targets of `a1`, beyond the range of the focus axis, make the move `m1`, CLAMPED. -/
theorem clamped (s : State) (h : TargetsAllowed s.settings.ports[(3 : Port)].lensKind a1)
    (h2 : Serves s 0x16 0x33 (num1 3 ++ axesBytes a1)) :
    TargetsFit a1 ∧ TargetsAllowed s.settings.ports[(3 : Port)].lensKind a1 ∧ Serves s 0x16 0x33 (num1 3 ++ axesBytes a1) ∧
      m1 = ⟨.seek, ⟨a1.focus.map (min 4095), a1.iris, a1.zoom.map (min 4095)⟩, 0, .host, none⟩ ∧ m1.targets ≠ a1 :=
  ⟨by simp [TargetsFit, a1], h, h2, by decide, by decide⟩

theorem clause1_met :
    s1.seq.state = .empty ∧ TargetsAllowed s1.settings.ports[3].lensKind a1 ∧
      Serves s1 0x16 0x33 (num1 3 ++ axesBytes a1) ∧ s1.lenses[3].state = .moving ∧ s1.lenses[3].pending = none :=
  by decide +kernel
theorem clause2_met :
    s2.seq.state = .empty ∧ Serves s2 0x17 0x33 (num1 3 ++ num1 7) ∧ s2.lenses[3].state = .moving ∧
      m2.settle = s2.settings.presets[3][7].settle ∧ m2.targets.focus = some s2.settings.presets[3][7].focus ∧
      DrivesIris s2.settings.ports[3].lensKind ∧ m2.targets.iris = s2.settings.presets[3][7].iris ∧
      DrivesZoom s2.settings.ports[3].lensKind ∧ m2.targets.zoom = s2.settings.presets[3][7].zoom ∧
      s2.lenses[3].pending = some seek30 ∧ s2.lenses[3].toBegin = false :=
  by decide +kernel
theorem clause3_met :
    s3.seq.state = .empty ∧ TargetsAllowed s3.settings.ports[3].lensKind a1 ∧
      Serves s3 0x16 0x33 (num1 3 ++ axesBytes a1) ∧ s3.lenses[3].state = .idle ∧ s3.power[3].state = .on ∧
      LensFree s3 3 ∧ BusIdle s3 3 ∧ SurgeFits s3 3 ∧ s3.lanes[3].exposure = none ∧
      s3.lenses[3].position.focus ≠ none ∧ s3.lenses[3].position.iris ≠ none ∧ m1.targets.zoom = none :=
  by decide +kernel
theorem clause3_met_2 :
    s4.seq.state = .empty ∧ Serves s4 0x19 0x33 (num1 3) ∧ s4.lenses[3].state = .stalled ∧ s4.power[3].state = .on ∧
      LensFree s4 3 ∧ BusIdle s4 3 ∧ SurgeFits s4 3 ∧ s4.lanes[3].exposure = none ∧
      home = ⟨.home, {}, 0, .host, none⟩ :=
  by decide +kernel

/-- The exposure of slot 0 in cycle 7 closes at port 3, with its lens at rest and the plan in service. -/
def e0 : Exposure := ⟨5000000, 0, 7⟩
def closing (q : Plan) (pending : Option PendingTrigger) (next : Option Time) (f : Lens → Lens) : State :=
  let s := plan (lane (lens lensIdle 3 f) 3 (fun l => { l with exposure := some e0 })) .running (some q)
  { s with seq := { s.seq with
    pending := pending, nextExpiry := next, current := some ⟨7, 0, 4900000, false, [0], []⟩, cycleCounter := 8 } }
def v2 : PendingTrigger := ⟨.line, 4, true⟩
def waits (n : Nat) (l : Lens) : Lens := { l with stage := .windowWait, pending := some seek30, waits := n, claim := .granted }
abbrev Closes (s : State) (q : Plan) : Prop :=
  s.seq.plan = some q ∧ s.seq.marks 3 = true ∧ s.sweeps.sweep = none ∧ BusIdle s 3 ∧ s.power[3].state = .on ∧
    s.lenses[3].state = .idle ∧ s.lenses[3].flight = none ∧ s.lenses[3].halt = none ∧
    (s.lenses[3].claim = .granted ∨ (s.lenses[3].claim = .none ∧ SurgeFits s 3)) ∧
    s.lenses[3].position.focus ≠ none ∧ s.lenses[3].position.zoom ≠ none ∧ s.lenses[3].position.iris ≠ none
abbrev Waits (s : State) (q : Plan) (n : Nat) : Prop :=
  s.lanes[3].exposure = some e0 ∧ e0.endAt ≤ s.clock ∧ s.seq.state = .running ∧ s.lenses[3].stage = .windowWait ∧
    s.lenses[3].toBegin = false ∧ s.lenses[3].pending = some seek30 ∧ s.lenses[3].waits = n ∧
    ∀ k ∈ q.slots, k.preset = none

/-- A move that does not fit, as a trigger is pending, the seventh time. -/
theorem clause4_met :
    Closes (closing linePlan (some v2) none (waits 7)) linePlan ∧ Waits (closing linePlan (some v2) none (waits 7)) linePlan 7 ∧
      ¬ ((linePlan.mode = .lineTrigger ∧ (closing linePlan (some v2) none (waits 7)).seq.pending = none) ∨
        linePlan.mode = .freeRun) :=
  by decide +kernel
/-- One that fits, and one that waits for the eighth time. -/
theorem clause5_met :
    Closes (closing linePlan none none (waits 0)) linePlan ∧ Waits (closing linePlan none none (waits 0)) linePlan 0 ∧
      linePlan.mode = .lineTrigger ∧ (closing linePlan none none (waits 0)).seq.pending = none :=
  by decide +kernel
theorem clause5_met_2 :
    Closes (closing linePlan (some v2) none (waits 8)) linePlan ∧ Waits (closing linePlan (some v2) none (waits 8)) linePlan 8 := by
  decide +kernel
/-- In FREE_RUN: the next exposure of port 3 leaves the time for it, or it does not. -/
theorem clause4_5_met :
    Closes (closing (freePlan 1000000) none (some 5900000) (waits 0)) (freePlan 1000000) ∧
      Waits (closing (freePlan 1000000) none (some 5900000) (waits 0)) (freePlan 1000000) 0 ∧
      Closes (closing (freePlan 1000000) none (some 5000001) (waits 0)) (freePlan 1000000) ∧
      Waits (closing (freePlan 1000000) none (some 5000001) (waits 0)) (freePlan 1000000) 0 :=
  by decide +kernel

/-- The next slot of port 3 has another preset, and nothing is pending at its lens. -/
def q1 : Plan :=
  { linePlan with slots := [{ slot1 with offset := 10, preset := some 2 }, { slot1 with offset := 60000, preset := some 5 }] }
def s5 : State := closing q1 none none (fun l => { l with claim := .none })
theorem clause5_met_3 :
    Closes s5 q1 ∧ LensFree s5 3 ∧ s5.seq.current = some ⟨7, 0, 4900000, false, [0], []⟩ ∧ q1.slots.length ≤ 4 ∧
      q1.slots[0]? = some { slot1 with offset := 10, preset := some 2 } ∧
      q1.slots[1]? = some { slot1 with offset := 60000, preset := some 5 } ∧
      (∀ o ∈ q1.slots, o.marks 3 = true → 10 < o.offset →
        o = { slot1 with offset := 60000, preset := some 5 } ∨ 60000 < o.offset) ∧
      (∃ o ∈ q1.slots, o.marks 3 = true ∧ o.preset ≠ none ∧ o.offset < 60000) ∧
      s5.lenses[3].position.focus ≠ some s5.settings.presets[3][5].focus :=
  by decide +kernel

/-- A cycle begins, whose first slot on port 3 has a preset. -/
def q2 : Plan := { linePlan with slots :=
  [{ slot1 with preset := some 5, ports := Vector.ofFn (fun (i : Fin 8) => decide (i.val = 3)) }] }
def s6 : State := plan (lens lensIdle 3 (fun l => { l with claim := .none })) .armed (some q2)
theorem clause6_met :
    Closes s6 q2 ∧ q2.mode = .lineTrigger ∧ q2.edge = some .falling ∧ s6.seq.state = .armed ∧ s6.seq.pending = none ∧
      ¬ PlanQuiet s6 ∧ s6.seq.cycleCounter < 18446744073709551615 ∧ s6.lanes[3].exposure = none ∧ LensFree s6 3 ∧
      q2.slots.length ≤ 4 ∧ (∀ k ∈ q2.slots, k.preset = some 5) ∧
      (∀ k ∈ q2.slots, ∀ o : Port, k.marks o = true ↔ o = 3) ∧
      s6.lenses[3].position.focus ≠ some s6.settings.presets[3][5].focus :=
  by decide +kernel

/-- The distances and speeds of a HOME from an absent position, and of a SEEK up on one axis and down on another, its
iris where it stands. -/
def homeAxes (f : PortProfile) : List (Nat × Nat) := [(4095, f.focusSpeed), (255, f.irisSpeed), (4095, f.zoomSpeed)]
def seekAxes (f : PortProfile) : List (Nat × Nat) := [(400, f.focusSpeed), (0, f.irisSpeed), (2990, f.zoomSpeed)]
def seek20 : Move := ⟨.seek, ⟨some 500, some 20, some 10⟩, 0, .host, none⟩
/-- The lens at rest, its speeds the least. -/
def slow : State := prof lensIdle 3 (fun f => { f with focusSpeed := 1, irisSpeed := 1, zoomSpeed := 1 })
theorem clause7_met :
    ∀ at_ : Axes, at_ = (lens slow 3 (fun l => { l with position := {} })).lenses[3].position →
      1 ≤ slow.settings.ports[3].focusSpeed ∧ 1 ≤ slow.settings.ports[3].irisSpeed ∧ 1 ≤ slow.settings.ports[3].zoomSpeed ∧
      home.kind = .home ∧ ∀ a, a ∈ homeAxes slow.settings.ports[3] ↔
        (slow.settings.ports[3].lensKind ≠ .none ∧ a = (at_.focus.getD 4095, slow.settings.ports[3].focusSpeed)) ∨
        (DrivesIris slow.settings.ports[3].lensKind ∧ a = (at_.iris.getD 255, slow.settings.ports[3].irisSpeed)) ∨
        (DrivesZoom slow.settings.ports[3].lensKind ∧ a = (at_.zoom.getD 4095, slow.settings.ports[3].zoomSpeed)) := by
  rintro at_ rfl
  have hk : slow.settings.ports[3].lensKind = .focusIrisZoom := by decide +kernel
  have hp : (lens slow 3 (fun l => { l with position := {} })).lenses[3].position = {} := by decide +kernel
  refine ⟨by decide +kernel, by decide +kernel, by decide +kernel, rfl, fun a => ?_⟩
  rw [hk, hp]
  simp [homeAxes, DrivesIris, DrivesZoom]
theorem clause7_met_2 :
    slow.lenses[3].position = ⟨some 100, some 20, some 3000⟩ ∧ seek20.kind = .seek ∧
      ∀ a, a ∈ seekAxes slow.settings.ports[3] ↔
        (∃ x y, slow.lenses[3].position.focus = some x ∧ seek20.targets.focus = some y ∧
          a = ((x - y) + (y - x), slow.settings.ports[3].focusSpeed)) ∨
        (∃ x y, slow.lenses[3].position.iris = some x ∧ seek20.targets.iris = some y ∧
          a = ((x - y) + (y - x), slow.settings.ports[3].irisSpeed)) ∨
        (∃ x y, slow.lenses[3].position.zoom = some x ∧ seek20.targets.zoom = some y ∧
          a = ((x - y) + (y - x), slow.settings.ports[3].zoomSpeed)) := by
  have hp : slow.lenses[3].position = ⟨some 100, some 20, some 3000⟩ := by decide +kernel
  refine ⟨hp, rfl, fun a => ?_⟩
  rw [hp]
  simp [seekAxes, seek20]
/-- The full range of the focus axis at the least speed takes 4,095 ms, and 2,990 units take 2,990. -/
theorem test_r121_estimate :
    (lens slow 3 (fun l => { l with position := {} })).estimate 3 home = 4095 ∧ slow.estimate 3 seek20 = 2990 := by
  decide +kernel

/-- A plan whose slots mark port 3 at 500 and 70, with one between that marks no port, and its state of service. -/
def q3 (mode : CycleMode) : Plan :=
  { freePlan 1000000 with
    mode := mode
    slots := [{ slot1 with offset := 500 }, { slot1 with offset := 60, ports := Vector.replicate 8 false },
      { slot1 with offset := 70 }] }
def forecast (st : PlanState) (pending : Option Bool) (dispatched : Option (List (Fin 4))) (q : Plan) : State :=
  let s := plan base st (some q)
  { s with seq := { s.seq with
    pending := pending.map (fun held => ⟨.line, 4, held⟩)
    current := dispatched.map (fun d => ⟨7, 0, 4900000, false, d, []⟩)
    nextExpiry := some 6000000 } }
/-- Each row of the table of R67 stands in a state of service of that plan, port 3 marked by the slots 0 and 2. -/
theorem clause8_met :
    (∀ mode ∈ [CycleMode.freeRun, .lineTrigger], ∀ j : Fin 3,
      ((q3 mode).slots[j.val]?).map (fun k => (k.marks 3, k.offset)) =
        [some (true, 500), some (false, 60), some (true, 70)][j.val]?.join) ∧
      (q3 .freeRun).slots.all (fun k => k.marks 4 = false) = true ∧
      (forecast .running (some true) none (q3 .freeRun)).seq.pending = some ⟨.line, 4, true⟩ ∧
      (forecast .running (some false) (some [2]) (q3 .lineTrigger)).seq.pending = some ⟨.line, 4, false⟩ ∧
      (forecast .running (some false) (some [2]) (q3 .lineTrigger)).seq.current = some ⟨7, 0, 4900000, false, [2], []⟩ ∧
      (forecast .stopping none (some [0, 2]) (q3 .freeRun)).seq.current = some ⟨7, 0, 4900000, false, [0, 2], []⟩ ∧
      (forecast .armed none none (q3 .lineTrigger)).seq.current = none ∧
      (forecast .armed none none (q3 .freeRun)).seq.nextExpiry = some 6000000 := by decide +kernel
/-- The values the table of R67 gives in them: now, the slot that is left, none, and the earliest slot after the next
expiry. -/
theorem test_r67_forecast :
    (forecast .running (some true) none (q3 .freeRun)).nextExposure 3 = some 5000000 ∧
      (forecast .running (some false) (some [2]) (q3 .lineTrigger)).nextExposure 3 = some 4900500 ∧
      (forecast .stopping none (some [0, 2]) (q3 .freeRun)).nextExposure 3 = none ∧
      (forecast .armed none none (q3 .lineTrigger)).nextExposure 3 = none ∧
      (forecast .armed none none (q3 .freeRun)).nextExposure 3 = some 6000070 := by decide +kernel

end LensMovesBeginOrPend

/-! ### HaltStopsTheLens -/

namespace HaltStopsTheLens

def v1 : HaltRead := HaltRead.mk (some seek0) 5000001 4999999
def s1 : State := ask (lens lensIdle 3 (fun l => { l with state := .moving, halt := some v1 })) 0x1A (num1 3)
def v2 : HaltRead := HaltRead.mk (some seek0) 5000000 4999999
def s2 : State := lens lensIdle 3 (fun l => { l with state := .moving, halt := some v2 })
def s3 : State := ask (lensIdle) 0x1A (num1 3)
def s4 : State := ask (flying (flight seek0 true none 9000000 4999990)) 0x1A (num1 3)
def s5 : State := ask (flying (flight seek30 true (some 6000000) 9000000 1)) 0x1A (num1 3)
def s6 : State := ask (flying (flight home true none 9000000 4999990)) 0x1A (num1 3)
def s7 : State := ask (lens lensIdle 3 (fun l => { l with state := .fault })) 0x1A (num1 3)

theorem clause1_met :
    s1.lenses[3].bus = { state := BusState.free } ∧ s1.supply.claims = [] ∧ s1.lenses[3].claim ≠ LensClaim.standing ∧
      Serves s1 26 51 (num1 3) ∧ s1.lenses[3].halt.isSome = true ∧ s1.lenses[3].state ≠ LensState.absent :=
  by decide +kernel
theorem clause7_met :
    s1.lenses[3].bus = { state := BusState.free } ∧ s1.supply.claims = [] ∧ s1.lenses[3].claim ≠ LensClaim.standing ∧
      s1.lenses[3].halt = some v1 ∧ v1.nextPoll ≤ s1.clock ∧ s1.clock < v1.deadline :=
  by decide +kernel
theorem clause8_met :
    s2.lenses[3].bus = { state := BusState.free } ∧ s2.supply.claims = [] ∧ s2.lenses[3].claim ≠ LensClaim.standing ∧
      s2.lenses[3].halt = some v2 ∧ v2.deadline ≤ s2.clock ∧ s2.lenses[3].pending = none :=
  by decide +kernel
theorem clause2_met :
    s3.lenses[3].bus = { state := BusState.free } ∧ s3.supply.claims = [] ∧ s3.lenses[3].claim ≠ LensClaim.standing ∧
      Serves s3 26 51 (num1 3) ∧ s3.lenses[3].halt = none ∧ s3.lenses[3].state = LensState.idle ∧
      s3.lenses[3].flight = none :=
  by decide +kernel
theorem clause3_met :
    s4.lenses[3].bus = { state := BusState.free } ∧ s4.supply.claims = [] ∧ s4.lenses[3].claim ≠ LensClaim.standing ∧
      Serves s4 26 51 (num1 3) ∧ s4.lenses[3].halt = none ∧ s4.lenses[3].state = LensState.moving ∧
      s4.lenses[3].flight = some (flight seek0 true none 9000000 4999990) ∧
      (flight seek0 true none 9000000 4999990).settleEndAt = none :=
  by decide +kernel
theorem clause4_met :
    s5.lenses[3].bus = { state := BusState.free } ∧ s5.supply.claims = [] ∧ s5.lenses[3].claim ≠ LensClaim.standing ∧
      Serves s5 26 51 (num1 3) ∧ s5.lenses[3].halt = none ∧ s5.lenses[3].state = LensState.moving ∧
      s5.lenses[3].flight = some (flight seek30 true (some 6000000) 9000000 1) ∧
      (flight seek30 true (some 6000000) 9000000 1).settleEndAt ≠ none :=
  by decide +kernel
theorem clause5_met :
    s6.lenses[3].bus = { state := BusState.free } ∧ s6.supply.claims = [] ∧ s6.lenses[3].claim ≠ LensClaim.standing ∧
      Serves s6 26 51 (num1 3) ∧ s6.lenses[3].halt = none ∧ s6.lenses[3].state = LensState.homing ∧
      s6.lenses[3].flight = some (flight home true none 9000000 4999990) :=
  by decide +kernel
theorem clause6_met :
    s7.lenses[3].bus = { state := BusState.free } ∧ s7.supply.claims = [] ∧ s7.lenses[3].claim ≠ LensClaim.standing ∧
      Serves s7 26 51 (num1 3) ∧ s7.lenses[3].halt = none ∧ s7.lenses[3].state = LensState.fault ∧
      s7.power[3].state = PowerState.on :=
  by decide +kernel

end HaltStopsTheLens

/-! ### FlightIsPolledToItsEnd -/

namespace FlightIsPolledToItsEnd

def s1 : State := head (flying (flight seek0 false none 5000000 5000000))
def s2 : State := flying (flight seek0 false none 5000000 5000000)
def s3 : State := lens (flying (flight seek0 true none 5000000 5000000)) 3 (fun l =>
    { l with pending := some seek30 })

theorem clause1_met :
    s1.lenses[3].flight = some (flight seek0 false none 5000000 5000000) ∧ s1.lenses[3].halt = none ∧
      s1.supply.claims = [] ∧ s1.lenses[3].claim ≠ LensClaim.standing ∧
      (flight seek0 false none 5000000 5000000).settleEndAt = none ∧
      (flight seek0 false none 5000000 5000000).nextPoll ≤ s1.clock ∧ s1.lenses[3].bus.state ≠ BusState.free :=
  by decide +kernel
theorem clause2_met :
    s2.lenses[3].flight = some (flight seek0 false none 5000000 5000000) ∧ s2.lenses[3].halt = none ∧
      s2.supply.claims = [] ∧ s2.lenses[3].claim ≠ LensClaim.standing ∧
      (flight seek0 false none 5000000 5000000).settleEndAt = none ∧
      (flight seek0 false none 5000000 5000000).nextPoll ≤ s2.clock ∧ BusIdle s2 3 ∧ s2.lanes[3].exposure = none ∧
      (¬(flight seek0 false none 5000000 5000000).acked = true) ∧
      (flight seek0 false none 5000000 5000000).acked = false :=
  by decide +kernel
theorem clause3_met :
    s2.lenses[3].flight = some (flight seek0 false none 5000000 5000000) ∧ s2.lenses[3].halt = none ∧
      s2.supply.claims = [] ∧ s2.lenses[3].claim ≠ LensClaim.standing ∧
      (flight seek0 false none 5000000 5000000).settleEndAt = none ∧
      (flight seek0 false none 5000000 5000000).deadline ≤ s2.clock ∧ BusIdle s2 3 ∧ s2.lenses[3].pending = none :=
  by decide +kernel
theorem clause2_met_2 :
    s3.lenses[3].flight = some (flight seek0 true none 5000000 5000000) ∧ s3.lenses[3].halt = none ∧
      s3.supply.claims = [] ∧ s3.lenses[3].claim ≠ LensClaim.standing ∧
      (flight seek0 true none 5000000 5000000).settleEndAt = none ∧
      (flight seek0 true none 5000000 5000000).nextPoll ≤ s3.clock ∧ BusIdle s3 3 ∧ s3.lanes[3].exposure = none ∧
      (flight seek0 true none 5000000 5000000).acked = true ∧
      (¬(flight seek0 true none 5000000 5000000).acked = false) :=
  by decide +kernel
theorem clause4_met :
    s3.lenses[3].flight = some (flight seek0 true none 5000000 5000000) ∧ s3.lenses[3].halt = none ∧
      s3.supply.claims = [] ∧ s3.lenses[3].claim ≠ LensClaim.standing ∧
      (flight seek0 true none 5000000 5000000).settleEndAt = none ∧
      (flight seek0 true none 5000000 5000000).deadline ≤ s3.clock ∧ BusIdle s3 3 ∧
      s3.lenses[3].pending = some seek30 ∧ seek30.kind = MoveKind.seek :=
  by decide +kernel
def settling : Flight := flight seek30 true (some 5000000) 9000000 5000000

theorem clause5_met :
    (flying settling).lenses[3].flight = some settling ∧ (flying settling).lenses[3].halt = none ∧
      (flying settling).supply.claims = [] ∧ (flying settling).lenses[3].claim ≠ .standing ∧
      settling.settleEndAt = some 5000000 ∧ 5000000 ≤ (flying settling).clock ∧
      (flying settling).lenses[3].pending = none ∧ (flying settling).lenses[3].bus.waiting = [] :=
  by decide +kernel

end FlightIsPolledToItsEnd

/-! ### TransactionOutcomesActOnLens -/

namespace TransactionOutcomesActOnLens

/-- REPORTs of a lens not settled and settled; a halt read; and the hub's transaction of a kind on the bus of a lens. -/
def v1 : List Byte := [0, 0x01, 0x02, 0x11, 0x0F, 0xFE, 0, 0xDF]
def v2 : List Byte := [1, 0x01, 0x02, 0x11, 0x0F, 0xFE, 0, 0xDE]
def v3 : HaltRead := ⟨some seek0, 5000001, 4999999⟩
def f0 (m : Move) : Flight := flight m true none 5000000 5000000
def inMove (m : Move) (k : TxnKind) : State := hub (flying (f0 m)) k 0
def halting (noAnswers : Nat) : State :=
  hub (lens lensIdle 3 (fun l => { l with state := .moving, halt := some v3, noAnswer := noAnswers })) .haltRead 0
def silent (m : Move) (k : TxnKind) (noAnswers : Nat) : State :=
  lens (inMove m k) 3 (fun l => { l with noAnswer := noAnswers, position := {} })
def resting (k : TxnKind) (noAnswers : Nat) : State :=
  hub (lens lensIdle 3 (fun l => { l with noAnswer := noAnswers })) k 0
abbrev Ends (s : State) (k : TxnKind) : Prop :=
  s.lenses[3].bus = ⟨.hub, some ⟨k, 0, [1]⟩, []⟩ ∧ s.lenses[3].toBegin = false ∧ s.lenses[3].pending = none ∧
    s.supply.claims = [] ∧ s.lenses[3].claim ≠ .standing

theorem clause1_met : Ends (inMove seek0 .motion) .motion := by decide +kernel
theorem clause2_met :
    Ends (inMove seek0 .poll) .poll ∧ Ends (halting 0) .haltRead ∧ Ends (resting .stop 0) .stop := by decide +kernel
theorem clause3_met : Ends (silent seek0 .motion 1) .motion ∧ (silent seek0 .motion 1).lenses[3].noAnswer < 2 := by
  decide +kernel
theorem clause4_met : Ends (resting .stop 2) .stop := by decide +kernel
/-- The third NO_ANSWER in a row at a lens with no move in flight. -/
theorem clause5_met :
    Ends (resting .poll 2) .poll ∧ 2 ≤ (resting .poll 2).lenses[3].noAnswer ∧ (resting .poll 2).lenses[3].halt = none ∧
      (resting .poll 2).lenses[3].flight = none := by decide +kernel
/-- The same with a move in flight, and in a halt read. -/
theorem clause6_met :
    Ends (silent home .motion 2) .motion ∧ 2 ≤ (silent home .motion 2).lenses[3].noAnswer ∧
      (silent home .motion 2).lenses[3].halt = none ∧ (silent home .motion 2).lenses[3].flight = some (f0 home) := by
  decide +kernel
theorem clause6_met_2 :
    Ends (halting 2) .haltRead ∧ 2 ≤ (halting 2).lenses[3].noAnswer ∧ (halting 2).lenses[3].halt = some v3 := by
  decide +kernel
theorem clause7_met :
    Ends (inMove seek0 .motion) .motion ∧ (inMove seek0 .motion).lenses[3].flight = some (f0 seek0) ∧
      (f0 seek0).move.kind = .seek := by decide +kernel
theorem clause7_met_2 :
    Ends (silent home .motion 0) .motion ∧ (silent home .motion 0).lenses[3].flight = some (f0 home) ∧
      (f0 home).move.kind = .home ∧ (silent home .motion 0).lenses[3].position = {} := by decide +kernel
theorem clause8_met : Ends (inMove seek0 .poll) .poll ∧ ([1, 2] : List Byte).length ≠ 8 := by decide +kernel
theorem clause9_met : Ends (inMove seek0 .poll) .poll ∧ GoodReport v1 ∧ (v1.headD 0).getLsbD 0 = false := by
  decide +kernel
theorem clause10_met :
    Ends (inMove seek30 .poll) .poll ∧ GoodReport v2 ∧ (v2.headD 0).getLsbD 0 = true ∧
      (inMove seek30 .poll).lenses[3].flight = some (f0 seek30) ∧ (f0 seek30).settleEndAt = none ∧
      (f0 seek30).move.kind = .seek ∧ 0 < (f0 seek30).move.settle := by decide +kernel
theorem clause11_met :
    Ends (inMove seek0 .poll) .poll ∧ GoodReport v2 ∧ (v2.headD 0).getLsbD 0 = true ∧
      (inMove seek0 .poll).lenses[3].flight = some (f0 seek0) ∧ (f0 seek0).settleEndAt = none ∧
      (f0 seek0).move.kind = .seek ∧ (f0 seek0).move.settle = 0 := by decide +kernel
theorem clause11_met_2 :
    Ends (inMove home .poll) .poll ∧ (inMove home .poll).lenses[3].flight = some (f0 home) ∧
      (f0 home).settleEndAt = none ∧ (f0 home).move.kind = .home := by decide +kernel
theorem clause12_met :
    Ends (halting 0) .haltRead ∧ GoodReport v2 ∧ (v2.headD 0).getLsbD 0 = true ∧ (halting 0).lenses[3].halt = some v3 := by
  decide +kernel

end TransactionOutcomesActOnLens

/-! ### SidebandBusChangesHands -/

namespace SidebandBusChangesHands

def v1 : List Byte := [0x20, 0x41, 7, 0x98]
def v2 : List Byte := [0x20, 0x42, 0x9E]
def f0 : Flight := flight seek0 false none 5000000 5000000
def f1 : Flight := flight seek30 true (some 6000000) 5000000 5000000
/-- A lens at rest in a state, with its bus the hub's, the head's, or in RECOVERY. -/
def at_ (st : LensState) : State := lens lensIdle 3 (fun l => { l with state := st })
def recovering : State := lens lensIdle 3 (fun l => { l with bus := ⟨.recovery, none, []⟩ })
abbrev Rests (s : State) (b : BusState) : Prop :=
  s.lenses[3].toBegin = false ∧ s.lenses[3].pending = none ∧ s.supply.claims = [] ∧ s.lenses[3].claim ≠ .standing ∧
    s.lenses[3].halt = none ∧ s.lenses[3].bus.state = b ∧ s.lenses[3].bus.waiting = []

theorem clause1_met : Rests lensIdle .free := by decide +kernel
theorem clause2_met : Rests (head lensIdle) .head := by decide +kernel
theorem clause3_met : Rests recovering .recovery := by decide +kernel
theorem clause4_met :
    Rests (head (at_ .fault)) .head ∧ (head (at_ .fault)).lenses[3].state = .fault ∧ Rests (at_ .absent) .free ∧
      (at_ .absent).lenses[3].state = .absent := by decide +kernel
/-- The STOP that a stall sent hangs. -/
theorem clause4_met_2 :
    Rests (hub (at_ .stalled) .stop 0) .hub ∧ (hub (at_ .stalled) .stop 0).lenses[3].state = .stalled ∧
      (hub (at_ .stalled) .stop 0).lenses[3].bus.txn = some ⟨.stop, 0, [1]⟩ := by decide +kernel
theorem clause5_met :
    Rests (hub (flying f0) .poll 1) .hub ∧ (hub (flying f0) .poll 1).lenses[3].state = .moving ∧
      Rests lensIdle .free ∧ lensIdle.lenses[3].state = .idle := by decide +kernel
/-- The count that a hang leaves, where the address byte was acknowledged and where no transaction of the hub was under way. -/
theorem clause4_count :
    ((true = true ∧ (hub (flying f0) .poll 1).lenses[3].bus.state = .hub) ∧ (head lensIdle).lenses[3].bus.state ≠ .hub) := by
  decide +kernel
/-- A STALLED lens whose bus hangs in the head's hands. -/
theorem clause5_met_2 :
    Rests (head (at_ .stalled)) .head ∧ (head (at_ .stalled)).lenses[3].state = .stalled := by decide +kernel
theorem clause6_met :
    Rests (hub (flying f0) .motion 2) .hub ∧
      (hub (flying f0) .motion 2).lenses[3].bus = ⟨.hub, some ⟨.motion, 2, [1]⟩, []⟩ := by decide +kernel
theorem clause7_met :
    Rests (hub (flying f0) .motion 3) .hub ∧
      (hub (flying f0) .motion 3).lenses[3].bus = ⟨.hub, some ⟨.motion, 3, [1]⟩, []⟩ ∧
      (hub (flying f0) .motion 3).lenses[3].flight = some f0 ∧ f0.move.kind = .seek := by decide +kernel
theorem clause8_met : Rests (head lensIdle) .head ∧ ([] : List Byte).headD 0 ≠ 0x20 := by decide +kernel
theorem clause9_met :
    Rests (head (at_ .fault)) .head ∧ ([0x20, 0x41] : List Byte).headD 0 = 0x20 ∧
      ([0x20, 0x41] : List Byte).foldl (· + ·) 0 ≠ 0 := by decide +kernel
theorem clause10_met : Rests (head lensIdle) .head ∧ (0x43 : Byte) ≠ 0x41 ∧ (0x43 : Byte) ≠ 0x42 := by decide +kernel
theorem clause11_met :
    Rests (head lensIdle) .head ∧ v1 = [0x20, 0x41, 7, 0x98] ∧ v1.foldl (· + ·) 0 = 0 ∧ lensIdle.lenses[3].flight = none := by
  decide +kernel
/-- A LIMIT in the settle time. -/
theorem clause11_met_2 :
    Rests (head (flying f1)) .head ∧ (head (flying f1)).lenses[3].flight = some f1 ∧ f1.settleEndAt ≠ none := by
  decide +kernel
theorem clause12_met : Rests (head (flying f0)) .head ∧ InFlight (head (flying f0)) 3 f0 := by decide +kernel
theorem clause13_met :
    Rests (head (at_ .fault)) .head ∧ v2 = [0x20, 0x42, 0x9E] ∧ v2.foldl (· + ·) 0 = 0 ∧
      (head (at_ .fault)).lenses[3].state = .fault := by decide +kernel
theorem clause14_met :
    Rests (head (flying f0)) .head ∧ v2.foldl (· + ·) 0 = 0 ∧ (head (flying f0)).lenses[3].state ≠ .absent ∧
      (head (flying f0)).lenses[3].state ≠ .fault := by decide +kernel

end SidebandBusChangesHands

/-! ### SettingsRequestsReplace -/

namespace SettingsRequestsReplace

def s1 : State := ask base 6 (num1 4 ++ num1 1)
def s2 : State := ask base 6 (num1 5 ++ num1 1)
def s3 : State := ask base 16 (num1 4 ++ num1 0)
def s4 : State := ask base 16 (num1 4 ++ num1 5)
def v1 : PresetEntry := ⟨4095, some 255, some 4095, 500⟩
def s5 : State := ask base 24 (num1 7 ++ num1 7 ++ num2 4095 ++ optNum 1 (some 255) ++ optNum 2 (some 4095) ++ num2
    500)
def v2 : PresetEntry := ⟨4095, some 255, some 4096, 500⟩
def s6 : State := ask base 24 (num1 7 ++ num1 7 ++ num2 4095 ++ optNum 1 (some 255) ++ optNum 2 (some 4096) ++ num2
    500)
def s7 : State := ask base 29 (num1 60 ++ num2 65535 ++ num1 8)
def s8 : State := ask base 29 (num1 60 ++ num2 0 ++ num1 8)
def s9 : State := ask base 28 (num1 15)
def s10 : State := ask base 28 (num1 16)

theorem clause1_met :
    4 < 256 ∧ 1 < 256 ∧ 0 < 65536 ∧ Serves s1 6 51 (num1 4 ++ num1 1) ∧ 4 ≤ 4 ∧ 1 ≤ 1 := by decide +kernel
theorem clause2_met : 5 < 256 ∧ 1 < 256 ∧ 0 < 65536 ∧ Serves s2 6 51 (num1 5 ++ num1 1) ∧ 4 < 5 := by decide +kernel
theorem clause3_met : 4 < 256 ∧ 0 < 256 ∧ 0 < 65536 ∧ Serves s3 16 51 (num1 4 ++ num1 0) := by decide +kernel
theorem clause4_met : 4 < 256 ∧ 5 < 256 ∧ 0 < 65536 ∧ Serves s4 16 51 (num1 4 ++ num1 5) ∧ 4 < 5 := by decide +kernel
theorem clause5_met :
    (∀ (k : Nat), v1.iris = some k → k < 256) ∧ (∀ (k : Nat), v1.zoom = some k → k < 65536) ∧
      (∀ (k : Nat), v1.zoom = some k → k ≤ 4095) ∧ 7 < 256 ∧ 0 < 65536 ∧ v1.focus < 65536 ∧ v1.settle < 65536 ∧
      Serves s5 24 51 (num1 7 ++ num1 7 ++ num2 v1.focus ++ optNum 1 v1.iris ++ optNum 2 v1.zoom ++ num2 v1.settle) ∧
      7 = 7 ∧ v1.focus ≤ 4095 ∧ v1.settle ≤ 500 :=
  ⟨of_some rfl (by decide), of_some rfl (by decide), of_some rfl (by decide), by decide +kernel⟩
theorem clause6_met :
    (∀ (k : Nat), v2.iris = some k → k < 256) ∧ (∀ (k : Nat), v2.zoom = some k → k < 65536) ∧
      (∃ k, v2.zoom = some k ∧ 4095 < k) ∧ 7 < 256 ∧ 0 < 65536 ∧ v2.focus < 65536 ∧ v2.settle < 65536 ∧
      Serves s6 24 51 (num1 7 ++ num1 7 ++ num2 v2.focus ++ optNum 1 v2.iris ++ optNum 2 v2.zoom ++ num2 v2.settle) :=
  ⟨of_some rfl (by decide), of_some rfl (by decide), ⟨_, rfl, by decide⟩, by decide +kernel⟩
theorem clause7_met :
    60 < 256 ∧ 8 < 256 ∧ 65535 < 65536 ∧ Serves s7 29 51 (num1 60 ++ num2 65535 ++ num1 8) ∧ 1 ≤ 60 ∧ 60 ≤ 60 ∧
      1 ≤ 65535 ∧ 1 ≤ 8 ∧ 8 ≤ 8 :=
  by decide +kernel
theorem clause8_met :
    60 < 256 ∧ 8 < 256 ∧ 0 < 65536 ∧ Serves s8 29 51 (num1 60 ++ num2 0 ++ num1 8) := by decide +kernel
theorem clause9_met :
    (∃ k : Fin 16, 15 = k.val ∧ some (15 : Fin 16) = some k) ∧ 15 < 256 ∧ 0 < 256 ∧ 0 < 65536 ∧
      Serves s9 28 51 (num1 15) ∧ s9.sweeps.sweep = none :=
  ⟨⟨15, by decide⟩, by decide +kernel⟩
theorem clause10_met :
    16 < 256 ∧ 0 < 256 ∧ 0 < 65536 ∧ Serves s10 28 51 (num1 16) ∧ 16 ≤ 16 ∧ 16 ≠ 255 := by decide +kernel

end SettingsRequestsReplace

/-! ### BreakClearClearsItsTargets -/

namespace BreakClearClearsItsTargets

/-- Three records, two of them of port 5, and a BREAK_CLEAR of a target. -/
def s1 (kind target : Nat) : State :=
  ask (table [broken 4 2 .dataErrors .suspect, broken 9 2 .powerOpen .cleared, broken 7 5 .dataErrors .confirmed,
    broken 8 5 .powerOpen .suspect] 3) 0x1F (num1 kind ++ num2 target)

theorem clause1_met :
    (∀ (r : BreakRecord), (fun (r : BreakRecord) => decide (r.id = 4)) r = decide (r.id = 4)) ∧ 0 < 256 ∧ 4 < 65536 ∧
      Serves (s1 0 4) 31 51 (num1 0 ++ num2 4) ∧ (∃ r ∈ (s1 0 4).table.records, r.id = 4) :=
  ⟨fun _ => rfl, by decide +kernel⟩
theorem clause1_met_2 :
    (∀ (r : BreakRecord), (fun (r : BreakRecord) => decide (r.port.val = 7)) r = decide (r.port.val = 7)) ∧ 1 < 256 ∧
      7 < 65536 ∧ Serves (s1 1 7) 31 51 (num1 1 ++ num2 7) ∧ 7 ≤ 7 :=
  ⟨fun _ => rfl, by decide +kernel⟩
theorem clause1_met_3 :
    (∀ (r : BreakRecord), (fun _ => true) r = true) ∧ 2 < 256 ∧ 65535 < 65536 ∧
      Serves (s1 2 65535) 31 51 (num1 2 ++ num2 65535) ∧
      ((s1 2 65535).table.records.filter (fun r => true && r.state != .cleared)).map (·.id) = [4, 7, 8] :=
  ⟨fun _ => rfl, by decide +kernel⟩
theorem clause2_met :
    0 < 256 ∧ 65535 < 65536 ∧ Serves (s1 0 65535) 31 51 (num1 0 ++ num2 65535) ∧
      (∀ r ∈ (s1 0 65535).table.records, r.id ≠ 65535) :=
  by decide +kernel
theorem clause3_met : 1 < 256 ∧ 8 < 65536 ∧ Serves (s1 1 8) 31 51 (num1 1 ++ num2 8) ∧ 7 < 8 := by decide +kernel
theorem clause4_met : 3 < 256 ∧ 0 < 65536 ∧ Serves (s1 3 0) 31 51 (num1 3 ++ num2 0) ∧ 2 < 3 := by decide +kernel

end BreakClearClearsItsTargets

/-! ### WindowCloseJudgesThePorts -/

namespace WindowCloseJudgesThePorts

def s1 : State := { base with monitor := { base.monitor with windowEnd := 5000001 } }
/-- Port 3 with 20 errors, 10 of them in segment 5 and some in segment 2, auto-sweep set and a cable record; and with one
error and five quiet windows. -/
def errors (b : Nat) : Evidence :=
  { errors := 20, bins := Vector.ofFn (fun (i : Fin 17) => if i.val = 5 then 10 else if i.val = 2 then b else 0), above := 2 }
def closing (e : Evidence) (records : List BreakRecord) : State :=
  let s := prof (table records 3) 3 (fun f => { f with autoSweep := true })
  { s with
    settings := { s.settings with cables := upd s.settings.cables 3 (fun _ => cable) }
    monitor := { s.monitor with windowEnd := 5000000, ports := upd s.monitor.ports 3 (fun _ => e) } }
def count (s : State) (k : Fin 16) : Nat := s.monitor.ports[3].bins[k.val]

theorem clause1_met : s1.clock < s1.monitor.windowEnd := by decide +kernel
/-- Segments 5 and 2 hold three quarters of the errors, and no DATA_ERRORS record stands. -/
theorem clause2_met :
    (∀ k, count (closing (errors 5) []) k = (closing (errors 5) []).monitor.ports[3].bins[k.val]) ∧
      (closing (errors 5) []).monitor.windowEnd ≤ (closing (errors 5) []).clock ∧
      (closing (errors 5) []).settings.suspectThreshold ≤ (closing (errors 5) []).monitor.ports[3].errors ∧
      (closing (errors 5) []).table.records.length ≤ 24 ∧ (5 : Fin 16) ≠ 2 ∧
      (∀ k, count (closing (errors 5) []) k < count (closing (errors 5) []) 5 ∨
        (count (closing (errors 5) []) k = count (closing (errors 5) []) 5 ∧ 5 ≤ k)) ∧
      (∀ k, k ≠ 5 → count (closing (errors 5) []) k < count (closing (errors 5) []) 2 ∨
        (count (closing (errors 5) []) k = count (closing (errors 5) []) 2 ∧ 2 ≤ k)) ∧
      20 * 3 ≤ (count (closing (errors 5) []) 5 + count (closing (errors 5) []) 2) * 4 ∧
      (closing (errors 5) []).settings.confirmWindows ≤ min 255 ((errors 5).above + 1) ∧
      (closing (errors 5) []).settings.ports[3].autoSweep = true ∧
      (closing (errors 5) []).settings.cables[3].isSet = true ∧ (closing (errors 5) []).sweeps.queue = [] ∧
      (closing (errors 5) []).sweeps.sweep = none :=
  ⟨fun _ => rfl, by decide +kernel⟩
/-- They hold less, and a CLEARED record stands. -/
theorem clause2_met_2 :
    (count (closing (errors 4) [broken 4 3 .dataErrors .cleared]) 5 +
        count (closing (errors 4) [broken 4 3 .dataErrors .cleared]) 2) * 4 < 20 * 3 ∧
      (closing (errors 4) [broken 4 3 .dataErrors .cleared]).table.records.length ≤ 24 := by decide +kernel
/-- The sixth quiet window in a row, of a SUSPECT and of a CONFIRMED record. -/
theorem clause3_met :
    RecordsApart (closing { errors := 1, quiet := 5 } [broken 4 3 .dataErrors .suspect]) ∧
      (1 : Nat) < (closing { errors := 1, quiet := 5 } [broken 4 3 .dataErrors .suspect]).settings.suspectThreshold ∧
      RecordsApart (closing { errors := 1, quiet := 5 } [broken 4 3 .dataErrors .confirmed]) := by decide +kernel

end WindowCloseJudgesThePorts

/-! ### EvidenceMergesOrCreates -/

namespace EvidenceMergesOrCreates

def v1 : Evidence := { errors := 4294967294 }
def v2 : Evidence := { errors := 4294967295 }
/-- A record of a reflection of port 2 at a place. -/
def reflected (id location : Nat) (st : BreakState) : BreakRecord :=
  { broken id 2 .reflection st with reflection := some ⟨location, .open, location, 1⟩ }
def s1 : State := table (full.take 31) 65535
def s2 : State := table full 3
def s3 : State := table (full.take 31 ++ [broken 4 2 .powerOpen .cleared]) 3
def s4 (st : BreakState) : State := table [broken 4 2 .powerOpen st] 3
def s5 : State := table [reflected 4 79 .suspect, reflected 5 100 .cleared, reflected 6 121 .suspect] 65535
def s6 : State := table [reflected 4 79 .suspect, reflected 6 120 .suspect, reflected 7 100 .suspect] 9
abbrev Meets (r : BreakRecord) : Prop := r.port = 2 ∧ r.kind = .powerOpen ∧ r.state ≠ .cleared
def MeetsReflection (r : BreakRecord) : Prop :=
  r.port = 2 ∧ r.kind = .reflection ∧ r.state ≠ .cleared ∧
    ∃ f, r.reflection = some f ∧ f.location ≤ 100 + 20 ∧ 100 ≤ f.location + 20
theorem meetsReflection_of {id location : Nat} {st : BreakState} (h : MeetsReflection (reflected id location st)) :
    st ≠ .cleared ∧ location ≤ 120 ∧ 80 ≤ location := by
  obtain ⟨-, -, h, f, hf, h2⟩ := h
  cases hf
  have low : location ≤ 120 := h2.1
  have high : 100 ≤ location + 20 := h2.2
  exact ⟨h, low, by omega⟩

theorem clause1_2_3_met : v1.errors < 4294967295 := by decide +kernel
theorem clause4_met : 4294967295 ≤ v2.errors := by decide +kernel
theorem clause5_met :
    (∀ r ∈ s1.table.records, ¬ Meets r) ∧ 65535 = s1.table.nextId ∧ s1.table.records.length < 32 ∧
      (∀ r ∈ s1.table.records, r.id ≠ 65535) :=
  by decide +kernel
/-- A reflection at 100 cm, one centimetre too far from two records, with a CLEARED one at its place. -/
theorem clause5_met_2 :
    (∀ r ∈ s5.table.records, ¬ MeetsReflection r) ∧ 65535 = s5.table.nextId ∧ s5.table.records.length < 32 ∧
      (∀ r ∈ s5.table.records, r.id ≠ 65535) := by
  refine ⟨fun r hr h => ?_, by decide +kernel⟩
  rcases List.mem_cons.1 hr with rfl | hr
  · exact absurd (meetsReflection_of h).2.2 (by decide)
  rcases List.mem_cons.1 hr with rfl | hr
  · exact (meetsReflection_of h).1 rfl
  rcases List.mem_cons.1 hr with rfl | hr
  · exact absurd (meetsReflection_of h).2.1 (by decide)
  · cases hr
theorem clause6_met :
    (∀ r ∈ s2.table.records, ¬ Meets r) ∧ 3 = s2.table.nextId ∧ 32 ≤ s2.table.records.length ∧
      (∀ r ∈ s2.table.records, r.state ≠ .cleared) :=
  by decide +kernel
theorem clause7_met :
    (∀ r ∈ s3.table.records, ¬ Meets r) ∧ 3 = s3.table.nextId ∧ 32 ≤ s3.table.records.length ∧
      s3.table.records = full.take 31 ++ [broken 4 2 .powerOpen .cleared] ∧ (∀ r ∈ full.take 31, r.state ≠ .cleared) ∧
      (broken 4 2 .powerOpen .cleared).state = .cleared ∧ (∀ r ∈ full.take 31 ++ [], r.id ≠ 3) :=
  by decide +kernel
/-- The ids from a counter's value on, and a full table whose next id names a record that stays, and whose CLEARED record
is named by another as located-by. -/
def ids (next : Nat) : Nat → Nat
  | 0 => next
  | n + 1 => if 65535 ≤ ids next n then 1 else ids next n + 1
def s8 : State := table (broken 51 1 .reflection .cleared ::
  ({ broken 65535 1 .dataErrors .confirmed with locatedBy := some 51 } :: full.take 30)) 65535
def kept8 : List BreakRecord := broken 65535 1 .dataErrors .confirmed :: full.take 30
theorem clause7_met_2 :
    (∀ r ∈ s8.table.records, ¬ Meets r) ∧ ids 65535 0 = s8.table.nextId ∧ 1 = ids 65535 1 ∧ 1 ≤ kept8.length ∧
      (∀ j, j < 1 → ∃ r ∈ kept8, r.id = ids 65535 j) ∧ (∀ r ∈ kept8, r.id ≠ 1) ∧ 32 ≤ s8.table.records.length ∧
      kept8 = ([] ++ s8.table.records.tail).map
        (fun (r : BreakRecord) => if r.locatedBy = some 51 then { r with locatedBy := none } else r) :=
  by decide +kernel
theorem ids_met : ∀ j, ids 65535 (j + 1) = if 65535 ≤ ids 65535 j then 1 else ids 65535 j + 1 := fun _ => rfl
theorem clause8_met :
    (s4 .suspect).table.records = [] ++ [broken 4 2 .powerOpen .suspect] ∧ Meets (broken 4 2 .powerOpen .suspect) ∧
      (broken 4 2 .powerOpen .suspect).state = .suspect :=
  by decide +kernel
theorem clause9_met :
    (s4 .confirmed).table.records = [] ++ [broken 4 2 .powerOpen .confirmed] ∧ Meets (broken 4 2 .powerOpen .confirmed) ∧
      (broken 4 2 .powerOpen .confirmed).state = .confirmed :=
  by decide +kernel
/-- A reflection at 100 cm meets the first record within 20 cm. -/
theorem clause8_9_met_2 :
    s6.table.records = [reflected 4 79 .suspect] ++ reflected 6 120 .suspect :: [reflected 7 100 .suspect] ∧
      (∀ q ∈ [reflected 4 79 .suspect], ¬ MeetsReflection q) ∧ MeetsReflection (reflected 6 120 .suspect) := by
  refine ⟨by decide +kernel, fun q hq h => ?_, rfl, rfl, by decide, _, rfl, by decide, by decide⟩
  rcases List.mem_cons.1 hq with rfl | hq
  · exact absurd (meetsReflection_of h).2.2 (by decide)
  · cases hq

/-- A located REFLECTION record 5 beside records of its port that it confirms, relocates or leaves. -/
def s7 : State := table [broken 1 2 .dataErrors .suspect, { broken 2 2 .powerOpen .confirmed with locatedBy := some 5 },
  broken 3 2 .powerOpen .confirmed, broken 4 2 .dataErrors .cleared, reflected 5 100 .suspect] 9
theorem clause10_met : ∀ r ∈ s7.table.records, r.id = 4 → r.port = 2 → r.kind ≠ .reflection := by decide +kernel
theorem clause11_met : ∃ r ∈ s7.table.records, r.id = 5 ∧ r.port = 2 ∧ r.kind = .reflection := by decide +kernel

end EvidenceMergesOrCreates

/-! ### SweepRequestsAreServed -/

namespace SweepRequestsAreServed

def s1 : State := ask base 0x20 (cableBody 3 49 900 255 [] 1024)
def s2 : State := ask base 0x20 (cableBody 3 6000 900 255 [1638, 255] 1024)
def s3 : State := ask (sweeping (sweepOf (entry 3 1) []) .acquiring) 0x20 (cableBody 3 50 500 255 [] 16)
def s4 : State := ask base 0x20 (cableBody 3 6000 900 255 [16383, 256] 1024)
def s5 : State := ask base 0x21 (num1 3 ++ num1 1 ++ num1 4 ++ num1 2 ++ optNum 1 (some 7) ++ optNum 1 (some 60))
def s6 : State := ask (sweeping (sweepOf (entry 3 1) []) .acquiring) 0x21 (num1 3 ++ num1 1 ++ num1 4 ++ num1 2 ++
    optNum 1 (some 7) ++ optNum 1 (some 60))
def s7 : State := ask (queued (sweeping (sweepOf (entry 4 1) []) .acquiring) [entry 7 2, entry 3 8, entry 5 9]) 0x21
    (num1 3 ++ num1 1 ++ num1 4 ++ num1 2 ++ optNum 1 (some 7) ++ optNum 1 (some 60))
def s8 : State := ask ((let s := queued (sweeping (sweepOf (entry 4 1) []) .acquiring) [entry 7 2]; { s with sweeps := { s.sweeps with counter := 65535 } })) 0x21 (num1 3 ++ num1 1 ++ num1 4 ++ num1 2 ++ optNum 1 (some 7) ++ optNum 1 (some 60))
def s9 : State := ask ( { base with settings := (sweeping (sweepOf (entry 3 1) []) .none).settings }) 0x21 (num1 3 ++
    num1 1 ++ num1 4 ++ num1 2 ++ optNum 1 (some 7) ++ optNum 1 (some 60))
def s10 : State := ask (queued (sweeping (sweepOf (entry 4 1) []) .acquiring) [entry 7 2, entry 3 8]) 0x22 (num1 3)
def s11 : State := ask (sweeping (sweepOf (entry 4 1) []) .acquiring) 0x22 (num1 3)
def s12 : State := ask (sweeping (sweepOf (entry 3 1) []) .acquiring) 0x22 (num1 3)

theorem clause1_met :
    49 < 65536 ∧ 900 < 65536 ∧ 255 < 256 ∧ 1024 < 65536 ∧ Serves s1 32 51 (cableBody 3 49 900 255 [] 1024) ∧
      49 < 50 :=
  by decide +kernel
theorem clause1_met_2 :
    6000 < 65536 ∧ 900 < 65536 ∧ 255 < 256 ∧ 1024 < 65536 ∧ [1638, 255].length < 256 ∧
      (∀ c ∈ [1638, 255], c < 65536) ∧ Serves s2 32 51 (cableBody 3 6000 900 255 [1638, 255] 1024) ∧
      (∃ c ∈ [1638, 255], c ≤ 255 ∨ 16383 < c) :=
  by decide +kernel
theorem clause2_met :
    (∃ w, s3.sweeps.sweep = some w ∧ w.entry.port = 3) ∧ 50 < 65536 ∧ 500 < 65536 ∧ 255 < 256 ∧ 16 < 65536 ∧
      Serves s3 32 51 (cableBody 3 50 500 255 [] 16) ∧ 50 ≤ 50 ∧ 50 ≤ 6000 ∧ 500 ≤ 500 ∧ 500 ≤ 900 ∧ 16 ≤ 16 ∧
      16 ≤ 1024 :=
  ⟨⟨_, rfl, by decide⟩, by decide +kernel⟩
theorem clause3_met :
    6000 < 65536 ∧ 900 < 65536 ∧ 255 < 256 ∧ 1024 < 65536 ∧ [16383, 256].length < 256 ∧
      (∀ c ∈ [16383, 256], c < 65536) ∧ Serves s4 32 51 (cableBody 3 6000 900 255 [16383, 256] 1024) ∧ 50 ≤ 6000 ∧
      6000 ≤ 6000 ∧ 500 ≤ 900 ∧ 900 ≤ 900 ∧ [16383, 256].length ≤ 4 ∧ (∀ c ∈ [16383, 256], 255 < c ∧ c ≤ 16383) ∧
      16 ≤ 1024 ∧ 1024 ≤ 1024 ∧ (∀ q ∈ s4.sweeps.queue, q.port ≠ 3) ∧
      (∀ (w : Sweep), s4.sweeps.sweep = some w → w.entry.port ≠ 3) :=
  by decide +kernel
theorem clause4_met :
    50 < 65536 ∧ 500 < 65536 ∧ 0 < 256 ∧ 16 < 65536 ∧ (entry 3 1).port = 3 ∧ (entry 3 1).source = SweepSource.host ∧
      (entry 3 1).acquisitions = 4 ∧ 1 ≤ (entry 3 1).deadline ∧ (entry 3 1).deadline ≤ 60 ∧ ((entry 3 1).number = if
      s5.sweeps.counter < 65535 then s5.sweeps.counter + 1 else 1) ∧ Serves s5 33 51 (num1 3 ++ num1 (entry 3
      1).kind.code ++ num1 (entry 3 1).acquisitions ++ num1 (entry 3 1).quorum.code ++ optNum 1 (Option.map (fun x =>
      x.val) (entry 3 1).segment) ++ optNum 1 (some (entry 3 1).deadline)) ∧ s5.settings.cables[3].isSet = false :=
  by decide +kernel
theorem clause5_met :
    50 < 65536 ∧ 500 < 65536 ∧ 0 < 256 ∧ 16 < 65536 ∧ (entry 3 1).port = 3 ∧ (entry 3 1).source = SweepSource.host ∧
      (entry 3 1).acquisitions = 4 ∧ 1 ≤ (entry 3 1).deadline ∧ (entry 3 1).deadline ≤ 60 ∧ ((entry 3 1).number = if
      s6.sweeps.counter < 65535 then s6.sweeps.counter + 1 else 1) ∧ Serves s6 33 51 (num1 3 ++ num1 (entry 3
      1).kind.code ++ num1 (entry 3 1).acquisitions ++ num1 (entry 3 1).quorum.code ++ optNum 1 (Option.map (fun x =>
      x.val) (entry 3 1).segment) ++ optNum 1 (some (entry 3 1).deadline)) ∧ s6.settings.cables[3].isSet = true ∧
      s6.sweeps.sweep = some (Tests.sweepOf (entry 3 1) []) ∧ (Tests.sweepOf (entry 3 1) []).entry.port = 3 :=
  by decide +kernel
theorem clause6_met :
    50 < 65536 ∧ 500 < 65536 ∧ 0 < 256 ∧ 16 < 65536 ∧ (entry 3 1).port = 3 ∧ (entry 3 1).source = SweepSource.host ∧
      (entry 3 1).acquisitions = 4 ∧ 1 ≤ (entry 3 1).deadline ∧ (entry 3 1).deadline ≤ 60 ∧ ((entry 3 1).number = if
      s7.sweeps.counter < 65535 then s7.sweeps.counter + 1 else 1) ∧ Serves s7 33 51 (num1 3 ++ num1 (entry 3
      1).kind.code ++ num1 (entry 3 1).acquisitions ++ num1 (entry 3 1).quorum.code ++ optNum 1 (Option.map (fun x =>
      x.val) (entry 3 1).segment) ++ optNum 1 (some (entry 3 1).deadline)) ∧ s7.settings.cables[3].isSet = true ∧
      (∀ (w : Sweep), s7.sweeps.sweep = some w → w.entry.port ≠ 3) ∧
      s7.sweeps.queue = [entry 7 2] ++ [entry 3 8, entry 5 9] ∧ (∀ r ∈ [entry 7 2], r.port ≠ 3) ∧
      (entry 3 8).port = 3 :=
  by decide +kernel
theorem clause7_met :
    50 < 65536 ∧ 500 < 65536 ∧ 0 < 256 ∧ 16 < 65536 ∧ (entry 3 1).port = 3 ∧ (entry 3 1).source = SweepSource.host ∧
      (entry 3 1).acquisitions = 4 ∧ 1 ≤ (entry 3 1).deadline ∧ (entry 3 1).deadline ≤ 60 ∧ ((entry 3 1).number = if
      s8.sweeps.counter < 65535 then s8.sweeps.counter + 1 else 1) ∧ Serves s8 33 51 (num1 3 ++ num1 (entry 3
      1).kind.code ++ num1 (entry 3 1).acquisitions ++ num1 (entry 3 1).quorum.code ++ optNum 1 (Option.map (fun x =>
      x.val) (entry 3 1).segment) ++ optNum 1 (some (entry 3 1).deadline)) ∧ s8.settings.cables[3].isSet = true ∧
      (∀ (w : Sweep), s8.sweeps.sweep = some w → w.entry.port ≠ 3) ∧ (∀ q ∈ s8.sweeps.queue, q.port ≠ 3) ∧
      s8.sweeps.sweep.isSome = true :=
  by decide +kernel
theorem clause8_met :
    50 < 65536 ∧ 500 < 65536 ∧ 0 < 256 ∧ 16 < 65536 ∧ (entry 3 1).port = 3 ∧ (entry 3 1).source = SweepSource.host ∧
      (entry 3 1).acquisitions = 4 ∧ 1 ≤ (entry 3 1).deadline ∧ (entry 3 1).deadline ≤ 60 ∧ ((entry 3 1).number = if
      s9.sweeps.counter < 65535 then s9.sweeps.counter + 1 else 1) ∧ Serves s9 33 51 (num1 3 ++ num1 (entry 3
      1).kind.code ++ num1 (entry 3 1).acquisitions ++ num1 (entry 3 1).quorum.code ++ optNum 1 (Option.map (fun x =>
      x.val) (entry 3 1).segment) ++ optNum 1 (some (entry 3 1).deadline)) ∧ s9.settings.cables[3].isSet = true ∧
      (∀ (w : Sweep), s9.sweeps.sweep = some w → w.entry.port ≠ 3) ∧ (∀ q ∈ s9.sweeps.queue, q.port ≠ 3) ∧
      s9.sweeps.sweep = none ∧ s9.sweeps.acquisition = none ∧ s9.sweeps.queue = [] :=
  by decide +kernel
theorem clause12_met :
    50 < 65536 ∧ 500 < 65536 ∧ 0 < 256 ∧ 16 < 65536 ∧ Serves s10 34 51 (num1 3) ∧
      (∃ q ∈ s10.sweeps.queue, q.port = 3) :=
  by decide +kernel
theorem clause13_met :
    50 < 65536 ∧ 500 < 65536 ∧ 0 < 256 ∧ 16 < 65536 ∧ Serves s11 34 51 (num1 3) ∧
      (∀ q ∈ s11.sweeps.queue, q.port ≠ 3) ∧ (∀ (w : Sweep), s11.sweeps.sweep = some w → w.entry.port ≠ 3) :=
  by decide +kernel
theorem clause14_met :
    50 < 65536 ∧ 500 < 65536 ∧ 0 < 256 ∧ 16 < 65536 ∧ Serves s12 34 51 (num1 3) ∧
      (∀ q ∈ s12.sweeps.queue, q.port ≠ 3) ∧ s12.sweeps.sweep = some (Tests.sweepOf (entry 3 1) []) ∧
      (Tests.sweepOf (entry 3 1) []).entry.port = 3 ∧ s12.sweeps.queue = [] ∧ s12.sweeps.results[3].entry = some
      (Tests.sweepOf (entry 3 1) []).entry :=
  by decide +kernel
/-- A request that leaves its deadline out, one whose deadline is 0, commands for port 8, and a cancel with another port's
entry waiting. -/
def s13 : State := ask { base with settings := (sweeping (sweepOf (entry 3 1) []) .none).settings } 0x21 (num1 3 ++ num1 1 ++
  num1 4 ++ num1 2 ++ optNum 1 (some 7) ++ optNum 1 none)
def s14 : State := ask base 0x21 (num1 3 ++ num1 1 ++ num1 4 ++ num1 2 ++ optNum 1 (some 7) ++ optNum 1 (some 0))
def s15 : State := ask base 0x20 (cableBody 8 6000 900 255 [] 1024)
def s16 : State := ask base 0x22 (num1 8)
def s17 : State := ask (queued { sweeping (sweepOf (entry 3 1) []) .suspended with settings := {
  base.settings with cables := Vector.replicate 8 cable } } [entry 4 2, entry 5 3]) 0x22 (num1 3)
theorem clause8_met_2 :
    (10 : Nat) = (none : Option Nat).getD 10 ∧ Serves s13 33 51 (num1 3 ++ num1 1 ++ num1 4 ++ num1 2 ++ optNum 1 (some 7) ++
      optNum 1 none) ∧ s13.settings.cables[3].isSet = true ∧ s13.sweeps.sweep = none ∧ s13.sweeps.acquisition = none ∧
      s13.sweeps.queue = [] :=
  by decide +kernel
theorem clause9_met :
    Serves s14 33 51 (num1 3 ++ num1 1 ++ num1 4 ++ num1 2 ++ optNum 1 ((some 7 : Segment).map (·.val)) ++
      optNum 1 (some 0)) := by decide +kernel
theorem clause10_met : Serves s15 32 51 (cableBody 8 6000 900 255 [] 1024) ∧ 7 < 8 := by decide +kernel
theorem clause11_met : Serves s16 34 51 (num1 8) ∧ 7 < 8 := by decide +kernel
theorem clause14_met_2 :
    Serves s17 34 51 (num1 3) ∧ (∀ q ∈ s17.sweeps.queue, q.port ≠ 3) ∧
      s17.sweeps.sweep = some (sweepOf (entry 3 1) []) ∧ s17.sweeps.results[3].entry = some (entry 3 1) ∧
      s17.sweeps.queue = entry 4 2 :: [entry 5 3] ∧ s17.sweeps.acquisition = none ∧ s17.settings.cables[4].isSet = true :=
  by decide +kernel

end SweepRequestsAreServed

/-! ### SweepStagesFollow -/

namespace SweepStagesFollow

def v1 : Sweep := { sweepOf (entry 3 1) [] with entry := { entry 3 1 with segment := none }, calibrationEndAt := some 5000000 }
def s1 : State := lane (sweeping v1 .calibrating) 3 (fun l =>
    { l with state := .locked, window := some (window .receiving) })
def s2 : State := lane (sweeping v1 .calibrating) 3 (fun l => { l with state := .locked })
def s3 : State := (let s := lane (sweeping (sweepOf (entry 3 1) (List.replicate 2 [])) .acquiring) 3 (fun l => { l with state := .quiet }); { s with sweeps := { s.sweeps with acquisition := some ⟨3, 5000000, true⟩ } })
def s4 : State := (let s := lane (sweeping (sweepOf (entry 3 1) (List.replicate 3 [])) .acquiring) 3 (fun l => { l with state := .quiet }); { s with sweeps := { s.sweeps with acquisition := some ⟨3, 5000000, true⟩ } })
def s5 : State := { sweeping (sweepOf (entry 3 1) (List.replicate 1 [])) .suspended with clock := 6000000 }
def s6 : State := { sweeping (sweepOf (entry 3 1) (List.replicate 0 [])) .suspended with clock := 6000000 }
def s7 : State := ask (sweeping (sweepOf (entry 3 1) []) .suspended) 0x1C (num1 7)

theorem clause1_met :
    s1.sweeps.sweep = some v1 ∧ v1.entry.port = 3 ∧ v1.calibrationEndAt = some 5000000 ∧ 5000000 ≤ s1.clock ∧
      320 ≤ 320 ∧ 320 ≤ 480 ∧ s1.lanes[3].window.isSome = true :=
  by decide +kernel
theorem clause2_met :
    s2.sweeps.sweep = some v1 ∧ v1.entry.port = 3 ∧ v1.calibrationEndAt = some 5000000 ∧ 5000000 ≤ s2.clock ∧
      320 ≤ 480 ∧ 480 ≤ 480 ∧ s2.lanes[3].window = none ∧ s2.seq.state = PlanState.empty ∧ v1.entry.segment = none ∧
      s2.sweeps.acquisition = none ∧ s2.seq.pending = none ∧ s2.lanes[3].state = LaneState.locked :=
  by decide +kernel
theorem clause3_met :
    s2.sweeps.sweep = some v1 ∧ v1.entry.port = 3 ∧ v1.calibrationEndAt = some 5000000 ∧ 5000000 ≤ s2.clock ∧
      480 < 481 ∧ s2.sweeps.queue = [] ∧ s2.sweeps.results[3].entry = some v1.entry :=
  by decide +kernel
theorem clause4_met :
    (List.replicate 16384 (-2048)).length = 16384 ∧ (∀ d ∈ List.replicate 16384 (-2048), -2048 ≤ d ∧ d ≤ 2047) ∧
      s3.sweeps.sweep = some (Tests.sweepOf (entry 3 1) (List.replicate 2 [])) ∧
      (Tests.sweepOf (entry 3 1) (List.replicate 2 [])).entry.port = 3 ∧
      s3.sweeps.acquisition = some { port := 3, endAt := 5000000, live := true } ∧ 5000000 ≤ s3.clock ∧
      s3.sweeps.results[3].state = SweepState.acquiring ∧ s3.lanes[3].state = LaneState.quiet ∧
      (Tests.sweepOf (entry 3 1) (List.replicate 2 [])).samples.length + 1 < (Tests.sweepOf (entry 3 1)
      (List.replicate 2 [])).entry.acquisitions ∧
      (¬(Tests.sweepOf (entry 3 1) (List.replicate 2 [])).entry.acquisitions ≤ (Tests.sweepOf (entry 3 1)
      (List.replicate 2 [])).samples.length + 1) :=
  ⟨List.length_replicate .., fun d hd => by rw [List.eq_of_mem_replicate hd]; decide, by decide +kernel⟩
theorem clause4_met_2 :
    (List.replicate 16384 (-2048)).length = 16384 ∧ (∀ d ∈ List.replicate 16384 (-2048), -2048 ≤ d ∧ d ≤ 2047) ∧
      s4.sweeps.sweep = some (Tests.sweepOf (entry 3 1) (List.replicate 3 [])) ∧
      (Tests.sweepOf (entry 3 1) (List.replicate 3 [])).entry.port = 3 ∧
      s4.sweeps.acquisition = some { port := 3, endAt := 5000000, live := true } ∧ 5000000 ≤ s4.clock ∧
      s4.sweeps.results[3].state = SweepState.acquiring ∧ s4.lanes[3].state = LaneState.quiet ∧
      (¬(Tests.sweepOf (entry 3 1) (List.replicate 3 [])).samples.length + 1 < (Tests.sweepOf (entry 3 1)
      (List.replicate 3 [])).entry.acquisitions) ∧
      (Tests.sweepOf (entry 3 1) (List.replicate 3 [])).entry.acquisitions ≤ (Tests.sweepOf (entry 3 1)
      (List.replicate 3 [])).samples.length + 1 :=
  ⟨List.length_replicate .., fun d hd => by rw [List.eq_of_mem_replicate hd]; decide, by decide +kernel⟩
theorem clause5_met :
    s5.sweeps.sweep = some (Tests.sweepOf (entry 3 1) (List.replicate 1 [])) ∧
      (Tests.sweepOf (entry 3 1) (List.replicate 1 [])).entry.port = 3 ∧
      s5.sweeps.results[3].state = SweepState.suspended ∧ (Tests.sweepOf (entry 3 1) (List.replicate 1
      [])).deadlineAt ≤ s5.clock ∧ (Tests.sweepOf (entry 3 1) (List.replicate 1 [])).entry.acquisitions ≤
      (Tests.sweepOf (entry 3 1) (List.replicate 1 [])).samples.length * 4 :=
  by decide +kernel
theorem clause6_met :
    s6.sweeps.sweep = some (Tests.sweepOf (entry 3 1) (List.replicate 0 [])) ∧
      (Tests.sweepOf (entry 3 1) (List.replicate 0 [])).entry.port = 3 ∧
      s6.sweeps.results[3].state = SweepState.suspended ∧ (Tests.sweepOf (entry 3 1) (List.replicate 0
      [])).deadlineAt ≤ s6.clock ∧ (Tests.sweepOf (entry 3 1) (List.replicate 0 [])).samples.length * 4 <
      (Tests.sweepOf (entry 3 1) (List.replicate 0 [])).entry.acquisitions ∧ s6.sweeps.queue = [] ∧
      s6.sweeps.results[3].entry = some (Tests.sweepOf (entry 3 1) (List.replicate 0 [])).entry :=
  by decide +kernel
theorem clause7_met :
    s7.sweeps.sweep = some (Tests.sweepOf (entry 3 1) []) ∧ (Tests.sweepOf (entry 3 1) []).entry.port = 3 ∧
      Serves s7 28 51 (num1 7) ∧ (Tests.sweepOf (entry 3 1) []).entry.segment = some 7 ∧
      s7.monitor.segment ≠ some 7 ∧ s7.sweeps.results[3].state = SweepState.suspended ∧ s7.lanes[3].window = none ∧
      s7.lanes[3].state = LaneState.down ∧ s7.seq.state = PlanState.empty ∧ s7.seq.pending = none ∧
      s7.sweeps.acquisition = none :=
  by decide +kernel

end SweepStagesFollow

/-! ### ReflectionsAreQualifyingRuns -/

namespace ReflectionsAreQualifyingRuns

def samples : List (List Int) := [[0, 2, -2, 1], [0, 2, -2, 0]]
def up (i : Nat) : Prop := 1 ≤ deviatingUp 2 samples i ∧ deviatingDown 2 samples i < deviatingUp 2 samples i
def down (i : Nat) : Prop := 1 ≤ deviatingDown 2 samples i ∧ deviatingUp 2 samples i < deviatingDown 2 samples i

/-- An index deviates at the threshold and not below it. -/
theorem witness :
    (∀ i, up i ↔ 1 ≤ deviatingUp 2 samples i ∧ deviatingDown 2 samples i < deviatingUp 2 samples i) ∧
      (∀ i, down i ↔ 1 ≤ deviatingDown 2 samples i ∧ deviatingUp 2 samples i < deviatingDown 2 samples i) :=
  ⟨fun _ => Iff.rfl, fun _ => Iff.rfl⟩
theorem found :
    (reflectionsOf 2 1 samples).map (fun r => (r.index, r.polarity, r.mean)) = [(1, .open, 2), (2, .short, -2)] :=
  by decide +kernel

end ReflectionsAreQualifyingRuns

/-! ### AnalysisEndsTheSweep -/

namespace AnalysisEndsTheSweep

def ended (kind : SweepKind) (cable : CableRecord) (samples : List (List Int)) : Sweep :=
  { sweepOf { entry 3 1 with kind := kind } samples with analysisEndAt := some 5000000, cable := cable }
/-- The sweep in ANALYSING, with a calibration of 400. -/
def analysing (w : Sweep) : State :=
  let s := sweeping w .analysing
  { s with sweeps := { s.sweeps with results := upd s.sweeps.results 3 (fun r => { r with calibration := some 400 }) } }
/-- Samples of 340 indices that pass the threshold at some of them, and a cable of 50 cm. -/
def peaks (at_ : List Nat) : List Int := (List.range 340).map (fun i => if i ∈ at_ then 96 else 0)
def short : CableRecord := { cable with length := some 50 }
def faultSweep : Sweep := ended .fault cable (List.replicate 4 [0, 0, 0, -96, 96])
def cleanSweep : Sweep := ended .fault cable (List.replicate 4 [0, 0, 0, 96])
def classedSweep : Sweep := ended .fault short (List.replicate 3 (peaks [28, 70, 90, 330]))
def baselineSweep : Sweep := ended .baseline cable (List.replicate 4 (List.replicate 255 0 ++ [96]))
def farSweep : Sweep := ended .baseline cable (List.replicate 4 (List.replicate 256 0 ++ [96]))
def couplersSweep : Sweep := ended .baseline short (List.replicate 4 (peaks [5, 10, 15, 20, 25, 30, 100, 335]))
def partialSweep : Sweep := ended .baseline cable (List.replicate 3 [95])
def kept (w : Sweep) : List Reflection :=
  (reflectionsOf w.cable.threshold (requiredCount w.samples.length w.entry.quorum) w.samples).filter
    (fun r => w.entry.kind ≠ .fault || w.cable.launch.getD 0 < r.index)
abbrev Ends (w : Sweep) : Prop :=
  (analysing w).sweeps.sweep = some w ∧ w.entry.port = 3 ∧ w.analysisEndAt = some 5000000 ∧
    5000000 ≤ (analysing w).clock ∧ (analysing w).sweeps.queue = [] ∧
    (analysing w).sweeps.results[3].entry = some w.entry
/-- What the result tells in the state after. -/
def result (w : Sweep) : SweepResult := (after (exec .analysisEnd (analysing w))).sweeps.results[3]

theorem done (w : Sweep) (h : w.entry.acquisitions ≤ w.samples.length) :
    (w.entry.acquisitions ≤ w.samples.length → SweepState.done = .done) ∧
    (w.samples.length < w.entry.acquisitions → SweepState.done = .partly) := ⟨fun _ => rfl, fun h' => by omega⟩

/-- A FAULT sweep, with one reflection at the launch and one an index beyond it. -/
theorem witness_fault :
    Ends faultSweep ∧ (kept faultSweep).map (fun r => (r.index, r.mean)) = [(4, 96)] ∧ faultSweep.entry.kind = .fault ∧
      faultSweep.entry.acquisitions ≤ faultSweep.samples.length ∧
      ((result faultSweep).reflections.filter (fun r => r.cls = some .fault)).map (·.index) = [4] :=
  by decide +kernel
/-- A FAULT sweep with a reflection at the launch alone. -/
theorem witness_clean :
    Ends cleanSweep ∧ kept cleanSweep = [] ∧ cleanSweep.entry.kind = .fault ∧
      (∀ r ∈ (result cleanSweep).reflections, r.cls ≠ some .fault) :=
  by decide +kernel
/-- A PARTIAL one with a reflection of each class: within 8 indices of a coupler, short of the end, at it, beyond it. -/
theorem witness_classes :
    Ends classedSweep ∧ classedSweep.entry.kind = .fault ∧
      classedSweep.samples.length < classedSweep.entry.acquisitions ∧
      (result classedSweep).reflections.map (fun r => r.cls) =
        [some .coupler, some .fault, some .farEnd, some .beyond] :=
  by decide +kernel
/-- A BASELINE sweep whose first reflection stands at the last index of the launch. -/
theorem witness_baseline :
    Ends baselineSweep ∧ (kept baselineSweep).map (fun r => (r.index, r.mean)) = [(255, 96)] ∧
      baselineSweep.entry.kind = .baseline ∧ baselineSweep.entry.acquisitions ≤ baselineSweep.samples.length ∧
      (analysing baselineSweep).settings.cables[3].isSet = true :=
  by decide +kernel
/-- A result that held a location holds none when a BASELINE sweep ends (R170). -/
theorem test_r170_baseline_location :
    (after (exec .analysisEnd { analysing baselineSweep with sweeps := { (analysing baselineSweep).sweeps with
      results := upd (analysing baselineSweep).sweeps.results 3 (fun r => { r with
        location := some (12, none) }) } })).sweeps.results[3].location = none := by decide +kernel
/-- One with four couplers, one more, the end and a reflection beyond it. -/
theorem witness_couplers :
    Ends couplersSweep ∧ couplersSweep.entry.kind = .baseline ∧ (result couplersSweep).reflections.map (fun r => r.cls) =
      [some .launch, some .coupler, some .coupler, some .coupler, some .coupler, some .extra, some .farEnd,
        some .beyond] :=
  by decide +kernel
/-- A BASELINE sweep whose first reflection stands one index beyond the launch. -/
theorem witness_far :
    Ends farSweep ∧ (kept farSweep).map (fun r => (r.index, r.mean)) = [(256, 96)] ∧ farSweep.entry.kind = .baseline ∧
      255 < 256 :=
  by decide +kernel
/-- A BASELINE sweep that ends with fewer acquisitions than it asked for, and nothing found. -/
theorem witness_partial :
    Ends partialSweep ∧ kept partialSweep = [] ∧ partialSweep.entry.kind = .baseline ∧
      partialSweep.samples.length < partialSweep.entry.acquisitions :=
  by decide +kernel

end AnalysisEndsTheSweep

/-! ### MemoryStaysCanonical -/

namespace MemoryStaysCanonical

def s1 : State := { receiving 10 with
  pending := [.line 3 2 (pixels10.map pixelBytes).flatten (crc32 (pixels10.map pixelBytes).flatten)] }

theorem witness :
    (∃ t, step s1 = .next t) ∧ MemoryCanonical s1 ∧ s1.dram ≠ [] :=
  ⟨next_of (by decide +kernel), by decide +kernel⟩

end MemoryStaysCanonical

/-! ### StoreBooksBalance -/

namespace StoreBooksBalance

def s1 : State := { ask (stored .held [record 12 0, record 13 47]) 0x12 (num4 12) with pending := [.frameRelease] }

theorem witness : StoreSound s1 ∧ (∃ t, step s1 = .next t) := ⟨by decide +kernel, next_of (by decide +kernel)⟩

end StoreBooksBalance

/-! ### EvidenceBooksBalance -/

namespace EvidenceBooksBalance

def s1 : State :=
  let s := table (full ++ [broken 3 2 .powerOpen .cleared, broken 4 2 .powerOpen .suspect]) 99
  { s with
    table := { s.table with records := s.table.records.drop 2 }
    monitor := { s.monitor with ports := upd s.monitor.ports 3 (fun m => { m with errors := 2, bins := m.bins.set 16 2 }) }
    pending := [.evidenceWindowClose] }

theorem witness :
    (∃ t, step s1 = .next t) ∧ Bins s1 ∧ TableBound s1 ∧ s1.table.records.length = 32 ∧ RecordsApart s1 :=
  ⟨next_of (by decide +kernel), by decide +kernel⟩

end EvidenceBooksBalance

/-! ### QueuesStayBounded -/

namespace QueuesStayBounded

def s1 : State :=
  let s := sweeping (sweepOf (entry 3 1) []) .acquiring
  { queued s [entry 7 2, entry 4 3] with
    link := { s.link with notices := List.replicate 32 ⟨none, 3, .overdraw 900 600⟩, lost := 255, replies := List.replicate 8 ⟨true, 0, 0, .busy, []⟩ }
    uplink := { s.uplink with up := true, credits := 4096, regions := List.replicate 4 ⟨5, 12, .linear, 0, some 1, 3⟩ }
    lanes := upd s.lanes 3 (fun l => { l with state := .quiet })
    sweeps := { s.sweeps with queue := [entry 7 2, entry 4 3], acquisition := some ⟨3, 5000001, true⟩ }
    pending := [.grant 0xFFFF] }

theorem witness :
    AcquisitionsAreQuiet s1 ∧ (∃ t, step s1 = .next t) ∧ LinkBounds s1 ∧ RegionBound s1 ∧ Credits s1 ∧
      SweepPorts s1 :=
  ⟨⟨of_some rfl (by decide +kernel), by decide +kernel⟩, next_of (by decide +kernel), by decide +kernel⟩

end QueuesStayBounded

/-! ### PowerStaysSound -/

namespace PowerStaysSound

/-- Port 3 in its lens move, port 4 waiting for its claim, port 5 LOCKED. -/
def s1 : State :=
  let s := claims (power (power lensIdle 4 (fun w => { w with state := .waiting })) 5 (fun w =>
    { w with state := .locked, tripCount := 5 })) [⟨4, .power, 600, 1, 4⟩]
  { s with pending := [.hardLimitTrip 3 4500] }

theorem witness : PowerSound s1 ∧ (∃ t, step s1 = .next t) := ⟨by decide +kernel, next_of (by decide +kernel)⟩

end PowerStaysSound

/-! ### CommittedNeverExceedsCapacity -/

namespace CommittedNeverExceedsCapacity

/-- The committed sum at the capacity, with a claim waiting. -/
def s1 : State :=
  let s := claims (capacity 600 (power lensIdle 4 (fun w => { w with state := .waiting }))) [⟨4, .power, 600, 1, 4⟩]
  { s with pending := [.hardLimitTrip 3 4500] }

theorem witness :
    (∃ t, step s1 = .next t) ∧ PowerSound s1 ∧ ClaimNeeds s1 ∧ Budget s1 ∧ s1.committed = s1.settings.capacity :=
  ⟨next_of (by decide +kernel), by decide +kernel⟩

end CommittedNeverExceedsCapacity

end Sys2Proof.Tests
end

section
/-!
PROOFS. What an operation leaves unchanged, said once for each: `Changes F s t` tells that of the parts of the state only
those in `F` differ between `s` and `t`, and that the link differs by posted notices alone.
-/

namespace Sys2Proof.Power

open Sys2Proof.Machine Sys2Proof.Safety

/-! ## Notices posted -/

/-- A link that differs by the posting of some notices: those that found room joined the queue (R176). -/
structure Posted (posted : List Notice) (l m : Link) : Prop where
  notices : m.notices = l.notices ++ posted.take (32 - l.notices.length)
  framer : m.framer = l.framer
  requests : m.requests = l.requests
  answered : m.answered = l.answered
  replies : m.replies = l.replies
  sending : m.sending = l.sending
  served : m.counts.served = l.counts.served

theorem Posted.refl (l : Link) : Posted [] l l := ⟨by simp, rfl, rfl, rfl, rfl, rfl, rfl⟩

theorem Posted.trans {a b : List Notice} {l m n : Link} (h : Posted a l m) (g : Posted b m n) :
    Posted (a ++ b) l n := by
  refine ⟨?_, g.framer.trans h.framer, g.requests.trans h.requests, g.answered.trans h.answered,
    g.replies.trans h.replies, g.sending.trans h.sending, g.served.trans h.served⟩
  have room : 32 - m.notices.length = 32 - l.notices.length - a.length := by
    rw [h.notices, List.length_append, List.length_take]
    omega
  rw [g.notices, room, h.notices, List.take_append, List.append_assoc]

/-- A posted notice joins the queue where there is room. -/
theorem post_posted (s : State) (port : Option Port) (body : NoticeBody) :
    Posted [⟨port, s.clock, body⟩] s.link (s.post port body).link := by
  unfold State.post
  split
  · next room =>
    refine ⟨?_, rfl, rfl, rfl, rfl, rfl, rfl⟩
    rw [List.take_of_length_le (by simp only [List.length_singleton]; omega)]
  · next full =>
    refine ⟨?_, rfl, rfl, rfl, rfl, rfl, rfl⟩
    rw [show 32 - s.link.notices.length = 0 by omega, List.take_zero, List.append_nil]

/-! ## The parts of the state -/

/-- The parts in which two states may differ. `profiles` is the part of the settings, `plan` that of the sequencer, and
`laneStates` that of the lanes, that the budget and the power invariants read. -/
inductive Part where
  | settings | profiles | power | supply | lanes | laneStates | seq | plan | store | dram | uplink | lenses | monitor
  | table | sweeps | freeCount
deriving DecidableEq

/-- Of the parts of the state only those in `F` differ; notices may have been posted at this moment. -/
structure Changes (F : List Part) (s t : State) : Prop where
  clock : t.clock = s.clock
  pending : t.pending = s.pending
  profile : t.profile = s.profile
  link : ∃ posted, (∀ n ∈ posted, n.time = s.clock) ∧ Posted posted s.link t.link
  settings : .settings ∉ F → t.settings = s.settings
  profiles : .profiles ∉ F → t.settings.ports = s.settings.ports ∧ t.settings.capacity = s.settings.capacity
  power : .power ∉ F → t.power = s.power
  supply : .supply ∉ F → t.supply = s.supply
  lanes : .lanes ∉ F → t.lanes = s.lanes
  laneStates : .laneStates ∉ F → ∀ q : Port, t.lanes[q].state = s.lanes[q].state
  seq : .seq ∉ F → t.seq = s.seq
  plan : .plan ∉ F → t.seq.plan = s.seq.plan ∧ t.seq.state = s.seq.state
  store : .store ∉ F → t.store = s.store
  dram : .dram ∉ F → t.dram = s.dram
  uplink : .uplink ∉ F → t.uplink = s.uplink
  lenses : .lenses ∉ F → t.lenses = s.lenses
  monitor : .monitor ∉ F → t.monitor = s.monitor
  table : .table ∉ F → t.table = s.table
  sweeps : .sweeps ∉ F → t.sweeps = s.sweeps
  freeCount : .freeCount ∉ F → t.freeCount = s.freeCount

theorem Changes.mono {F G : List Part} {s t : State} (h : Changes F s t) (sub : ∀ x ∈ F, x ∈ G) : Changes G s t where
  clock := h.clock
  pending := h.pending
  profile := h.profile
  link := h.link
  settings k := h.settings (fun m => k (sub _ m))
  profiles k := h.profiles (fun m => k (sub _ m))
  power k := h.power (fun m => k (sub _ m))
  supply k := h.supply (fun m => k (sub _ m))
  lanes k := h.lanes (fun m => k (sub _ m))
  laneStates k := h.laneStates (fun m => k (sub _ m))
  seq k := h.seq (fun m => k (sub _ m))
  plan k := h.plan (fun m => k (sub _ m))
  store k := h.store (fun m => k (sub _ m))
  dram k := h.dram (fun m => k (sub _ m))
  uplink k := h.uplink (fun m => k (sub _ m))
  lenses k := h.lenses (fun m => k (sub _ m))
  monitor k := h.monitor (fun m => k (sub _ m))
  table k := h.table (fun m => k (sub _ m))
  sweeps k := h.sweeps (fun m => k (sub _ m))
  freeCount k := h.freeCount (fun m => k (sub _ m))

/-- Two changes of the same parts, one after the other. -/
theorem Changes.step {F : List Part} {s t u : State} (h : Changes F s t) (g : Changes F t u) : Changes F s u where
  clock := g.clock.trans h.clock
  pending := g.pending.trans h.pending
  profile := g.profile.trans h.profile
  link := by
    obtain ⟨a, ha, la⟩ := h.link
    obtain ⟨b, hb, lb⟩ := g.link
    refine ⟨a ++ b, fun n hn => ?_, la.trans lb⟩
    cases List.mem_append.mp hn with
    | inl m => exact ha n m
    | inr m => exact (hb n m).trans h.clock
  settings k := (g.settings k).trans (h.settings k)
  profiles k := ⟨(g.profiles k).1.trans (h.profiles k).1, (g.profiles k).2.trans (h.profiles k).2⟩
  power k := (g.power k).trans (h.power k)
  supply k := (g.supply k).trans (h.supply k)
  lanes k := (g.lanes k).trans (h.lanes k)
  laneStates k q := (g.laneStates k q).trans (h.laneStates k q)
  seq k := (g.seq k).trans (h.seq k)
  plan k := ⟨(g.plan k).1.trans (h.plan k).1, (g.plan k).2.trans (h.plan k).2⟩
  store k := (g.store k).trans (h.store k)
  dram k := (g.dram k).trans (h.dram k)
  uplink k := (g.uplink k).trans (h.uplink k)
  lenses k := (g.lenses k).trans (h.lenses k)
  monitor k := (g.monitor k).trans (h.monitor k)
  table k := (g.table k).trans (h.table k)
  sweeps k := (g.sweeps k).trans (h.sweeps k)
  freeCount k := (g.freeCount k).trans (h.freeCount k)

/-- One change after another: the parts of both may differ. -/
theorem Changes.trans {F G : List Part} {s t u : State} (h : Changes F s t) (g : Changes G t u) :
    Changes (F ++ G) s u :=
  (h.mono (fun _ m => List.mem_append_left G m)).step (g.mono (fun _ m => List.mem_append_right F m))

/-- A state that differs by its parts alone, with the link as it was. -/
theorem Changes.refl (s : State) : Changes [] s s :=
  ⟨rfl, rfl, rfl, ⟨[], by simp, .refl _⟩, fun _ => rfl, fun _ => ⟨rfl, rfl⟩, fun _ => rfl, fun _ => rfl, fun _ => rfl,
    fun _ _ => rfl, fun _ => rfl, fun _ => ⟨rfl, rfl⟩, fun _ => rfl, fun _ => rfl, fun _ => rfl, fun _ => rfl,
    fun _ => rfl, fun _ => rfl, fun _ => rfl, fun _ => rfl⟩

/-- A change by a test. -/
theorem Changes.ite {F : List Part} {s a b : State} {c : Prop} [Decidable c] (h : c → Changes F s a)
    (g : ¬ c → Changes F s b) : Changes F s (if c then a else b) := by
  split
  · exact h ‹_›
  · exact g ‹_›

end Sys2Proof.Power
end

section
/-! PROOFS. -/

namespace Sys2Proof.Power

open Sys2Proof.Machine Sys2Proof.Safety

/-! ## The named updates -/

theorem setPower_changes (s : State) (p : Port) (f : PortPower → PortPower) : Changes [.power] s (s.setPower p f) := by
  constructor
  case link => exact ⟨[], by simp, .refl _⟩
  all_goals simp

theorem setLane_changes (s : State) (p : Port) (f : Lane → Lane) :
    Changes [.lanes, .laneStates] s (s.setLane p f) := by
  constructor
  case link => exact ⟨[], by simp, .refl _⟩
  all_goals simp

/-- A change of a lane that keeps its state. -/
theorem setLane_keeps_state (s : State) (p : Port) (f : Lane → Lane) (h : (f s.lanes[p]).state = s.lanes[p].state) :
    Changes [.lanes] s (s.setLane p f) := by
  constructor
  case link => exact ⟨[], by simp, .refl _⟩
  case laneStates =>
    intro _ q
    rw [State.setLane_lanes, upd_get]
    split
    · next e => rw [h, e]
    · rfl
  all_goals simp

theorem setLens_changes (s : State) (p : Port) (f : Lens → Lens) : Changes [.lenses] s (s.setLens p f) := by
  constructor
  case link => exact ⟨[], by simp, .refl _⟩
  all_goals simp

theorem setEvidence_changes (s : State) (p : Port) (f : Evidence → Evidence) :
    Changes [.monitor] s (s.setEvidence p f) := by
  constructor
  case link => exact ⟨[], by simp, .refl _⟩
  all_goals simp

theorem sweeps_changes (s : State) (e : SweepEngine) : Changes [.sweeps] s { s with sweeps := e } := by
  constructor
  case link => exact ⟨[], by simp, .refl _⟩
  all_goals simp

theorem setResult_changes (s : State) (p : Port) (f : SweepResult → SweepResult) :
    Changes [.sweeps] s (s.setResult p f) := sweeps_changes _ _

theorem setSweep_changes (s : State) (f : Sweep → Sweep) : Changes [.sweeps] s (s.setSweep f) := sweeps_changes _ _

theorem setStore_changes (s : State) (f : Store → Store) : Changes [.store] s (s.setStore f) := by
  constructor
  case link => exact ⟨[], by simp, .refl _⟩
  all_goals simp

theorem setUplink_changes (s : State) (f : Uplink → Uplink) : Changes [.uplink] s (s.setUplink f) := by
  constructor
  case link => exact ⟨[], by simp, .refl _⟩
  all_goals simp

theorem dram_changes (s : State) (m : List Host.Cell) : Changes [.dram] s { s with dram := m } := by
  constructor
  case link => exact ⟨[], by simp, .refl _⟩
  all_goals simp

theorem table_changes (s : State) (t : BreakTable) : Changes [.table] s { s with table := t } := by
  constructor
  case link => exact ⟨[], by simp, .refl _⟩
  all_goals simp

theorem setSeq_changes (s : State) (f : Sequencer → Sequencer) : Changes [.seq, .plan] s (s.setSeq f) := by
  constructor
  case link => exact ⟨[], by simp, .refl _⟩
  all_goals simp

/-- A change of the sequencer that keeps its plan and plan state. -/
theorem seq_keeps_plan (s : State) (q : Sequencer) (h : q.plan = s.seq.plan ∧ q.state = s.seq.state) :
    Changes [.seq] s { s with seq := q } := by
  constructor
  case link => exact ⟨[], by simp, .refl _⟩
  case plan => exact fun _ => h
  all_goals simp

theorem supply_changes (s : State) (u : Supply) : Changes [.supply] s { s with supply := u } := by
  constructor
  case link => exact ⟨[], by simp, .refl _⟩
  all_goals simp

/-- A change of the current cycle. -/
theorem current_changes (s : State) (c : Option Cycle) : Changes [.seq] s { s with seq := { s.seq with current := c } } :=
  seq_keeps_plan _ _ ⟨rfl, rfl⟩

theorem usedFree_changes (s : State) : Changes [.freeCount] s s.usedFree := by
  constructor
  case link => exact ⟨[], by simp, .refl _⟩
  all_goals simp

/-- Settings changed, but for the port profiles and the capacity. -/
theorem settings_keep_profiles (s : State) (x : Settings)
    (h : x.ports = s.settings.ports ∧ x.capacity = s.settings.capacity) :
    Changes [.settings] s { s with settings := x } := by
  constructor
  case link => exact ⟨[], by simp, .refl _⟩
  case profiles => exact fun _ => h
  all_goals simp

/-! ## Notices -/

theorem post_changes (s : State) (port : Option Port) (body : NoticeBody) : Changes [] s (s.post port body) := by
  constructor
  case link => exact ⟨_, by simp, post_posted s port body⟩
  all_goals simp

theorem portStateNotice_changes (s : State) (p : Port) (prev : PowerState) :
    Changes [] s (s.portStateNotice p prev) := post_changes _ _ _

theorem attachNotice_changes (s : State) (p : Port) (event : PortEvent) : Changes [] s (s.attachNotice p event) :=
  post_changes _ _ _

theorem laneNotice_changes (s : State) (p : Port) (prev : LaneState) (cause : LaneCause) :
    Changes [] s (s.laneNotice p prev cause) := post_changes _ _ _

theorem lensNotice_changes (s : State) (p : Port) (event : LensEvent) (move : Option Move) (fault : Option LensFault) :
    Changes [] s (s.lensNotice p event move fault) := post_changes _ _ _

theorem planNotice_changes (s : State) (prev : PlanState) (cause : PlanCause) :
    Changes [] s (s.planNotice prev cause) := post_changes _ _ _

/-! ## Lists of ports and places -/

/-- What holds of one port's part holds of the whole list's. -/
theorem forPorts_changes {F : List Part} {f : Port → State → State} (h : ∀ p s, Changes F s (f p s)) :
    ∀ (ps : List Port) (s : State), Changes F s (State.forPorts f ps s)
  | [], s => (Changes.refl s).mono (by simp)
  | p :: ps, s => (h p s).step (forPorts_changes h ps (f p s))

theorem forPlaces_changes {F : List Part} {f : Nat → State → State} (h : ∀ i s, Changes F s (f i s)) :
    ∀ (is : List Nat) (s : State), Changes F s (State.forPlaces f is s)
  | [], s => (Changes.refl s).mono (by simp)
  | i :: is, s => (h i s).step (forPlaces_changes h is (f i s))

/-! ## The uplink and the frame store -/

theorem creditWait_changes (s : State) : Changes [.uplink] s s.creditWait := by
  unfold State.creditWait
  split
  · exact (Changes.refl s).mono (by simp)
  · exact setUplink_changes _ _

theorem beginPacket_changes (s : State) : Changes [.uplink] s s.beginPacket := by
  have none_changes : Changes [.uplink] s s := (Changes.refl s).mono (by simp)
  unfold State.beginPacket
  split
  · exact none_changes
  split
  · split
    · exact creditWait_changes s
    · exact setUplink_changes _ _
  split
  · exact none_changes
  split
  · exact none_changes
  split
  · exact creditWait_changes s
  · exact setUplink_changes _ _

theorem sendChoice_changes (s : State) : Changes [.store, .uplink] s s.sendChoice := by
  have none_changes : Changes [.store, .uplink] s s := (Changes.refl s).mono (by simp)
  unfold State.sendChoice
  split
  · exact none_changes
  split
  · exact ((setUplink_changes _ _).trans (beginPacket_changes _)).mono (by decide)
  split
  · exact none_changes
  split
  · exact none_changes
  · exact (((setStore_changes _ _).trans (setUplink_changes _ _)).trans (beginPacket_changes _)).mono (by decide)

theorem uplinkNext_changes (s : State) : Changes [.store, .uplink] s s.uplinkNext := by
  unfold State.uplinkNext
  split
  · exact (beginPacket_changes s).mono (by decide)
  · exact sendChoice_changes s

theorem joinOutput_changes (id : Nat) (s : State) : Changes [.store, .uplink] s (s.joinOutput id) :=
  ((setStore_changes _ _).trans (sendChoice_changes _)).mono (by decide)

theorem sendUncombined_changes : ∀ (ids : List Nat) (s : State),
    Changes [.store, .uplink] s (State.sendUncombined ids s)
  | [], s => (Changes.refl s).mono (by simp)
  | id :: ids, s =>
    (((setStore_changes _ _).trans (joinOutput_changes id _)).mono (by decide)).step (sendUncombined_changes ids _)

theorem abandon_changes (s : State) (g : Group) : Changes [.store, .uplink] s (s.abandon g) :=
  ((setStore_changes _ _).trans (sendUncombined_changes _ _)).mono (by decide)

theorem groupFor_changes (s : State) (slot : Fin 4) (p : Port) (cycle : Nat) :
    Changes [.store, .uplink] s (s.groupFor slot p cycle).1 := by
  have none_changes : Changes [.store, .uplink] s s := (Changes.refl s).mono (by simp)
  unfold State.groupFor
  simp only
  cases s.store.group? slot p with
  | none => exact none_changes
  | some g =>
    simp only
    split
    · exact none_changes
    · exact Changes.ite (fun _ => (setStore_changes _ _).mono (by decide))
        (fun _ => ((setStore_changes _ _).trans (abandon_changes _ _)).mono (by decide))

theorem reportLoss_changes (s : State) (slot : Fin 4) (p : Port) (cycle position : Nat) (member : Option Nat) :
    Changes [.store, .uplink] s (s.reportLoss slot p cycle position member) := by
  have found := groupFor_changes s slot p cycle
  unfold State.reportLoss
  extract_lets r g out
  have told : Changes [.store, .uplink] s out :=
    Changes.ite (fun _ => found.step (sendUncombined_changes _ _)) (fun _ => found.step (abandon_changes _ _))
  exact (told.trans (setStore_changes _ _)).mono (by decide)

theorem reportAbsence_changes (s : State) (slot : Fin 4) (p : Port) (cycle position : Nat) :
    Changes [.store, .uplink] s (s.reportAbsence slot p cycle position) := by
  unfold State.reportAbsence
  split
  · exact reportLoss_changes _ _ _ _ _ _
  · exact (Changes.refl s).mono (by simp)

theorem takeCombine_changes (s : State) : Changes [.store] s s.takeCombine := by
  unfold State.takeCombine
  split
  · exact setStore_changes _ _
  · exact (Changes.refl s).mono (by simp)

theorem joinCombine_changes (s : State) (g : Group) : Changes [.store, .uplink] s (s.joinCombine g) := by
  unfold State.joinCombine
  split
  · exact ((setStore_changes _ _).trans (takeCombine_changes _)).mono (by decide)
  · exact ((setStore_changes _ _).trans (abandon_changes _ _)).mono (by decide)

theorem joinGroup_changes (s : State) (f : FrameRecord) : Changes [.store, .uplink] s (s.joinGroup f) := by
  unfold State.joinGroup
  have found := groupFor_changes s f.slot f.port f.cycle
  simp only
  split
  · have sent := found.step (sendUncombined_changes [f.id] _)
    split
    · exact (sent.trans (setStore_changes _ _)).mono (by decide)
    · exact sent
  · have grouped := found.step ((setStore_changes _ (·.move f.id .grouped)).mono (by decide))
    split
    · split
      · exact ((grouped.trans (setStore_changes _ _)).trans (joinCombine_changes _ _)).mono (by decide)
      · exact ((grouped.trans (setStore_changes _ _)).trans (abandon_changes _ _)).mono (by decide)
    · exact (grouped.trans (setStore_changes _ _)).mono (by decide)

theorem completeCombine_changes (s : State) (c : Combine) : Changes [.store, .uplink, .dram] s (s.completeCombine c) := by
  unfold State.completeCombine
  simp only
  split
  · exact ((setStore_changes _ _).trans (takeCombine_changes _)).mono (by decide)
  · exact (((((dram_changes _ _).trans (setStore_changes _ _)).trans (joinOutput_changes _ _)).trans
      (setStore_changes _ _)).trans (takeCombine_changes _)).mono (by decide)

theorem endGroups_changes : ∀ (gs : List (Fin 4 × Port)) (s : State),
    Changes [.store, .uplink] s (State.endGroups gs s)
  | [], s => (Changes.refl s).mono (by simp)
  | (k, p) :: rest, s => by
    unfold State.endGroups
    cases s.store.group? k p with
    | none => exact endGroups_changes rest s
    | some g =>
      have left := fun t => (setStore_changes s t).mono (G := [.store, .uplink]) (by decide)
      exact (Changes.ite (fun _ => left _) (fun _ => (left _).step (abandon_changes _ _))).step (endGroups_changes rest _)

theorem storePlanEnded_changes (s : State) : Changes [.store, .uplink] s s.storePlanEnded :=
  ((endGroups_changes _ _).trans (setStore_changes _ _)).mono (by decide)

theorem dropFrame_changes (s : State) (q : OpenRequest) : Changes [.store, .uplink] s (s.dropFrame q) := by
  have dropped : Changes [.store, .uplink] s (s.setStore (fun t => { t with drops := upd t.drops q.port sat32 })) :=
    (setStore_changes _ _).mono (by decide)
  have told := fun f => ((dropped.trans (setStore_changes _ f)).trans (post_changes _ (some q.port) (.frameDropped q.slot
    q.cycle q.position (s.seq.signAt q.slot q.position).signed (upd s.store.drops q.port sat32)[q.port]))).mono
    (G := [.store, .uplink]) (by decide)
  exact (Changes.ite (fun _ => dropped) (fun _ => told _)).step (reportAbsence_changes _ _ _ _ _)

theorem handOver_changes (s : State) (id : Nat) : Changes [.store, .uplink] s (s.handOver id) := by
  have set := fun f => (setStore_changes s (·.setFrame id (fun _ => f))).mono (G := [.store, .uplink]) (by decide)
  unfold State.handOver
  split
  · exact (Changes.refl s).mono (by simp)
  · extract_lets _ f t
    split
    · split
      · split
        · exact (set f).step (reportLoss_changes _ _ _ _ _ _)
        · exact (set f).step (joinGroup_changes _ _)
      · exact (set f).step (sendUncombined_changes _ _)
    · exact (set f).step (joinOutput_changes _ _)

theorem endItem_changes (s : State) (i : Item) : Changes [.store, .uplink] s (s.endItem i) := by
  unfold State.endItem
  simp only
  split
  · exact (((setUplink_changes _ _).trans (setUplink_changes _ _)).trans (setStore_changes _ _)).mono (by decide)
  · exact ((setUplink_changes _ _).trans (setUplink_changes _ _)).mono (by decide)

theorem packetEnded_changes (s : State) (p : Packet) : Changes [.store, .uplink] s (s.packetEnded p) := by
  have ended : Changes [.store, .uplink] s (s.setUplink (fun u => { u with packet := none })) :=
    (setUplink_changes _ _).mono (by decide)
  unfold State.packetEnded
  simp only
  split
  · exact ended
  · exact ended
  · exact (ended.trans (setUplink_changes _ _)).mono (by decide)
  · split
    · exact ended
    · exact ended.step (endItem_changes _ _)
  · exact ((ended.trans (setUplink_changes _ _)).trans (setUplink_changes _ _)).mono (by decide)

theorem linkUp_changes (s : State) (grant : Nat) : Changes [.uplink] s (s.linkUp grant) :=
  ((setUplink_changes _ _).trans (post_changes _ _ _)).mono (by decide)

theorem stopFrame_changes (s : State) : Changes [.store] s s.stopFrame := by
  unfold State.stopFrame
  split
  · exact setStore_changes _ _
  · exact (Changes.refl s).mono (by simp)

theorem linkDown_changes (s : State) (cause : UplinkCause) : Changes [.store, .uplink] s (s.linkDown cause) :=
  (((stopFrame_changes s).trans (setUplink_changes _ _)).trans (post_changes _ _ _)).mono (by decide)

/-! ## The break table and the evidence -/

theorem setBreak_changes (s : State) (i : Nat) (f : BreakRecord → BreakRecord) : Changes [.table] s (s.setBreak i f) :=
  table_changes _ _

theorem createBreak_changes (s : State) (r : BreakRecord) : Changes [.table] s (s.createBreak r).1 := by
  unfold State.createBreak
  split <;> exact ((table_changes _ _).trans (post_changes _ _ _)).mono (by decide)

theorem breakEvent_changes (s : State) (i : Nat) (event : BreakEvent) (f : BreakRecord → BreakRecord) :
    Changes [.table] s (s.breakEvent i event f) := by
  unfold State.breakEvent
  split
  · exact (Changes.refl s).mono (by simp)
  · exact ((setBreak_changes _ _ _).trans (post_changes _ _ _)).mono (by decide)

theorem confirmBreak_changes (s : State) (i : Nat) : Changes [.table] s (s.confirmBreak i) := by
  unfold State.confirmBreak
  split
  · exact (Changes.refl s).mono (by simp)
  split
  · exact breakEvent_changes _ _ _ _
  · exact (Changes.refl s).mono (by simp)

theorem submitEvidence_changes (s : State) (p : Port) (k : BreakKind) (st : BreakState) :
    Changes [.table] s (s.submitEvidence p k st).1 := by
  unfold State.submitEvidence
  split
  · simp only
    split
    · exact (setBreak_changes _ _ _).step (confirmBreak_changes _ _)
    · exact setBreak_changes _ _ _
  · exact createBreak_changes _ _

theorem submitReflection_changes (s : State) (p : Port) (location : Nat) (polarity : Polarity) (st : BreakState)
    (sweep : Nat) (segment : Segment) :
    Changes [.table] s (s.submitReflection p location polarity st sweep segment).1 := by
  unfold State.submitReflection
  split
  · simp only
    split
    · exact (setBreak_changes _ _ _).step (confirmBreak_changes _ _)
    · exact setBreak_changes _ _ _
  · exact createBreak_changes _ _

theorem locateAt_changes (p : Port) (id i : Nat) (s : State) : Changes [.table] s (State.locateAt p id i s) := by
  have none_changes : Changes [.table] s s := (Changes.refl s).mono (by simp)
  unfold State.locateAt
  split
  · exact none_changes
  split
  · split
    · exact breakEvent_changes _ _ _ _
    · split
      · exact none_changes
      · exact breakEvent_changes _ _ _ _
    · exact none_changes
  · exact none_changes

theorem locate_changes (s : State) (p : Port) (id : Nat) : Changes [.table] s (s.locate p id) := by
  unfold State.locate
  split
  · exact forPlaces_changes (locateAt_changes p id) _ _
  · exact (Changes.refl s).mono (by simp)

theorem clearBreak_changes (i : Nat) (s : State) : Changes [.table] s (State.clearBreak i s) := by
  unfold State.clearBreak
  split
  · exact (Changes.refl s).mono (by simp)
  split
  · exact (Changes.refl s).mono (by simp)
  · exact breakEvent_changes _ _ _ _

theorem powerShort_changes (s : State) (p : Port) (st : BreakState) : Changes [.table] s (s.powerShort p st) :=
  submitEvidence_changes _ _ _ _

theorem lensSilent_changes (s : State) (p : Port) : Changes [.table] s (s.lensSilent p) :=
  submitEvidence_changes _ _ _ _

theorem tripEvidence_changes (s : State) (p : Port) (count : Nat) : Changes [.table] s (s.tripEvidence p count) := by
  unfold State.tripEvidence
  split
  · exact powerShort_changes _ _ _
  split
  · exact powerShort_changes _ _ _
  · exact (Changes.refl s).mono (by simp)

/-! ## The sweep engine -/

theorem sweepDone_changes (s : State) (p : Port) : Changes [] s (s.sweepDone p) := by
  unfold State.sweepDone
  simp only
  split
  · exact .refl s
  · exact post_changes _ _ _

theorem takeEntries_changes : ∀ (es : List SweepEntry) (s : State), Changes [.sweeps] s (State.takeEntries es s)
  | [], s => sweeps_changes _ _
  | e :: rest, s => by
    unfold State.takeEntries
    split
    · exact (sweeps_changes _ _).step (setResult_changes _ _ _)
    · exact ((((sweeps_changes _ _).step (setResult_changes _ _ _)).trans (sweepDone_changes _ _)).mono (by decide)).step
        (takeEntries_changes rest _)

theorem takeNextSweep_changes (s : State) : Changes [.sweeps] s s.takeNextSweep := by
  unfold State.takeNextSweep
  split
  · exact takeEntries_changes _ _
  · exact (Changes.refl s).mono (by simp)

theorem dropAcquisition_changes (s : State) : Changes [.sweeps] s s.dropAcquisition := sweeps_changes _ _

theorem endSweep_changes (s : State) (p : Port) (outcome : SweepState) (f : SweepResult → SweepResult) :
    Changes [.sweeps] s (s.endSweep p outcome f) :=
  (((((dropAcquisition_changes s).step (sweeps_changes _ _)).step (setResult_changes _ _ _)).trans
    (sweepDone_changes _ _)).mono (by decide)).step (takeNextSweep_changes _)

theorem joinSweepQueue_changes (s : State) (e : SweepEntry) : Changes [.sweeps] s (s.joinSweepQueue e) :=
  (sweeps_changes _ _).step (takeNextSweep_changes _)

theorem autoSweep_changes (s : State) (p : Port) (segment : Segment) : Changes [.sweeps] s (s.autoSweep p segment) := by
  unfold State.autoSweep
  split
  · exact joinSweepQueue_changes _ _
  · exact (Changes.refl s).mono (by simp)

theorem powerOpen_changes (s : State) (p : Port) : Changes [.table, .sweeps] s (s.powerOpen p) := by
  unfold State.powerOpen
  simp only
  split
  · exact ((submitEvidence_changes _ _ _ _).trans (autoSweep_changes _ _ _)).mono (by decide)
  · exact (submitEvidence_changes _ _ _ _).mono (by decide)

theorem discardAcquisitions_changes (s : State) (p : Port) : Changes [.sweeps] s (s.discardAcquisitions p) := by
  unfold State.discardAcquisitions
  split
  · exact (Changes.refl s).mono (by simp)
  split
  · exact ((dropAcquisition_changes s).step (sweeps_changes _ _)).step (setResult_changes _ _ _)
  · exact (Changes.refl s).mono (by simp)

theorem beginAnalysis_changes (s : State) (w : Sweep) : Changes [.sweeps] s (s.beginAnalysis w) :=
  (sweeps_changes _ _).step (setResult_changes _ _ _)

/-! ## Lanes and their windows -/

theorem laneCount_changes (s : State) (p : Port) (f : LaneCounts → LaneCounts) : Changes [.lanes] s (s.laneCount p f) :=
  setLane_keeps_state _ _ _ rfl

theorem dataError_changes (s : State) (p : Port) : Changes [.monitor] s (s.dataError p) := setEvidence_changes _ _ _

theorem laneDataError_changes (s : State) (p : Port) : Changes [.lanes, .monitor] s (s.laneDataError p) :=
  ((laneCount_changes _ _ _).trans (dataError_changes _ _)).mono (by decide)

theorem ambientHigh_changes (s : State) (p : Port) (slot : Fin 4) (cycle mean : Nat) :
    Changes [.seq] s (s.ambientHigh p slot cycle mean) := by
  have set := fun v => seq_keeps_plan s { s.seq with exceed := upd s.seq.exceed p (fun _ => v) } ⟨rfl, rfl⟩
  unfold State.ambientHigh
  simp only
  split
  · exact (Changes.refl s).mono (by simp)
  split
  · exact ((set 0).trans (post_changes _ _ _)).mono (by decide)
  · exact set _

theorem ambientCheck_changes (s : State) (p : Port) (f : RxFrame) (flags : FrameFlags) (mean : Nat) :
    Changes [.seq] s (s.ambientCheck p f flags mean).1 := by
  unfold State.ambientCheck
  split
  · exact ambientHigh_changes _ _ _ _ _
  · exact (Changes.refl s).mono (by simp)

/-- The parts that the close of a frame or of a window changes. -/
abbrev windowParts : List Part := [.store, .uplink, .dram, .lanes, .seq]

theorem closeFrame_changes (s : State) (p : Port) (f : RxFrame) (cut : FrameFlags → FrameFlags) :
    Changes windowParts s (s.closeFrame p f cut) := by
  have filled := dram_changes s (Memory.fillLines s.dram f.buffer f.width f.missing)
  have counted := filled.trans (setLane_keeps_state _ p
    (fun l => { l with lastMean := f.mean, counts := { l.counts with closed := sat32 l.counts.closed } }) rfl)
  have checked := counted.trans (ambientCheck_changes _ p f
    (cut { f.flags with truncated := f.flags.truncated || !f.missing.isEmpty }) f.mean)
  have handed := fun g => (checked.trans (setStore_changes _ g)).trans (handOver_changes _ f.id)
  exact ((handed _).trans (setLane_keeps_state _ p (fun l => { l with frame := none }) rfl)).mono (by decide)

theorem closeWindow_changes (s : State) (p : Port) : Changes [.lanes, .seq] s (s.closeWindow p) := by
  unfold State.closeWindow
  split
  · exact (Changes.refl s).mono (by simp)
  · have closed := setLane_keeps_state s p (fun l => { l with window := none }) rfl
    exact (closed.trans (current_changes _ _)).mono (by decide)

theorem deadlineClose_changes (s : State) (p : Port) : Changes windowParts s (s.deadlineClose p) := by
  have closes := fun t => (closeWindow_changes t p).mono (G := windowParts) (by decide)
  unfold State.deadlineClose
  split
  · exact (Changes.refl s).mono (by simp)
  · split
    · exact (((laneCount_changes _ _ _).trans (reportAbsence_changes _ _ _ _ _)).mono (by decide)).step (closes _)
    · exact closes s
    · split
      · exact closes s
      · exact ((Changes.ite (fun _ => (Changes.refl s).mono (by simp))
          (fun _ => (laneCount_changes _ _ _).mono (by decide))).step (closeFrame_changes _ _ _ _)).step (closes _)

theorem cutWindow_changes (s : State) (p : Port) (cut : FrameFlags → FrameFlags) :
    Changes windowParts s (s.cutWindow p cut) := by
  have closes := fun t => (closeWindow_changes t p).mono (G := windowParts) (by decide)
  unfold State.cutWindow
  split
  · exact (Changes.refl s).mono (by simp)
  · split
    · exact ((reportAbsence_changes _ _ _ _ _).mono (by decide)).step (closes _)
    · exact closes s
    · split
      · exact closes s
      · exact (closeFrame_changes _ _ _ _).step (closes _)

theorem closeExposure_changes (s : State) (p : Port) : Changes [.lanes] s (s.closeExposure p) :=
  setLane_keeps_state _ _ _ rfl

end Sys2Proof.Power
end

section
/-!
PROOFS. What the walk, the lenses, the sweep engine and the sequencer may do to the power side of the part: they grant
power claims, and they leave a resting lens and a lane that is DOWN as they are (`Follows`).
-/

namespace Sys2Proof.Power

open Sys2Proof.Machine Sys2Proof.Safety

theorem get_congr {α : Type} {n : Nat} (v : Vector α n) {p q : Fin n} : p = q → v[p] = v[q] := by
  rintro rfl
  rfl

/-! ## Sums over the eight ports -/

theorem sumPorts_le {f g : Port → Nat} (h : ∀ q, f q ≤ g q) : sumPorts f ≤ sumPorts g :=
  List.sum_le_sum (fun q _ => h q)

theorem sumPorts_congr {f g : Port → Nat} (h : ∀ q, f q = g q) : sumPorts f = sumPorts g := congrArg _ (funext h)

/-- A quantity that is larger at one port alone, by at most `n`, has a sum larger by at most `n`. -/
theorem sumPorts_le_add {f g : Port → Nat} (p : Port) (n : Nat) (h : ∀ q, f q ≤ g q + if q = p then n else 0) :
    sumPorts f ≤ sumPorts g + n := by
  have one : sumPorts (fun q => if q = p then n else 0) = n := by
    unfold sumPorts allPorts
    fin_cases p <;> simp
  calc sumPorts f ≤ sumPorts (fun q => g q + if q = p then n else 0) := sumPorts_le h
    _ = sumPorts g + sumPorts (fun q => if q = p then n else 0) := List.sum_map_add
    _ = sumPorts g + n := by rw [one]

/-! ## The committed sum (R19) -/

/-- The strobe part is a function of the plan, its state and the profiles. -/
theorem strobePart_congr {s t : State} (hplan : t.seq.plan = s.seq.plan) (hstate : t.seq.state = s.seq.state)
    (hports : t.settings.ports = s.settings.ports) : t.strobePart = s.strobePart := by
  have hslots : t.seq.slots = s.seq.slots := by simp only [Sequencer.slots, hplan]
  simp only [State.strobePart, State.strobeReservation, State.profileOf, hslots, hstate, hports]

/-- The committed sum does not grow where no port comes to be reserved, no surge granted and no strobe part larger. -/
theorem committed_le {s t : State} (hports : t.settings.ports = s.settings.ports)
    (hbase : ∀ q : Port, t.power[q].state.reserved = true → s.power[q].state.reserved = true)
    (hsurge : ∀ q : Port, t.lenses[q].claim = .granted → s.lenses[q].claim = .granted)
    (hstrobe : t.strobePart ≤ s.strobePart) : t.committed ≤ s.committed := by
  have base : t.basePart ≤ s.basePart := sumPorts_le (fun q => by
    simp only [State.profileOf, hports]
    by_cases h : t.power[q].state.reserved = true
    · rw [if_pos h, if_pos (hbase q h)]
    · rw [if_neg h]; exact Nat.zero_le _)
  have surge : t.surgePart ≤ s.surgePart := sumPorts_le (fun q => by
    simp only [State.profileOf, hports]
    by_cases h : t.lenses[q].claim = .granted
    · rw [if_pos h, if_pos (hsurge q h)]
    · rw [if_neg h]; exact Nat.zero_le _)
  unfold State.committed
  omega

/-! ## Resting lenses -/

/-- A lens that is not driven (R115, R125). -/
structure Resting (l : Lens) : Prop where
  state : l.state = .unknown ∨ l.state = .absent
  claim : l.claim = .none
  stage : l.stage = .none
  toBegin : l.toBegin = false
  flight : l.flight = none
  halt : l.halt = none
  bus : l.bus = {}

/-- A port that is not ON, with its lens at rest and no lens claim on the list. -/
structure AtRest (s : State) (q : Port) : Prop where
  off : s.power[q].state ≠ .on
  lens : Resting s.lenses[q]
  unclaimed : ∀ c ∈ s.supply.claims, c.kind = .lens → c.port ≠ q

/-- The power claims of a list, as a test. -/
def Claim.isPower (c : Claim) : Bool := c.kind = .power

/-- A port holds a power claim on the list. -/
def Claimed (s : State) (q : Port) : Prop := ∃ c ∈ s.supply.claims, c.kind = .power ∧ c.port = q

/-- No port holds two power claims (R20). -/
def OnceClaimed (s : State) : Prop := ((s.supply.claims.filter Claim.isPower).map (·.port)).Nodup

/-- What the grant of its power claim does to a port's switch (R7, R27). -/
structure Granted (w v : PortPower) : Prop where
  state : v.state = .ramping
  reason : v.reason = w.reason
  presence : v.presence = w.presence
  tripCount : v.tripCount = w.tripCount
  shedMark : v.shedMark = if w.state = .off then false else w.shedMark

theorem Granted.trans {w v x : PortPower} (h : Granted w v) (g : Granted v x) : Granted w x where
  state := g.state
  reason := g.reason.trans h.reason
  presence := g.presence.trans h.presence
  tripCount := g.tripCount.trans h.tripCount
  shedMark := by rw [g.shedMark, h.state, if_neg (by decide), h.shedMark]

/-- The claims ask for what their ports need, and the committed sum is within the capacity. -/
def Funded (s : State) : Prop := ClaimNeeds s ∧ Budget s

/-! ## The relation -/

/-- What follows on a walk: only the parts in `F` differ, power claims are granted and none is made, a LOW supply grants
none, the resting lenses (but for that of `x`) and the lanes that are DOWN stay as they are, and the lens claims and the
budget stay sound. -/
structure Follows (F : List Part) (x : Option Port) (s t : State) : Prop extends Changes F s t where
  fixed : t.settings.ports = s.settings.ports ∧ t.settings.capacity = s.settings.capacity
  supplyKept : t.supply = { s.supply with claims := t.supply.claims }
  powers : ∀ q : Port, t.power[q] = s.power[q] ∨ Claimed s q ∧ Granted s.power[q] t.power[q]
  granted : OnceClaimed s → ∀ q : Port, t.power[q] = s.power[q] ∨ ¬ Claimed t q
  leaves : ∀ q : Port, Claimed s q → Claimed t q ∨ t.power[q].state = .ramping
  lowKeeps : s.supply.low.isSome = true → t.power = s.power
  powerClaims : (t.supply.claims.filter Claim.isPower).Sublist (s.supply.claims.filter Claim.isPower)
  rests : ∀ q : Port, x ≠ some q → AtRest s q → AtRest t q ∧ t.lenses[q] = s.lenses[q]
  lensClaims : LensClaims s → LensClaims t
  lanesDown : ∀ q : Port, s.lanes[q].state = .down → t.lanes[q].state = .down
  funded : Funded s → Funded t

theorem Follows.claimed {F : List Part} {x : Option Port} {s t : State} (h : Follows F x s t) {q : Port}
    (c : Claimed t q) : Claimed s q := by
  obtain ⟨d, hd, hk, hp⟩ := c
  have := h.powerClaims.subset (List.mem_filter.mpr ⟨hd, by simp [Claim.isPower, hk]⟩)
  exact ⟨d, (List.mem_filter.mp this).1, hk, hp⟩

theorem Follows.mono {F G : List Part} {x : Option Port} {s t : State} (h : Follows F x s t) (sub : ∀ a ∈ F, a ∈ G) :
    Follows G x s t :=
  { h with toChanges := h.toChanges.mono sub }

/-- Where no lens is exempt, none but that of `x` is. -/
theorem Follows.but {F : List Part} {s t : State} (h : Follows F none s t) (x : Option Port) : Follows F x s t :=
  { h with rests := fun q _ => h.rests q (by simp) }

/-- A lens that was not at rest needs no exemption. -/
theorem Follows.close {F : List Part} {p : Port} {s t : State} (h : Follows F (some p) s t) (hp : ¬ AtRest s p) :
    Follows F none s t :=
  { h with rests := fun q _ r => h.rests q (fun e => hp (by cases e; exact r)) r }

theorem Follows.step {F : List Part} {x : Option Port} {s t u : State} (h : Follows F x s t) (g : Follows F x t u) :
    Follows F x s u where
  toChanges := h.toChanges.step g.toChanges
  fixed := ⟨g.fixed.1.trans h.fixed.1, g.fixed.2.trans h.fixed.2⟩
  supplyKept := by rw [g.supplyKept, h.supplyKept]
  powers q := by
    cases g.powers q with
    | inl same => rw [same]; exact h.powers q
    | inr granted =>
      refine .inr ⟨h.claimed granted.1, ?_⟩
      cases h.powers q with
      | inl same => rw [← same]; exact granted.2
      | inr before => exact before.2.trans granted.2
  leaves q c := by
    cases h.leaves q c with
    | inl stays => exact g.leaves q stays
    | inr ramping =>
      refine .inr ?_
      cases g.powers q with
      | inl same => rw [same]; exact ramping
      | inr granted => exact granted.2.state
  granted once q := by
    have stays : OnceClaimed t := List.Nodup.sublist (h.powerClaims.map _) once
    cases g.granted stays q with
    | inl same =>
      cases h.granted once q with
      | inl same' => exact .inl (same.trans same')
      | inr gone => exact .inr (fun c => gone (g.claimed c))
    | inr gone => exact .inr gone
  lowKeeps low := by
    have kept : t.supply.low.isSome = true := by rw [h.supplyKept]; exact low
    rw [g.lowKeeps kept, h.lowKeeps low]
  powerClaims := g.powerClaims.trans h.powerClaims
  rests q hx r := by
    obtain ⟨r1, e1⟩ := h.rests q hx r
    obtain ⟨r2, e2⟩ := g.rests q hx r1
    exact ⟨r2, e2.trans e1⟩
  lensClaims l := g.lensClaims (h.lensClaims l)
  lanesDown q d := g.lanesDown q (h.lanesDown q d)
  funded f := g.funded (h.funded f)

theorem Follows.trans {F G : List Part} {x : Option Port} {s t u : State} (h : Follows F x s t) (g : Follows G x t u) :
    Follows (F ++ G) x s u :=
  (h.mono (fun _ m => List.mem_append_left G m)).step (g.mono (fun _ m => List.mem_append_right F m))

theorem Follows.ite {F : List Part} {x : Option Port} {s a b : State} {c : Prop} [Decidable c] (h : c → Follows F x s a)
    (g : ¬ c → Follows F x s b) : Follows F x s (if c then a else b) := by
  split
  · exact h ‹_›
  · exact g ‹_›

/-! ## Changes that the power side does not see -/

/-- The committed sum is a function of the profiles, the power states, the lens claims and the plan. -/
theorem committed_congr {s t : State} (hports : t.settings.ports = s.settings.ports)
    (hbase : ∀ q : Port, t.power[q].state = s.power[q].state) (hsurge : ∀ q : Port, t.lenses[q].claim = s.lenses[q].claim)
    (hplan : t.seq.plan = s.seq.plan) (hstate : t.seq.state = s.seq.state) : t.committed = s.committed := by
  apply Nat.le_antisymm
  · exact committed_le hports (fun q => by rw [hbase]; exact id) (fun q => by rw [hsurge]; exact id)
      (Nat.le_of_eq (strobePart_congr hplan hstate hports))
  · exact committed_le hports.symm (fun q => by rw [hbase]; exact id) (fun q => by rw [hsurge]; exact id)
      (Nat.le_of_eq (strobePart_congr hplan hstate hports).symm)

/-- The parts that the power invariants read. -/
abbrev powerSide : List Part := [.profiles, .power, .supply, .laneStates, .plan, .lenses]

/-- A change of other parts than those that the power invariants read. -/
theorem Changes.follows {F : List Part} {s t : State} (h : Changes F s t) (away : ∀ a ∈ powerSide, a ∉ F) :
    Follows F none s t where
  toChanges := h
  fixed := h.profiles (away _ (by decide))
  supplyKept := by rw [h.supply (away _ (by decide))]
  powers q := .inl (by rw [h.power (away _ (by decide))])
  granted _ q := .inl (by rw [h.power (away _ (by decide))])
  leaves q c := .inl (by unfold Claimed; rw [h.supply (away _ (by decide))]; exact c)
  lowKeeps _ := h.power (away _ (by decide))
  powerClaims := by rw [h.supply (away _ (by decide))]
  rests q _ r := by
    have hl := h.lenses (away _ (by decide))
    refine ⟨⟨?_, ?_, ?_⟩, by rw [hl]⟩
    · rw [h.power (away _ (by decide))]; exact r.off
    · rw [hl]; exact r.lens
    · rw [h.supply (away _ (by decide))]; exact r.unclaimed
  lensClaims l := by
    unfold LensClaims
    rw [h.lenses (away _ (by decide)), h.supply (away _ (by decide))]
    exact l
  lanesDown q d := by rw [h.laneStates (away _ (by decide))]; exact d
  funded f := by
    have same : t.committed = s.committed :=
      committed_congr (h.profiles (away _ (by decide))).1 (fun q => by rw [h.power (away _ (by decide))])
        (fun q => by rw [h.lenses (away _ (by decide))]) (h.plan (away _ (by decide))).1 (h.plan (away _ (by decide))).2
    refine ⟨?_, ?_⟩
    · unfold ClaimNeeds
      rw [h.supply (away _ (by decide)), (h.profiles (away _ (by decide))).1]
      exact f.1
    · unfold Budget
      rw [same, (h.profiles (away _ (by decide))).2]
      exact f.2

theorem Follows.refl (s : State) : Follows [] none s s := (Changes.refl s).follows (by simp)

/-- Nothing changes. -/
theorem Follows.same (F : List Part) (x : Option Port) (s : State) : Follows F x s s :=
  ((Follows.refl s).mono (by simp)).but x

theorem post_follows (s : State) (port : Option Port) (body : NoticeBody) : Follows [] none s (s.post port body) :=
  (post_changes s port body).follows (by simp)

/-- A change of a lens that keeps its claim. -/
theorem setLens_follows (s : State) (p : Port) (f : Lens → Lens) (claim : (f s.lenses[p]).claim = s.lenses[p].claim) :
    Follows [.lenses] (some p) s (s.setLens p f) where
  toChanges := setLens_changes s p f
  fixed := ⟨rfl, rfl⟩
  supplyKept := rfl
  powers q := .inl rfl
  granted _ q := .inl rfl
  leaves q c := .inl c
  lowKeeps _ := rfl
  powerClaims := List.Sublist.refl _
  rests q hq r := by
    have same : (s.setLens p f).lenses[q] = s.lenses[q] := upd_other _ _ (fun e => hq (by rw [e]))
    exact ⟨⟨r.off, by rw [same]; exact r.lens, r.unclaimed⟩, same⟩
  lensClaims l := by
    refine ⟨fun c hc hk => ?_, l.2⟩
    rw [State.setLens_lenses, upd_get]
    split
    · next e => rw [claim, ← e]; exact l.1 c hc hk
    · exact l.1 c hc hk
  lanesDown q d := d
  funded g := by
    refine ⟨g.1, ?_⟩
    have same : (s.setLens p f).committed = s.committed := committed_congr rfl (fun _ => rfl) (fun q => by
      rw [State.setLens_lenses, upd_get]
      split
      · next e => rw [claim, e]
      · rfl) rfl rfl
    unfold Budget
    rw [same]
    exact g.2

/-- A change of the sequencer that puts no new plan in service. -/
theorem setSeq_follows (s : State) (f : Sequencer → Sequencer)
    (h : (f s.seq).state.inService = true → s.seq.state.inService = true ∧ (f s.seq).plan = s.seq.plan) :
    Follows [.seq, .plan] none s (s.setSeq f) where
  toChanges := setSeq_changes s f
  fixed := ⟨rfl, rfl⟩
  supplyKept := rfl
  powers q := .inl rfl
  granted _ q := .inl rfl
  leaves q c := .inl c
  lowKeeps _ := rfl
  powerClaims := List.Sublist.refl _
  rests q _ r := ⟨⟨r.off, r.lens, r.unclaimed⟩, rfl⟩
  lensClaims l := l
  lanesDown q d := d
  funded g := by
    have strobe : (s.setSeq f).strobePart ≤ s.strobePart := by
      unfold State.strobePart
      by_cases hs : (s.setSeq f).seq.state.inService = true
      · obtain ⟨hin, hplan⟩ := h hs
        rw [if_pos hs, if_pos hin]
        simp only [State.strobeReservation, Sequencer.slots, State.setSeq_seq, hplan, State.profileOf]
        exact Nat.le_refl _
      · rw [if_neg hs]
        exact Nat.zero_le _
    have le : (s.setSeq f).committed ≤ s.committed := committed_le rfl (fun _ => id) (fun _ => id) strobe
    exact ⟨g.1, Nat.le_trans le g.2⟩

end Sys2Proof.Power
end

section
/-!
PROOFS. The walk and the lenses: what each operation of the claim list and of the lens controller leaves unchanged.
-/

namespace Sys2Proof.Power

open Sys2Proof.Machine Sys2Proof.Safety

/-- The parts that the walk and the lens controller change. -/
abbrev lensParts : List Part := [.power, .supply, .lenses, .freeCount]

/-! ## Beginning a move (R123 to R125) -/

theorem notice_follows (s : State) (p : Port) (event : LensEvent) (move : Option Move) (fault : Option LensFault)
    (x : Option Port) : Follows lensParts x s (s.lensNotice p event move fault) :=
  ((post_follows _ _ _).mono (by simp)).but x

theorem lens_follows (s : State) (p : Port) (f : Lens → Lens) (claim : (f s.lenses[p]).claim = s.lenses[p].claim) :
    Follows lensParts (some p) s (s.setLens p f) :=
  (setLens_follows s p f claim).mono (by decide)

theorem usedFree_follows (s : State) (x : Option Port) : Follows lensParts x s s.usedFree :=
  (((usedFree_changes s).follows (by decide)).mono (by decide)).but x

theorem windowWait_follows (s : State) (p : Port) : Follows lensParts (some p) s (s.windowWait p) :=
  lens_follows s p _ (by dsimp only; split <;> rfl)

theorem beginMove_follows (s : State) (p : Port) (m : Move) : Follows lensParts (some p) s (s.beginMove p m) := by
  unfold State.beginMove
  extract_lets estimate t
  have begun : Follows lensParts (some p) s t := lens_follows s p _ rfl
  exact Follows.ite (fun _ => begun.step (usedFree_follows _ _)) (fun _ => begun)

theorem beginOrWait_follows (s : State) (p : Port) : Follows lensParts (some p) s (s.beginOrWait p) := by
  unfold State.beginOrWait
  split
  · exact .same _ _ s
  · exact Follows.ite (fun _ => windowWait_follows s p)
      (fun _ => Follows.ite (fun _ => beginMove_follows s p _) (fun _ => lens_follows s p _ rfl))

/-! ## The walk (R21) -/

/-- The head of the claim list as a list of its own. -/
theorem filter_tail_sublist (c : Claim) (rest : List Claim) :
    (rest.filter Claim.isPower).Sublist ((c :: rest).filter Claim.isPower) :=
  (List.sublist_cons_self c rest).filter _

/-- The head of the claim list leaves it for a power claim's grant. -/
theorem grantPower_follows {s : State} {c : Claim} {rest : List Claim} (hc : s.supply.claims = c :: rest)
    (admitted : s.admits c = true) (hk : c.kind = .power) : Follows lensParts none s (s.grant c rest) := by
  have form : s.grant c rest = (s.setClaims (fun _ => rest)).setPowerState c.port .ramping s.power[c.port].reason := by
    simp only [State.grant, hk]
    rfl
  rw [form]
  have mem : c ∈ s.supply.claims := by rw [hc]; exact List.mem_cons_self
  simp only [State.admits, Bool.and_eq_true, Option.isNone_iff_eq_none, decide_eq_true_eq] at admitted
  have changes : Changes lensParts s
      ((s.setClaims (fun _ => rest)).setPowerState c.port .ramping s.power[c.port].reason) :=
    (((supply_changes s _).trans (setPower_changes (s.setClaims (fun _ => rest)) c.port _)).trans
      (portStateNotice_changes _ _ _)).mono (by decide)
  have claims : ((s.setClaims (fun _ => rest)).setPowerState c.port .ramping s.power[c.port].reason).supply.claims = rest := by
    simp
  have power : ∀ q : Port, ((s.setClaims (fun _ => rest)).setPowerState c.port .ramping s.power[c.port].reason).power[q] =
      if q = c.port then (s.power[c.port]).enter (s.profileOf c.port) s.clock .ramping s.power[c.port].reason
      else s.power[q] := by
    intro q
    rw [State.setPowerState_power, upd_get]
    rfl
  have lenses : ((s.setClaims (fun _ => rest)).setPowerState c.port .ramping s.power[c.port].reason).lenses = s.lenses := by
    simp
  generalize hu : (s.setClaims (fun _ => rest)).setPowerState c.port .ramping s.power[c.port].reason = u at *
  exact {
    toChanges := changes
    fixed := changes.profiles (by decide)
    supplyKept := by rw [← hu]; simp
    powers := fun q => by
      rw [power]
      by_cases e : q = c.port
      · rw [if_pos e, e]
        refine .inr ⟨⟨c, mem, hk, rfl⟩, rfl, rfl, rfl, rfl, ?_⟩
        simp [PortPower.enter]
      · rw [if_neg e]
        exact .inl rfl
    leaves := fun q held => by
      obtain ⟨d, hd, hkd, hp⟩ := held
      rw [hc, List.mem_cons] at hd
      cases hd with
      | inl head =>
        refine .inr ?_
        rw [power, if_pos (by rw [← hp, head])]
        rfl
      | inr tail => exact .inl ⟨d, by rw [claims]; exact tail, hkd, hp⟩
    granted := fun once q => by
      rw [power]
      by_cases e : q = c.port
      · refine .inr ?_
        rintro ⟨d, hd, hkd, rfl⟩
        unfold OnceClaimed at once
        rw [hc, List.filter_cons_of_pos (by simp [Claim.isPower, hk]), List.map_cons, List.nodup_cons] at once
        rw [claims] at hd
        exact once.1 (List.mem_map.mpr ⟨d, List.mem_filter.mpr ⟨hd, by simp [Claim.isPower, hkd]⟩, e⟩)
      · rw [if_neg e]
        exact .inl rfl
    lowKeeps := fun low => by rw [admitted.1] at low; cases low
    powerClaims := by rw [claims, hc]; exact filter_tail_sublist c rest
    rests := fun q _ r => by
      refine ⟨⟨?_, by rw [lenses]; exact r.lens, ?_⟩, by rw [lenses]⟩
      · rw [power]
        split
        · simp [PortPower.enter]
        · exact r.off
      · rw [claims]
        exact fun d hd => r.unclaimed d (by rw [hc]; exact List.mem_cons_of_mem c hd)
    lensClaims := fun l => by
      unfold LensClaims at l ⊢
      rw [claims, lenses]
      rw [hc] at l
      refine ⟨fun d hd => l.1 d (List.mem_cons_of_mem c hd), ?_⟩
      have := l.2
      rwa [List.filter_cons_of_neg (by simp [hk])] at this
    lanesDown := fun q d => by rw [changes.laneStates (by decide)]; exact d
    funded := fun g => by
      obtain ⟨needs, budget⟩ := g
      have hports := (changes.profiles (by decide)).1
      refine ⟨?_, ?_⟩
      · unfold ClaimNeeds
        rw [claims, hports]
        exact fun d hd => needs d (by rw [hc]; exact List.mem_cons_of_mem c hd)
      · have need : c.need = (s.profileOf c.port).baseReservation := (needs c mem).1 hk
        have base : u.basePart ≤ s.basePart + c.need := by
          refine sumPorts_le_add c.port c.need (fun q => ?_)
          simp only [State.profileOf, hports]
          by_cases e : q = c.port
          · rw [if_pos e, need, e]
            simp only [State.profileOf]
            split <;> omega
          · rw [if_neg e, power, if_neg e]
            exact Nat.le_refl _
        have surge : u.surgePart = s.surgePart := sumPorts_congr (fun q => by
          simp only [State.profileOf, hports, lenses])
        have strobe : u.strobePart = s.strobePart :=
          strobePart_congr (changes.plan (by decide)).1 (changes.plan (by decide)).2 hports
        unfold Budget
        rw [(changes.profiles (by decide)).2]
        have := admitted.2
        unfold State.committed at *
        omega }

/-- The head of the claim list leaves it, and the surge of its lens is granted. -/
theorem grantSurge_follows {s : State} {c : Claim} {rest : List Claim} (hc : s.supply.claims = c :: rest)
    (admitted : s.admits c = true) (hk : c.kind = .lens) :
    Follows lensParts none s ((s.setClaims (fun _ => rest)).setLens c.port (fun l => { l with claim := .granted })) := by
  have mem : c ∈ s.supply.claims := by rw [hc]; exact List.mem_cons_self
  simp only [State.admits, Bool.and_eq_true, Option.isNone_iff_eq_none, decide_eq_true_eq] at admitted
  have changes : Changes lensParts s
      ((s.setClaims (fun _ => rest)).setLens c.port (fun l => { l with claim := .granted })) :=
    ((supply_changes s _).trans (setLens_changes (s.setClaims (fun _ => rest)) c.port _)).mono (by decide)
  have lenses : ∀ q : Port, q ≠ c.port →
      ((s.setClaims (fun _ => rest)).setLens c.port (fun l => { l with claim := .granted })).lenses[q] = s.lenses[q] :=
    fun q e => upd_other _ _ e
  exact {
    toChanges := changes
    fixed := ⟨rfl, rfl⟩
    supplyKept := rfl
    powers := fun q => .inl rfl
    granted := fun _ q => .inl rfl
    leaves := fun q held => by
      obtain ⟨d, hd, hkd, hp⟩ := held
      rw [hc, List.mem_cons] at hd
      cases hd with
      | inl head => rw [head, hk] at hkd; cases hkd
      | inr tail => exact .inl ⟨d, tail, hkd, hp⟩
    lowKeeps := fun _ => rfl
    powerClaims := by
      change (rest.filter Claim.isPower).Sublist _
      rw [hc]
      exact filter_tail_sublist c rest
    rests := fun q _ r => by
      have e : q ≠ c.port := fun e => r.unclaimed c mem hk e.symm
      refine ⟨⟨r.off, by rw [lenses q e]; exact r.lens, fun d hd => ?_⟩, lenses q e⟩
      exact r.unclaimed d (by rw [hc]; exact List.mem_cons_of_mem c hd)
    lensClaims := fun l => by
      unfold LensClaims at l
      rw [hc, List.filter_cons_of_pos (by simp [hk]), List.map_cons, List.nodup_cons] at l
      refine ⟨fun d hd hd' => ?_, l.2.2⟩
      have e : d.port ≠ c.port := fun e => l.2.1 (List.mem_map.mpr ⟨d, List.mem_filter.mpr ⟨hd, by simp [hd']⟩, e⟩)
      rw [lenses _ e]
      exact l.1 d (List.mem_cons_of_mem c hd) hd'
    lanesDown := fun q d => d
    funded := fun g => by
      obtain ⟨needs, budget⟩ := g
      refine ⟨fun d hd => needs d (by rw [hc]; exact List.mem_cons_of_mem c hd), ?_⟩
      have need : c.need = (s.profileOf c.port).lensSurge := (needs c mem).2 hk
      generalize hu : (s.setClaims (fun _ => rest)).setLens c.port (fun l => { l with claim := .granted }) = u at *
      have hports := (changes.profiles (by decide)).1
      have base : u.basePart = s.basePart := sumPorts_congr (fun q => by
        rw [← hu]
        rfl)
      have surge : u.surgePart ≤ s.surgePart + c.need := by
        refine sumPorts_le_add c.port c.need (fun q => ?_)
        simp only [State.profileOf, hports]
        by_cases e : q = c.port
        · rw [if_pos e, need, e]
          simp only [State.profileOf]
          split <;> omega
        · rw [if_neg e, lenses q e]
          exact Nat.le_refl _
      have strobe : u.strobePart = s.strobePart :=
        strobePart_congr (changes.plan (by decide)).1 (changes.plan (by decide)).2 hports
      unfold Budget
      rw [(changes.profiles (by decide)).2]
      have := admitted.2
      unfold State.committed at *
      omega }

/-- A lens with a claim is not at rest. -/
theorem not_atRest_of_claim {s : State} {p : Port} (h : s.lenses[p].claim ≠ .none) : ¬ AtRest s p :=
  fun r => h r.lens.claim

theorem grant_follows {s : State} {c : Claim} {rest : List Claim} (hc : s.supply.claims = c :: rest)
    (admitted : s.admits c = true) : Follows lensParts none s (s.grant c rest) := by
  cases hk : c.kind with
  | power => exact grantPower_follows hc admitted hk
  | lens =>
    have surge := grantSurge_follows hc admitted hk
    have busy : ¬ AtRest ((s.setClaims (fun _ => rest)).setLens c.port (fun l => { l with claim := .granted })) c.port :=
      not_atRest_of_claim (by rw [State.setLens_lenses, upd_same]; simp)
    simp only [State.grant, hk, State.lensGranted]
    split
    · exact surge
    · exact Follows.ite (fun _ => surge.step ((beginOrWait_follows _ _).close busy))
        (fun _ => surge.step ((windowWait_follows _ _).close busy))

theorem walkSteps_follows : ∀ (n : Nat) (s : State), Follows lensParts none s (State.walkSteps n s)
  | 0, s => .same _ _ s
  | n + 1, s => by
    unfold State.walkSteps
    split
    · exact .same _ _ s
    · next c rest hc =>
      exact Follows.ite (fun admitted => (grant_follows hc admitted).step (walkSteps_follows n _))
        (fun _ => .same _ _ s)

/-- The walk (R21). -/
theorem walk_follows (s : State) : Follows lensParts none s s.walk := walkSteps_follows _ s

end Sys2Proof.Power
end

section
/-! PROOFS. -/

namespace Sys2Proof.Power

open Sys2Proof.Machine Sys2Proof.Safety

/-! ## What shows that a lens is not at rest -/

theorem not_atRest_of_on {s : State} {p : Port} (h : s.power[p].state = .on) : ¬ AtRest s p := fun r => r.off h

theorem not_atRest_of_stage {s : State} {p : Port} (h : s.lenses[p].stage ≠ .none) : ¬ AtRest s p :=
  fun r => h r.lens.stage

theorem not_atRest_of_state {s : State} {p : Port} (h : s.lenses[p].state ≠ .unknown) (h' : s.lenses[p].state ≠ .absent) :
    ¬ AtRest s p := fun r => r.lens.state.elim h h'

theorem not_atRest_of_bus {s : State} {p : Port} (h : s.lenses[p].bus.state ≠ .off) : ¬ AtRest s p :=
  fun r => h (by rw [r.lens.bus])

theorem not_atRest_of_flight {s : State} {p : Port} (h : s.lenses[p].flight ≠ none) : ¬ AtRest s p :=
  fun r => h r.lens.flight

theorem not_atRest_of_halt {s : State} {p : Port} (h : s.lenses[p].halt ≠ none) : ¬ AtRest s p :=
  fun r => h r.lens.halt

/-! ## The lens's claim (R124, R20) -/

/-- A lens's claim goes, with the claims on the list that the lens holds there: none where it is not standing. -/
theorem dropSurge_follows {s : State} {p : Port} (f : Lens → Lens) (g : List Claim → List Claim)
    (claim : (f s.lenses[p]).claim = .none) (sub : (g s.supply.claims).Sublist s.supply.claims)
    (keeps : ∀ c ∈ s.supply.claims, c.kind = .power → c ∈ g s.supply.claims)
    (left : ∀ c ∈ g s.supply.claims, c.kind = .lens → LensClaims s → c.port ≠ p) :
    Follows [.supply, .lenses] (some p) s ((s.setLens p f).setClaims g) where
  toChanges := ((setLens_changes s p f).trans (supply_changes _ _)).mono (by decide)
  fixed := ⟨rfl, rfl⟩
  supplyKept := rfl
  powers q := .inl rfl
  granted _ q := .inl rfl
  leaves q held := by
    obtain ⟨d, hd, hk, hp⟩ := held
    exact .inl ⟨d, keeps d hd hk, hk, hp⟩
  lowKeeps _ := rfl
  powerClaims := sub.filter _
  rests q hq r := by
    have same : ((s.setLens p f).setClaims g).lenses[q] = s.lenses[q] := upd_other _ _ (fun e => hq (by rw [e]))
    exact ⟨⟨r.off, by rw [same]; exact r.lens, fun c hc => r.unclaimed c (sub.subset hc)⟩, same⟩
  lensClaims l := by
    refine ⟨fun c hc hk => ?_, List.Nodup.sublist ((sub.filter _).map _) l.2⟩
    have e : c.port ≠ p := left c hc hk l
    have same : ((s.setLens p f).setClaims g).lenses[c.port] = s.lenses[c.port] := upd_other _ _ e
    rw [same]
    exact l.1 c (sub.subset hc) hk
  lanesDown q d := d
  funded h := by
    refine ⟨fun c hc => h.1 c (sub.subset hc), Nat.le_trans (m := s.committed) ?_ h.2⟩
    refine committed_le rfl (fun _ => id) (fun q => ?_) (Nat.le_refl _)
    change (upd s.lenses p f)[q].claim = .granted → _
    rw [upd_get]
    split
    · rw [claim]
      exact fun e => by cases e
    · exact id

theorem releaseSurge_follows (s : State) (p : Port) : Follows lensParts none s (s.releaseSurge p) := by
  unfold State.releaseSurge
  refine Follows.ite (fun granted => ?_) (fun _ => .same _ _ s)
  have released : Follows lensParts (some p) s (s.setLens p (fun l => { l with claim := .none })) :=
    (dropSurge_follows (fun l => { l with claim := .none }) id rfl (List.Sublist.refl _) (fun _ hc _ => hc)
      (fun c hc hk l e => by have := l.1 c hc hk; rw [get_congr s.lenses e, granted] at this; cases this)).mono (by decide)
  exact (released.close (not_atRest_of_claim (by rw [granted]; decide))).step (walk_follows _)

/-- The lens claims of a port leave the list. -/
theorem dropClaim_lens_unclaimed (s : State) (p : Port) :
    ∀ c ∈ (s.dropClaim p .lens).supply.claims, c.kind = .lens → c.port ≠ p := by
  intro c hc hk e
  simp only [State.dropClaim_supply, List.mem_filter, Bool.not_eq_true', Bool.and_eq_false_iff,
    decide_eq_false_iff_not] at hc
  exact hc.2.elim (fun h => h e) (fun h => h hk)

theorem dropClaim_lens_keeps_power (s : State) (p : Port) :
    ∀ c ∈ s.supply.claims, c.kind = .power → c ∈ (s.dropClaim p .lens).supply.claims :=
  fun c hc hk => List.mem_filter.mpr ⟨hc, by simp [hk]⟩

theorem withdrawLensClaim_follows (s : State) (p : Port) : Follows lensParts none s (s.withdrawLensClaim p) := by
  unfold State.withdrawLensClaim
  refine Follows.ite (fun standing => ?_) (fun _ => .same _ _ s)
  have withdrawn : Follows lensParts (some p) s ((s.setLens p (fun l => { l with claim := .none })).dropClaim p .lens) :=
    (dropSurge_follows (fun l => { l with claim := .none }) _ rfl List.filter_sublist (dropClaim_lens_keeps_power s p)
      (fun c hc hk _ => dropClaim_lens_unclaimed s p c hc hk)).mono (by decide)
  exact (withdrawn.close (not_atRest_of_claim (by rw [standing]; decide))).step (walk_follows _)

theorem mem_insertClaim {c d : Claim} : ∀ {cs : List Claim}, d ∈ insertClaim c cs ↔ d = c ∨ d ∈ cs
  | [] => by simp [insertClaim]
  | e :: cs => by
    unfold insertClaim
    split
    · rw [List.mem_cons, mem_insertClaim, List.mem_cons]
      tauto
    · simp

/-- A claim joins the others, which keep their order. -/
theorem insertClaim_perm (c : Claim) : ∀ cs : List Claim, (insertClaim c cs).Perm (c :: cs)
  | [] => .refl _
  | e :: cs => by
    unfold insertClaim
    split
    · exact ((insertClaim_perm c cs).cons e).trans (.swap _ _ _)
    · exact .refl _

theorem filter_insertClaim_neg {c : Claim} {f : Claim → Bool} (h : f c = false) :
    ∀ cs : List Claim, (insertClaim c cs).filter f = cs.filter f
  | [] => by simp [insertClaim, h]
  | e :: cs => by
    unfold insertClaim
    split
    · rw [List.filter_cons, List.filter_cons, filter_insertClaim_neg h cs]
    · rw [List.filter_cons_of_neg (by simp [h])]

theorem raiseLensClaim_follows {s : State} {p : Port} (none_held : s.lenses[p].claim = .none) :
    Follows lensParts (some p) s (s.raiseLensClaim p) := by
  have raised : Follows lensParts (some p) s
      ((s.setLens p (fun l => { l with claim := .standing, stage := .claimWait })).joinClaim p .lens
        (s.profileOf p).lensSurge) := {
    toChanges := ((setLens_changes s p _).trans (supply_changes _ _)).mono (by decide)
    fixed := ⟨rfl, rfl⟩
    supplyKept := rfl
    powers := fun q => .inl rfl
    granted := fun _ q => .inl rfl
    leaves := fun q held => by
      obtain ⟨d, hd, hk, hp⟩ := held
      exact .inl ⟨d, mem_insertClaim.mpr (.inr hd), hk, hp⟩
    lowKeeps := fun _ => rfl
    powerClaims := by
      rw [State.joinClaim_supply, filter_insertClaim_neg (by rfl)]
      exact .refl _
    rests := fun q hq r => by
      have e : q ≠ p := fun e => hq (by rw [e])
      have same : (upd s.lenses p (fun l => { l with claim := .standing, stage := .claimWait }))[q] = s.lenses[q] :=
        upd_other _ _ e
      refine ⟨⟨r.off, same ▸ r.lens, fun c hc hk => ?_⟩, same⟩
      cases mem_insertClaim.mp hc with
      | inl new => rw [new]; exact fun h => e h.symm
      | inr old => exact r.unclaimed c old hk
    lensClaims := fun l => by
      have free : ∀ c ∈ s.supply.claims, c.kind = .lens → c.port ≠ p := fun c hc hk e => by
        have := l.1 c hc hk
        rw [get_congr s.lenses e, none_held] at this
        cases this
      refine ⟨fun c hc hk => ?_, ?_⟩
      · change (upd s.lenses p (fun l => { l with claim := .standing, stage := .claimWait }))[c.port].claim = .standing
        rw [upd_get]
        split
        · rfl
        · next e =>
          cases mem_insertClaim.mp hc with
          | inl new => exact absurd (by rw [new]) e
          | inr old => exact l.1 c old hk
      · refine ((((insertClaim_perm _ s.supply.claims).filter _).map (·.port)).nodup_iff).mpr ?_
        rw [List.filter_cons_of_pos (by simp), List.map_cons, List.nodup_cons]
        refine ⟨fun h => ?_, l.2⟩
        obtain ⟨c, hc, e⟩ := List.mem_map.mp h
        rw [List.mem_filter] at hc
        exact free c hc.1 (by simpa using hc.2) e
    lanesDown := fun q d => d
    funded := fun h => by
      refine ⟨fun c hc => ?_, Nat.le_trans (m := s.committed) ?_ h.2⟩
      · cases mem_insertClaim.mp hc with
        | inl new =>
          rw [new]
          exact ⟨fun e => (by cases e), fun _ => rfl⟩
        | inr old => exact h.1 c old
      · refine committed_le rfl (fun _ => id) (fun q => ?_) (Nat.le_refl _)
        change (upd s.lenses p (fun l => { l with claim := .standing, stage := .claimWait }))[q].claim = .granted → _
        rw [upd_get]
        split
        · exact fun e => by cases e
        · exact id }
  exact raised.step ((walk_follows _).but _)

/-! ## Starting a move (R121 to R124) -/

theorem fitOrWait_follows (s : State) (p : Port) : Follows lensParts (some p) s (s.fitOrWait p) := by
  unfold State.fitOrWait
  split
  · exact .same _ _ s
  · refine Follows.ite (fun _ => ?_) (fun _ => windowWait_follows s p)
    split
    · exact beginOrWait_follows s p
    · next none_held => exact raiseLensClaim_follows none_held
    · exact .same _ _ s

theorem startPending_follows (s : State) (p : Port) : Follows lensParts none s (s.startPending p) := by
  unfold State.startPending
  refine Follows.ite (fun starts => (fitOrWait_follows s p).close (not_atRest_of_on ?_)) (fun _ => .same _ _ s)
  simp only [State.startable, Bool.and_eq_true, decide_eq_true_eq] at starts
  exact starts.1.2

theorem waitEnded_follows (s : State) (p : Port) : Follows lensParts none s (s.waitEnded p) := by
  unfold State.waitEnded
  refine Follows.ite (fun waits => (fitOrWait_follows s p).close (not_atRest_of_stage ?_)) (fun _ => .same _ _ s)
  simp only [Lens.waitsWindow, Bool.and_eq_true, decide_eq_true_eq] at waits
  rw [waits.1]
  decide

theorem setPending_follows (s : State) (p : Port) (m : Move) : Follows lensParts (some p) s (s.setPending p m) := by
  unfold State.setPending
  extract_lets l
  split
  · exact (lens_follows s p _ rfl).step ((startPending_follows _ p).but _)
  · next old _ =>
    extract_lets t
    have posted : Follows lensParts (some p) s t := (lens_follows s p _ rfl).step (notice_follows _ _ _ _ _ _)
    exact Follows.ite (fun _ => (posted.step (lens_follows _ _ _ rfl)).step (fitOrWait_follows _ p))
      (fun _ => posted.step ((startPending_follows _ p).but _))

/-! ## The sideband bus (R125) -/

theorem busPump_follows (s : State) (p : Port) : Follows lensParts none s (s.busPump p) := by
  unfold State.busPump
  extract_lets l
  refine Follows.ite (fun free => ?_) (fun _ => .same _ _ s)
  have busy : ¬ AtRest s p := not_atRest_of_bus (by rw [show s.lenses[p].bus.state = .free from free]; decide)
  split
  · exact (lens_follows s p _ rfl).close busy
  · exact Follows.ite (fun _ => (beginOrWait_follows s p).close busy) (fun _ => .same _ _ s)

theorem askTxn_follows (s : State) (p : Port) (k : TxnKind) (bytes : List Byte) :
    Follows lensParts (some p) s (s.askTxn p k bytes) :=
  (lens_follows s p _ rfl).step ((busPump_follows _ p).but _)

theorem sendStop_follows (s : State) (p : Port) : Follows lensParts (some p) s (s.sendStop p) := askTxn_follows _ _ _ _

/-! ## The end of a move (R126 to R131) -/

theorem lensRests_follows (s : State) (p : Port) (st : LensState) (position : Axes) (fault : Option LensFault)
    (event : LensEvent) (move : Option Move) :
    Follows lensParts (some p) s (s.lensRests p st position fault event move) :=
  (((lens_follows s p _ rfl).step ((releaseSurge_follows _ p).but _)).step (notice_follows _ _ _ _ _ _)).step
    ((startPending_follows _ p).but _)

theorem startsOver_claim (l : Lens) : l.startsOver.claim = l.claim := by
  unfold Lens.startsOver
  split <;> rfl

theorem afterFailure_follows (s : State) (p : Port) : Follows lensParts (some p) s (s.afterFailure p) := by
  unfold State.afterFailure
  split
  · exact .same _ _ s
  · split
    · exact ((lens_follows s p _ rfl).step ((withdrawLensClaim_follows _ p).but _)).step (notice_follows _ _ _ _ _ _)
    · exact (lens_follows s p _ (startsOver_claim _)).step ((startPending_follows _ p).but _)

theorem lensFails_follows (s : State) (p : Port) (st : LensState) (fault : LensFault) (event : LensEvent) :
    Follows lensParts (some p) s (s.lensFails p st fault event) :=
  (((lens_follows s p _ rfl).step ((releaseSurge_follows _ p).but _)).step (notice_follows _ _ _ _ _ _)).step
    (afterFailure_follows _ p)

theorem moveDone_follows (s : State) (p : Port) (m : Move) (position : Axes) :
    Follows lensParts (some p) s (s.moveDone p m position) :=
  (lens_follows s p _ rfl).step (lensRests_follows _ _ _ _ _ _ _)

theorem reported_follows (s : State) (p : Port) (bytes : List Byte) (x : Option Port) :
    Follows lensParts x s (s.reported p bytes).1 :=
  Follows.ite (fun _ => .same _ _ s) (fun _ => usedFree_follows s x)

theorem settled_follows (s : State) (p : Port) (f : Flight) (bytes : List Byte) :
    Follows lensParts (some p) s (s.settled p f bytes) := by
  unfold State.settled
  split
  · exact moveDone_follows _ _ _ _
  · exact Follows.ite (fun _ => (reported_follows s p bytes _).step (moveDone_follows _ _ _ _))
      (fun _ => (reported_follows s p bytes _).step (lens_follows _ _ _ rfl))

/-! ## The outcomes of a transaction (R126, R128 to R131) -/

/-- The parts that an outcome of a transaction changes: the lens's, and the break table with its evidence. -/
abbrev outcomeParts : List Part := [.power, .supply, .lenses, .freeCount, .table]

theorem Follows.outcome {x : Option Port} {s t : State} (h : Follows lensParts x s t) : Follows outcomeParts x s t :=
  h.mono (by decide)

theorem lensSilent_follows (s : State) (p : Port) (x : Option Port) : Follows outcomeParts x s (s.lensSilent p) :=
  (((lensSilent_changes s p).follows (by decide)).mono (by decide)).but x

theorem silent_follows (s : State) (p : Port) : Follows outcomeParts (some p) s (s.silent p) := by
  unfold State.silent
  extract_lets t
  have cleared : Follows lensParts (some p) s t := lens_follows s p _ rfl
  exact Follows.ite (fun _ => (cleared.step (lensFails_follows _ _ _ _ _)).outcome.step (lensSilent_follows _ _ _))
    (fun _ => cleared.outcome)

theorem noAnswer_follows (s : State) (p : Port) (k : TxnKind) : Follows outcomeParts (some p) s (s.noAnswer p k) := by
  unfold State.noAnswer
  extract_lets t
  have counted : Follows lensParts (some p) s t := lens_follows s p _ rfl
  exact Follows.ite (fun _ => counted.outcome) (fun _ => Follows.ite
    (fun _ => (counted.step (lens_follows _ _ _ rfl)).outcome) (fun _ => counted.outcome.step (silent_follows _ _)))

theorem answered_follows (s : State) (p : Port) : Follows lensParts (some p) s (s.answered p) := lens_follows s p _ rfl

theorem rejected_follows (s : State) (p : Port) (k : TxnKind) : Follows lensParts (some p) s (s.rejected p k) := by
  unfold State.rejected
  extract_lets t l
  have counted : Follows lensParts (some p) s t := (answered_follows s p).step (lens_follows _ p _ rfl)
  split
  · split
    · exact counted
    · exact counted.step (lensRests_follows _ _ _ _ _ _ _)
  · exact Follows.ite (fun _ => counted.step (lensFails_follows _ _ _ _ _)) (fun _ => counted)
  · exact counted
  · exact counted

theorem reportTaken_follows (s : State) (p : Port) (k : TxnKind) (bytes : List Byte) :
    Follows lensParts (some p) s (s.reportTaken p k bytes) := by
  unfold State.reportTaken
  extract_lets t
  have answered : Follows lensParts (some p) s t := answered_follows s p
  refine Follows.ite (fun _ => answered.step (lens_follows _ _ _ rfl)) (fun _ => Follows.ite (fun _ => answered) (fun _ => ?_))
  split
  · split
    · exact answered
    · exact Follows.ite (fun _ => answered) (fun _ => answered.step (settled_follows _ _ _ _))
  · split
    · exact answered
    · exact (answered.step (reported_follows _ p bytes _)).step (lensRests_follows _ _ _ _ _ _ _)
  · exact answered
  · exact answered

theorem acknowledged_follows (s : State) (p : Port) (k : TxnKind) :
    Follows lensParts (some p) s (s.acknowledged p k) := by
  unfold State.acknowledged
  exact Follows.ite (fun _ => (answered_follows s p).step (lens_follows _ _ _ rfl)) (fun _ => answered_follows s p)

theorem arbLimit_follows (s : State) (p : Port) (k : TxnKind) : Follows lensParts (some p) s (s.arbLimit p k) := by
  unfold State.arbLimit
  extract_lets l
  split
  · exact .same _ _ s
  · exact Follows.ite (fun _ => lensFails_follows _ _ _ _ _) (fun _ => .same _ _ s)
  · split
    · exact .same _ _ s
    · exact lensRests_follows _ _ _ _ _ _ _
  · split
    · exact .same _ _ s
    · split <;> exact lensRests_follows _ _ _ _ _ _ _

/-! ## The port's power (R115) and presets (R116) -/

theorem lensOff_follows (s : State) (p : Port) : Follows lensParts (some p) s (s.lensOff p) := by
  have off : Follows lensParts (some p) s ((s.setLens p Lens.off).dropClaim p .lens) :=
    (dropSurge_follows Lens.off _ rfl List.filter_sublist (dropClaim_lens_keeps_power s p)
      (fun c hc hk _ => dropClaim_lens_unclaimed s p c hc hk)).mono (by decide)
  unfold State.lensOff
  exact Follows.ite (fun _ => off) (fun _ => off.step (notice_follows _ _ _ _ _ _))

theorem lensOn_follows (s : State) (p : Port) : Follows lensParts (some p) s (s.lensOn p) := by
  have freed : Follows lensParts (some p) s (s.setLens p (fun l => { l with bus := { state := .free } })) :=
    lens_follows s p _ rfl
  unfold State.lensOn
  exact Follows.ite (fun _ => freed.step (setPending_follows _ _ _))
    (fun _ => freed.step ((startPending_follows _ p).but _))

theorem postPreset_follows (s : State) (p : Port) (index : Fin 8) : Follows lensParts none s (s.postPreset p index) := by
  have posts : (s.lenses[p].state ≠ .unknown ∧ s.lenses[p].state ≠ .absent) → Follows lensParts none s
      (if s.atPreset p index || (s.lenses[p].pending.any (·.isPlanTo index) ||
        s.lenses[p].flight.any (·.move.isPlanTo index)) then s else s.setPending p (s.presetMove p index .plan)) :=
    fun h => Follows.ite (fun _ => .same _ _ s)
      (fun _ => (setPending_follows s p _).close (not_atRest_of_state h.1 h.2))
  unfold State.postPreset
  extract_lets l bound
  split
  case h_1 h => exact posts ⟨by rw [h]; decide, by rw [h]; decide⟩
  case h_2 h => exact posts ⟨by rw [h]; decide, by rw [h]; decide⟩
  case h_3 h => exact posts ⟨by rw [h]; decide, by rw [h]; decide⟩
  all_goals exact .same _ _ s

end Sys2Proof.Power
end

section
/-! PROOFS. -/

namespace Sys2Proof.Power

open Sys2Proof.Machine Sys2Proof.Safety

/-! ## The sweep engine's tests (R160, R161) -/

/-- A change of a lane that leaves DOWN as it is. -/
theorem setLane_follows (s : State) (p : Port) (f : Lane → Lane)
    (down : s.lanes[p].state = .down → (f s.lanes[p]).state = .down) :
    Follows [.lanes, .laneStates] none s (s.setLane p f) where
  toChanges := setLane_changes s p f
  fixed := ⟨rfl, rfl⟩
  supplyKept := rfl
  powers q := .inl rfl
  granted _ q := .inl rfl
  leaves q c := .inl c
  lowKeeps _ := rfl
  powerClaims := .refl _
  rests q _ r := ⟨⟨r.off, r.lens, r.unclaimed⟩, rfl⟩
  lensClaims l := l
  lanesDown q d := by
    rw [State.setLane_lanes, upd_get]
    split
    · next e => exact down (by rw [← get_congr s.lanes e]; exact d)
    · exact d
  funded g := g

/-- The parts that the sweep engine's tests change. -/
abbrev sweepParts : List Part := [.sweeps, .lanes, .laneStates]

theorem sweeps_follows {s t : State} (h : Changes [.sweeps] s t) : Follows sweepParts none s t :=
  (h.follows (by decide)).mono (by decide)

theorem askQuiet_follows (s : State) (p : Port) : Follows sweepParts none s (s.askQuiet p) := by
  have quiets : s.lanes[p].state ≠ .down → ∀ f : Lane → Lane,
      Follows sweepParts none s ((s.laneEnters p .quiet).setLane p f) := fun up f =>
    ((setLane_follows s p (fun l => f { l with state := .quiet, since := s.clock }) (fun d => absurd d up)).mono
      (by decide)).step (by
        have same : (s.laneEnters p .quiet).setLane p f =
            s.setLane p (fun l => f { l with state := .quiet, since := s.clock }) := by
          simp only [State.laneEnters, State.setLane, upd, Vector.set_set, Fin.getElem_fin, Vector.getElem_set_self]
        rw [same]
        exact .same _ _ _)
  unfold State.askQuiet
  split
  case h_1 h => exact quiets (by rw [h]; decide) _
  case h_2 h => exact quiets (by rw [h]; decide) _
  all_goals exact .same _ _ s

theorem beginAcquisition_follows (s : State) (p : Port) : Follows sweepParts none s (s.beginAcquisition p) :=
  (sweeps_follows ((sweeps_changes _ _).step (setResult_changes _ _ _))).step (askQuiet_follows _ p)

theorem sweepTest_follows (s : State) : Follows sweepParts none s s.sweepTest := by
  unfold State.sweepTest
  split
  · exact .same _ _ s
  · exact Follows.ite (fun _ => Follows.ite (fun _ => beginAcquisition_follows _ _)
      (fun _ => sweeps_follows (setResult_changes _ _ _))) (fun _ => sweeps_follows (setResult_changes _ _ _))

theorem sweepResume_follows (s : State) : Follows sweepParts none s s.sweepResume := by
  unfold State.sweepResume
  split
  · exact .same _ _ s
  · exact Follows.ite (fun _ => beginAcquisition_follows _ _) (fun _ => .same _ _ s)

theorem laneLeftQuiet_follows (s : State) (p : Port) : Follows sweepParts none s (s.laneLeftQuiet p) := by
  unfold State.laneLeftQuiet
  split
  · exact .same _ _ s
  · exact Follows.ite (fun _ => Follows.ite (fun _ => sweepTest_follows s) (fun _ => sweepResume_follows s))
      (fun _ => .same _ _ s)

/-! ## The sequencer's operations (R50, R60 to R65, R68) -/

theorem postSlot_follows (s : State) (p : Port) (k : Option (Fin 4 × Slot)) :
    Follows lensParts none s (s.postSlot p k) := by
  unfold State.postSlot
  split
  · exact .same _ _ s
  · split
    · exact .same _ _ s
    · exact postPreset_follows _ _ _

theorem postAfter_follows (s : State) (p : Port) (slot : Fin 4) : Follows lensParts none s (s.postAfter p slot) :=
  Follows.ite (fun _ => .same _ _ s) (fun _ => postSlot_follows _ _ _)

theorem forPorts_follows {F : List Part} {f : Port → State → State} (h : ∀ p s, Follows F none s (f p s)) :
    ∀ (ps : List Port) (s : State), Follows F none s (State.forPorts f ps s)
  | [], s => .same _ _ s
  | p :: ps, s => (h p s).step (forPorts_follows h ps (f p s))

theorem waitsEnd_follows (s : State) (ps : List Port) : Follows lensParts none s (s.waitsEnd ps) :=
  forPorts_follows (fun p t => waitEnded_follows t p) ps s

/-- The parts that the start and the end of a cycle change. -/
abbrev cycleParts : List Part :=
  [.power, .supply, .lenses, .freeCount, .sweeps, .lanes, .laneStates, .seq, .plan, .store, .uplink]

theorem beginCycle_follows {s : State} (inService : s.seq.state.inService = true) (delayed : Bool) :
    Follows cycleParts none s (s.beginCycle delayed) := by
  unfold State.beginCycle
  split
  · exact .same _ _ s
  · extract_lets n last next t
    have counted : Follows cycleParts none s (if last then s.usedFree else s) :=
      Follows.ite (fun _ => (usedFree_follows s none).mono (by decide)) (fun _ => .same _ _ s)
    have seqSame : (if last then s.usedFree else s).seq = s.seq := by split <;> rfl
    have begun : Follows cycleParts none s t :=
      counted.step ((setSeq_follows _ _ (fun _ => by rw [seqSame]; exact ⟨inService, rfl⟩)).mono (by decide))
    exact (begun.step ((forPorts_follows (fun p u => postSlot_follows u p _) _ _).mono (by decide))).step
      ((sweepResume_follows _).mono (by decide))

theorem overrun_follows (s : State) (source : StartSource) : Follows cycleParts none s (s.overrun source) :=
  ((setSeq_follows s (fun q => { q with overruns := sat32 q.overruns }) (fun h => ⟨h, rfl⟩)).mono (by decide)).step
    ((post_follows _ _ _).mono (by simp))

/-- A change of the sequencer that keeps its plan and its plan state. -/
theorem seq_follows (s : State) (f : Sequencer → Sequencer) (h : (f s.seq).state = s.seq.state)
    (hp : (f s.seq).plan = s.seq.plan) : Follows cycleParts none s (s.setSeq f) :=
  (setSeq_follows s f (fun k => ⟨by rw [← h]; exact k, hp⟩)).mono (by decide)

theorem takeStart_follows (s : State) (source : StartSource) : Follows cycleParts none s (s.takeStart source).1 := by
  have pends : ∀ g, Follows cycleParts none s (s.setSeq (fun q => { q with pending := g })) :=
    fun g => seq_follows s _ rfl rfl
  unfold State.takeStart
  split
  · exact .same _ _ s
  · exact .same _ _ s
  · exact seq_follows s (fun q => { q with ignored := sat32 q.ignored }) rfl rfl
  · next armed =>
    split
    · exact overrun_follows _ _
    split
    · exact pends _
    · exact beginCycle_follows (by rw [armed]; rfl) _
  · split
    · exact overrun_follows _ _
    · exact pends _

theorem planEnds_follows (s : State) (cause : PlanCause) : Follows cycleParts none s (s.planEnds cause) := by
  have ended : Follows cycleParts none s
      (s.setSeq (fun q => { q with state := .loaded, current := none, pending := none, nextExpiry := none })) :=
    (setSeq_follows _ _ (fun h => by cases h)).mono (by decide)
  have told := ended.step (((planNotice_changes _ s.seq.state cause).follows (by simp)).mono (by simp))
  have stored := told.step (((storePlanEnded_changes _).follows (by decide)).mono (by decide))
  exact ((stored.step ((walk_follows _).mono (by decide))).step ((waitsEnd_follows _ _).mono (by decide))).step
    ((sweepResume_follows _).mono (by decide))

theorem endCycle_follows (s : State) : Follows cycleParts none s s.endCycle := by
  unfold State.endCycle
  split
  · exact planEnds_follows _ _
  · next running =>
    extract_lets t next
    have armed : Follows cycleParts none s t :=
      (setSeq_follows _ _ (fun _ => ⟨by rw [running]; rfl, rfl⟩)).mono (by decide)
    have begun : Follows cycleParts none s next := by
      cases hp : s.seq.pending with
      | none => simpa only [next, hp] using armed
      | some g =>
        simp only [next, hp]
        exact Follows.ite (fun _ => armed.step (seq_follows _ _ (by rfl) (by rfl))) (fun _ => armed.step (beginCycle_follows rfl _))
    exact (begun.step ((waitsEnd_follows _ _).mono (by decide))).step ((sweepResume_follows _).mono (by decide))
  · exact .same _ _ s
  · exact .same _ _ s
  · exact .same _ _ s

theorem checkCycle_follows (s : State) : Follows cycleParts none s s.checkCycle :=
  Follows.ite (fun _ => endCycle_follows s) (fun _ => (sweepResume_follows s).mono (by decide))

theorem closeExposure_follows (s : State) (p : Port) : Follows [.lanes] none s (s.closeExposure p) :=
  (closeExposure_changes s p).follows (by decide)

theorem exposureEnds_follows (s : State) (p : Port) : Follows cycleParts none s (s.exposureEnds p) := by
  unfold State.exposureEnds
  split
  · exact .same _ _ s
  · extract_lets t posted
    have closed : Follows cycleParts none s t := (closeExposure_follows s p).mono (by decide)
    have told : Follows cycleParts none s posted :=
      Follows.ite (fun _ => closed.step ((postAfter_follows _ _ _).mono (by decide))) (fun _ => closed)
    exact ((told.step ((waitsEnd_follows _ _).mono (by decide))).step ((busPump_follows _ _).mono (by decide))).step
      ((sweepResume_follows _).mono (by decide))

theorem skipSlot_follows (s : State) (p : Port) (slot : Fin 4) (c : Cycle) :
    Follows cycleParts none s (s.skipSlot p slot c) := by
  have missed : Follows cycleParts none s
      (s.setSeq (fun q => { q with missed := upd q.missed slot (fun m => upd m p sat32) })) := seq_follows _ _ (by rfl) (by rfl)
  exact (missed.step (((reportAbsence_changes _ _ _ _ _).follows (by decide)).mono (by decide))).step
    ((postAfter_follows _ _ _).mono (by decide))

end Sys2Proof.Power
end

section
/-!
PROOFS. The invariants of the power side (R6, R11, R20, R27, R31, R115) are kept by whatever follows on a walk, by the
raising of a power claim, and by a port that leaves or enters ON.
-/

namespace Sys2Proof.Power

open Sys2Proof.Machine Sys2Proof.Safety

/-- A port in one of these states may have its claim granted: it holds no reservation and is not LOCKED. -/
def Claimable (st : PowerState) : Prop := st = .off ∨ st = .probing ∨ st = .waiting ∨ st = .cooldown

/-- The power invariants but for the trip counts: a power claim stands for a port in WAITING, or for the port `x` that is
raising it; and the port `z` may have its lane and lens not yet at rest. -/
structure Sound (x z : Option Port) (s : State) : Prop where
  claims : ∀ c ∈ s.supply.claims, c.kind = .power →
    s.power[c.port].state = .waiting ∨ x = some c.port ∧ Claimable s.power[c.port].state
  once : OnceClaimed s
  lanes : ∀ q : Port, z ≠ some q → s.power[q].state ≠ .on → s.lanes[q].state = .down
  lenses : ∀ q : Port, z ≠ some q → s.power[q].state ≠ .on → Resting s.lenses[q]
  lensClaims : LensClaims s
  marks : ShedMarksOff s

theorem Sound.claimable {x z : Option Port} {s : State} (h : Sound x z s) {q : Port} (c : Claimed s q) :
    Claimable s.power[q].state := by
  obtain ⟨d, hd, hk, rfl⟩ := c
  cases h.claims d hd hk with
  | inl waiting => exact .inr (.inr (.inl waiting))
  | inr raising => exact raising.2

theorem Claimable.not_on {st : PowerState} (h : Claimable st) : st ≠ .on := by
  rintro rfl
  simp [Claimable] at h

theorem Claimable.not_locked {st : PowerState} (h : Claimable st) : st ≠ .locked := by
  rintro rfl
  simp [Claimable] at h

/-- A port that is not ON, its lens at rest: no lens claim of it stands. -/
theorem Sound.atRest {x z : Option Port} {s : State} (h : Sound x z s) {q : Port} (hz : z ≠ some q)
    (off : s.power[q].state ≠ .on) : AtRest s q where
  off := off
  lens := h.lenses q hz off
  unclaimed c hc hk e := by
    have standing := h.lensClaims.1 c hc hk
    rw [get_congr s.lenses e, (h.lenses q hz off).claim] at standing
    cases standing

/-- The states of the ports after what follows on a walk. -/
theorem Follows.was_off {F : List Part} {x y z : Option Port} {s t : State} (h : Follows F y s t) (g : Sound x z s)
    {q : Port} (off : t.power[q].state ≠ .on) : s.power[q].state ≠ .on := by
  cases h.powers q with
  | inl same => rwa [← same]
  | inr granted => exact (g.claimable granted.1).not_on

/-- What follows on a walk keeps the power invariants. -/
theorem Follows.sound {F : List Part} {x z : Option Port} {s t : State} (h : Follows F z s t) (g : Sound x z s) :
    Sound x z t where
  claims c hc hk := by
    have mem := h.powerClaims.subset (List.mem_filter.mpr ⟨hc, by simp [Claim.isPower, hk]⟩)
    have stood := g.claims c (List.mem_filter.mp mem).1 hk
    cases h.granted g.once c.port with
    | inl same => rw [same]; exact stood
    | inr gone => exact absurd ⟨c, hc, hk, rfl⟩ gone
  once := List.Nodup.sublist (h.powerClaims.map _) g.once
  lanes q hz off := h.lanesDown q (g.lanes q hz (h.was_off g off))
  lenses q hz off := by
    obtain ⟨rest, -⟩ := h.rests q hz (g.atRest hz (h.was_off g off))
    exact rest.lens
  lensClaims := h.lensClaims g.lensClaims
  marks q mark := by
    cases h.powers q with
    | inl same => rw [same] at mark ⊢; exact g.marks q mark
    | inr granted =>
      rw [granted.2.shedMark] at mark
      split at mark
      · cases mark
      · next h => exact absurd (g.marks q mark) h

end Sys2Proof.Power
end

section
/-! PROOFS. -/

namespace Sys2Proof.Power

open Sys2Proof.Machine Sys2Proof.Safety

/-! ## The invariants together -/

/-- The trip count of a switch agrees with its state (R11). -/
abbrev Trip (w : PortPower) : Prop := w.tripCount ≤ 5 ∧ (w.tripCount = 5 ↔ w.state = .locked)

/-- The invariants of the power side, with the budget where `b` asks for it. -/
structure Safe (b : Prop) (s : State) : Prop where
  trips : Trips s
  sound : Sound none none s
  funded : b → Funded s

theorem safe_iff {b : Prop} {s : State} : Safe b s ↔ PowerSound s ∧ (b → Funded s) := by
  constructor
  · rintro ⟨trips, g, funded⟩
    refine ⟨⟨trips, ⟨fun c hc hk => ?_, g.once⟩, fun q => g.lanes q (by simp), fun q off => ?_, g.lensClaims, g.marks⟩, funded⟩
    · exact (g.claims c hc hk).elim id (fun h => by cases h.1)
    · have r := g.lenses q (by simp) off
      exact ⟨r.state, r.claim, r.stage, r.toBegin, r.flight, r.halt, r.bus⟩
  · rintro ⟨⟨trips, ⟨claims, once⟩, lanes, lenses, lensClaims, marks⟩, funded⟩
    refine ⟨trips, ⟨fun c hc hk => .inl (claims c hc hk), once, fun q _ => lanes q, fun q _ off => ?_, lensClaims, marks⟩,
      funded⟩
    obtain ⟨h1, h2, h3, h4, h5, h6, h7⟩ := lenses q off
    exact ⟨h1, h2, h3, h4, h5, h6, h7⟩

/-- A granted port was not LOCKED, so the trip counts go on agreeing with the states. -/
theorem Follows.trips {F : List Part} {x y z : Option Port} {s t : State} (h : Follows F y s t) (g : Sound x z s)
    (trips : Trips s) : Trips t := by
  intro q
  cases h.powers q with
  | inl same => rw [same]; exact trips q
  | inr granted =>
    have unlocked : s.power[q].tripCount ≠ 5 := fun e => (g.claimable granted.1).not_locked ((trips q).2.mp e)
    rw [granted.2.tripCount, granted.2.state]
    exact ⟨(trips q).1, fun e => absurd e unlocked, fun e => by cases e⟩

theorem Follows.safe {F : List Part} {s t : State} {b : Prop} (h : Follows F none s t) (g : Safe b s) : Safe b t :=
  ⟨h.trips g.sound g.trips, h.sound g.sound, fun k => h.funded (g.funded k)⟩

/-- The exemption of one port may be widened, and ends where the port is ON or its lane and lens are at rest. -/
theorem Sound.open {x : Option Port} {s : State} (g : Sound x none s) (p : Port) : Sound x (some p) s :=
  { g with
    lanes := fun q _ => g.lanes q (by simp)
    lenses := fun q _ => g.lenses q (by simp) }

theorem Sound.close {x : Option Port} {s : State} {p : Port} (g : Sound x (some p) s)
    (rests : s.power[p].state ≠ .on → s.lanes[p].state = .down ∧ Resting s.lenses[p]) : Sound x none s :=
  { g with
    lanes := fun q _ off => by
      by_cases e : q = p
      · rw [e] at off ⊢; exact (rests off).1
      · exact g.lanes q (fun h => e (by cases h; rfl)) off
    lenses := fun q _ off => by
      by_cases e : q = p
      · rw [e] at off ⊢; exact (rests off).2
      · exact g.lenses q (fun h => e (by cases h; rfl)) off }

/-- A port in ON stays ON. -/
theorem Follows.on {F : List Part} {x y z : Option Port} {s t : State} (h : Follows F y s t) (g : Sound x z s) {p : Port}
    (on : s.power[p].state = .on) : t.power[p].state = .on := by
  cases h.powers p with
  | inl same => rw [same]; exact on
  | inr granted => exact absurd on (g.claimable granted.1).not_on

/-- What acts on the lens of a port in ON keeps the invariants. -/
theorem Follows.safe_on {F : List Part} {s t : State} {b : Prop} {p : Port} (h : Follows F (some p) s t) (g : Safe b s)
    (on : s.power[p].state = .on) : Safe b t where
  trips := h.trips g.sound g.trips
  sound := (h.sound (g.sound.open p)).close (fun off => absurd (h.on g.sound on) off)
  funded k := h.funded (g.funded k)

/-- A lens that is not at rest belongs to a port in ON. -/
theorem Safe.on {b : Prop} {s : State} (g : Safe b s) {p : Port} (busy : ¬ AtRest s p) : s.power[p].state = .on := by
  by_contra off
  exact busy (g.sound.atRest (by simp) off)

theorem Follows.safe_busy {F : List Part} {s t : State} {b : Prop} {p : Port} (h : Follows F (some p) s t) (g : Safe b s)
    (busy : ¬ AtRest s p) : Safe b t := h.safe_on g (g.on busy)

/-! ## A change of power state (R1, R2) -/

theorem setPowerState_at (s : State) (p : Port) (new : PowerState) (r : OffReason) :
    (s.setPowerState p new r).power[p] = (s.power[p]).enter (s.profileOf p) s.clock new r := by
  rw [State.setPowerState_power, upd_same]

theorem setPowerState_other (s : State) {p q : Port} (new : PowerState) (r : OffReason) (h : q ≠ p) :
    (s.setPowerState p new r).power[q] = s.power[q] := by
  rw [State.setPowerState_power, upd_other _ _ h]

theorem setPowerState_changes (s : State) (p : Port) (new : PowerState) (r : OffReason) :
    Changes [.power] s (s.setPowerState p new r) :=
  ((setPower_changes _ _ _).trans (portStateNotice_changes _ _ _)).mono (by decide)

/-- A change of one port's power state keeps the invariants, where the port's claim, its lane and its lens suit the new
state. -/
theorem setPowerState_sound {x x' z z' : Option Port} {s : State} {p : Port} {new : PowerState} (r : OffReason)
    (g : Sound x z s) (hx : ∀ q ≠ p, x ≠ some q) (hz : ∀ q ≠ p, z ≠ some q)
    (claim : Claimed s p → new = .waiting ∨ x' = some p ∧ Claimable new)
    (rests : new ≠ .on → z' ≠ some p → s.lanes[p].state = .down ∧ Resting s.lenses[p]) :
    Sound x' z' (s.setPowerState p new r) where
  claims c hc hk := by
    rw [(setPowerState_changes s p new r).supply (by decide)] at hc
    by_cases e : c.port = p
    · rw [get_congr (s.setPowerState p new r).power e, setPowerState_at, e]
      exact claim ⟨c, hc, hk, e⟩
    · rw [setPowerState_other s new r e]
      exact .inl ((g.claims c hc hk).elim id (fun h => absurd h.1 (hx _ e)))
  once := by
    unfold OnceClaimed
    rw [(setPowerState_changes s p new r).supply (by decide)]
    exact g.once
  lanes q hq off := by
    rw [(setPowerState_changes s p new r).lanes (by decide)]
    by_cases e : q = p
    · subst e
      rw [setPowerState_at] at off
      exact (rests off hq).1
    · rw [setPowerState_other s new r e] at off
      exact g.lanes q (hz q e) off
  lenses q hq off := by
    rw [(setPowerState_changes s p new r).lenses (by decide)]
    by_cases e : q = p
    · subst e
      rw [setPowerState_at] at off
      exact (rests off hq).2
    · rw [setPowerState_other s new r e] at off
      exact g.lenses q (hz q e) off
  lensClaims := by
    unfold LensClaims
    rw [(setPowerState_changes s p new r).lenses (by decide), (setPowerState_changes s p new r).supply (by decide)]
    exact g.lensClaims
  marks q mark := by
    by_cases e : q = p
    · subst e
      rw [setPowerState_at] at mark ⊢
      simp only [PortPower.enter, Bool.and_eq_true, decide_eq_true_eq, bne_iff_ne] at mark ⊢
      split at mark
      · cases mark
      · next h =>
        by_contra other
        exact h ⟨g.marks q mark, other⟩
    · rw [setPowerState_other s new r e] at mark ⊢
      exact g.marks q mark

theorem setPowerState_trips {s : State} {p : Port} {new : PowerState} (r : OffReason) (trips : ∀ q ≠ p, Trip s.power[q])
    (trip : s.power[p].tripCount ≤ 5 ∧ (s.power[p].tripCount = 5 ↔ new = .locked)) : Trips (s.setPowerState p new r) := by
  intro q
  by_cases e : q = p
  · subst e
    rw [setPowerState_at]
    exact trip
  · rw [setPowerState_other s new r e]
    exact trips q e

theorem setPowerState_funded {s : State} {p : Port} {new : PowerState} (r : OffReason) (g : Funded s)
    (reserved : new.reserved = true → s.power[p].state.reserved = true) : Funded (s.setPowerState p new r) := by
  have changes := setPowerState_changes s p new r
  have hports := (changes.profiles (by decide)).1
  have le : (s.setPowerState p new r).committed ≤ s.committed := by
    refine committed_le hports (fun q h => ?_) (fun q => ?_)
      (Nat.le_of_eq (strobePart_congr (changes.plan (by decide)).1 (changes.plan (by decide)).2 hports))
    · by_cases e : q = p
      · subst e
        rw [setPowerState_at] at h
        exact reserved h
      · rwa [setPowerState_other s new r e] at h
    · rw [changes.lenses (by decide)]
      exact id
  refine ⟨?_, ?_⟩
  · unfold ClaimNeeds
    rw [changes.supply (by decide), hports]
    exact g.1
  · unfold Budget
    rw [(changes.profiles (by decide)).2]
    exact Nat.le_trans le g.2

/-! ## Raising a power claim (R6) -/

theorem place_isSome (u : Supply) (p : Port) (k : ClaimKind) :
    (u.place p k).isSome = true ↔ ∃ c ∈ u.claims, c.kind = k ∧ c.port = p := by
  simp only [Supply.place, Option.isSome_map, List.findIdx?_isSome, List.any_eq_true, Bool.and_eq_true, decide_eq_true_eq]
  constructor
  · rintro ⟨c, hc, hp, hk⟩
    exact ⟨c, hc, hk, hp⟩
  · rintro ⟨c, hc, hk, hp⟩
    exact ⟨c, hc, hp, hk⟩

/-- The state in which a port's raised claim has been walked. -/
def raised (s : State) (p : Port) : State := (s.joinClaim p .power (s.profileOf p).baseReservation).walk

theorem raised_follows (s : State) (p : Port) :
    Follows lensParts none (s.joinClaim p .power (s.profileOf p).baseReservation) (raised s p) := walk_follows _

/-- A raised claim that is still on the list leaves its port WAITING (R6). -/
theorem raisePowerClaim_waits {s : State} {p : Port} (h : Claimed (raised s p) p) :
    s.raisePowerClaim p = (raised s p).setPowerState p .waiting (raised s p).power[p].reason :=
  if_pos ((place_isSome _ _ _).mpr h)

theorem raisePowerClaim_granted {s : State} {p : Port} (h : ¬ Claimed (raised s p) p) :
    s.raisePowerClaim p = raised s p :=
  if_neg (fun k => h ((place_isSome _ _ _).mp k))

theorem joinClaim_changes (s : State) (p : Port) (k : ClaimKind) (need : Nat) :
    Changes [.supply] s (s.joinClaim p k need) := supply_changes _ _

/-- A port that holds no claim and no reservation may raise its claim. -/
theorem joinClaim_sound {s : State} {p : Port} (g : Sound none none s) (need : Nat) (free : ¬ Claimed s p)
    (claimable : Claimable s.power[p].state) : Sound (some p) none (s.joinClaim p .power need) :=
  { g with
    claims := fun c hc hk => by
      cases mem_insertClaim.mp hc with
      | inl new => rw [new]; exact .inr ⟨rfl, claimable⟩
      | inr old => exact .inl ((g.claims c old hk).elim id (fun h => by cases h.1))
    once := by
      refine ((((insertClaim_perm _ s.supply.claims).filter _).map (·.port)).nodup_iff).mpr ?_
      rw [List.filter_cons_of_pos (by rfl), List.map_cons, List.nodup_cons]
      refine ⟨fun h => ?_, g.once⟩
      obtain ⟨c, hc, e⟩ := List.mem_map.mp h
      rw [List.mem_filter] at hc
      exact free ⟨c, hc.1, by simpa [Claim.isPower] using hc.2, e⟩
    lensClaims := by
      refine ⟨fun c hc hk => ?_, ?_⟩
      · cases mem_insertClaim.mp hc with
        | inl new => rw [new] at hk; cases hk
        | inr old => exact g.lensClaims.1 c old hk
      · rw [State.joinClaim_supply, filter_insertClaim_neg (by rfl)]
        exact g.lensClaims.2 }

theorem joinClaim_funded {s : State} {p : Port} (g : Funded s) :
    Funded (s.joinClaim p .power (s.profileOf p).baseReservation) := by
  refine ⟨fun c hc => ?_, g.2⟩
  cases mem_insertClaim.mp hc with
  | inl new =>
    rw [new]
    exact ⟨fun _ => rfl, fun e => (by cases e)⟩
  | inr old => exact g.1 c old

theorem raisePowerClaim_safe {b : Prop} {s : State} {p : Port} (g : Safe b s)
    (h : s.power[p].state = .off ∨ s.power[p].state = .probing ∨ s.power[p].state = .cooldown) :
    Safe b (s.raisePowerClaim p) := by
  have claimable : Claimable s.power[p].state := by
    rcases h with h | h | h
    · exact .inl h
    · exact .inr (.inl h)
    · exact .inr (.inr (.inr h))
  have free : ¬ Claimed s p := by
    rintro ⟨c, hc, hk, rfl⟩
    have := (g.sound.claims c hc hk).elim id (fun h => by cases h.1)
    rw [this] at h
    simp at h
  have joined := joinClaim_sound g.sound (s.profileOf p).baseReservation free claimable
  have walked := (raised_follows s p).sound joined
  have trips := (raised_follows s p).trips joined g.trips
  have funded : b → Funded (raised s p) := fun k => (raised_follows s p).funded (joinClaim_funded (g.funded k))
  by_cases held : Claimed (raised s p) p
  · rw [raisePowerClaim_waits held]
    have waits := walked.claimable held
    have off : (raised s p).power[p].state ≠ .on := waits.not_on
    refine ⟨setPowerState_trips _ (fun q _ => trips q) ⟨(trips p).1, fun e => ?_, fun e => by cases e⟩,
      setPowerState_sound _ walked (fun q e h => e (by cases h; rfl)) (by simp) (fun _ => .inl rfl)
        (fun _ _ => ⟨walked.lanes p (by simp) off, walked.lenses p (by simp) off⟩),
      fun k => setPowerState_funded _ (funded k) (fun e => by cases e)⟩
    exact absurd ((trips p).2.mp e) waits.not_locked
  · rw [raisePowerClaim_granted held]
    refine ⟨trips, { walked with claims := fun c hc hk => ?_ }, funded⟩
    refine (walked.claims c hc hk).elim .inl (fun h => absurd ⟨c, hc, hk, ?_⟩ held)
    cases h.1
    rfl

end Sys2Proof.Power
end

section
/-!
PROOFS. A port that leaves ON or enters it, a trip, a shed and a recovery keep the invariants of the power side.
-/

namespace Sys2Proof.Power

open Sys2Proof.Machine Sys2Proof.Safety

/-! ## The lane and the lens of a port that leaves ON (R32, R115) -/

theorem closeWindow_closes (s : State) (p : Port) : (s.closeWindow p).lanes[p].window = none := by
  unfold State.closeWindow
  split
  · next h => exact h
  · rw [State.setLane_lanes, upd_same]

theorem cutWindow_closes (s : State) (p : Port) (cut : FrameFlags → FrameFlags) :
    (s.cutWindow p cut).lanes[p].window = none := by
  unfold State.cutWindow
  split
  · next h => exact h
  · exact closeWindow_closes _ _

/-- The parts that a port's leaving ON changes. -/
abbrev leftParts : List Part := .dram :: cycleParts

/-- A lane that is DOWN with no window open. -/
structure LaneRests (l : Lane) : Prop where
  state : l.state = .down
  window : l.window = none
  exposure : l.exposure = none

/-- The parts that a lane's going DOWN changes. -/
abbrev downParts : List Part := .laneStates :: windowParts

theorem laneGoesDown_follows (s : State) (p : Port) : Follows downParts none s (s.laneGoesDown p) := by
  have cut : Follows downParts none s ((s.cutWindow p cutTruncated).closeExposure p) :=
    (((cutWindow_changes s p _).follows (by decide)).mono (by decide)).step
      ((closeExposure_follows _ p).mono (by decide))
  have quiet := cut.step (((setLane_follows _ p (fun l => { l with deadlineAt := none, retryAt := none, retrainAt := none })
    id)).mono (by decide))
  unfold State.laneGoesDown
  exact Follows.ite (fun _ => quiet) (fun _ => (quiet.step ((setLane_follows _ p _ (fun _ => rfl)).mono (by decide))).step
    (((laneNotice_changes _ _ _ _).follows (by simp)).mono (by simp)))

theorem laneGoesDown_rests (s : State) (p : Port) : LaneRests (s.laneGoesDown p).lanes[p] := by
  have cut := cutWindow_closes s p cutTruncated
  have kept : (s.cutWindow p cutTruncated).lanes[p].state = s.lanes[p].state :=
    (cutWindow_changes s p cutTruncated).laneStates (by decide) p
  unfold State.laneGoesDown
  extract_lets prev t d
  have hd : d.lanes[p].window = none ∧ d.lanes[p].exposure = none ∧ d.lanes[p].state = prev := by
    simp only [d, t, State.closeExposure, State.setLane_lanes]
    rw [upd_same, upd_same]
    exact ⟨cut, rfl, kept⟩
  obtain ⟨window, exposure, state⟩ := hd
  split
  · next h => exact ⟨state.trans h, window, exposure⟩
  · have told := (laneNotice_changes (d.laneEnters p .down) p prev .portOff).lanes (by decide)
    rw [(congrArg (fun v : Vector Lane 8 => v[p]) told).trans (upd_same d.lanes p _)]
    exact ⟨rfl, window, exposure⟩

/-- The state in which the lane of a port has gone DOWN and its lens is off. -/
def cutOff (s : State) (p : Port) : State := (s.laneGoesDown p).lensOff p

theorem cutOff_follows (s : State) (p : Port) : Follows leftParts (some p) s (cutOff s p) :=
  (((laneGoesDown_follows s p).mono (by decide)).but _).step ((lensOff_follows _ p).mono (by decide))

theorem cutOff_lane (s : State) (p : Port) : LaneRests (cutOff s p).lanes[p] := by
  unfold cutOff
  rw [(lensOff_follows _ p).lanes (by decide)]
  exact laneGoesDown_rests s p

theorem lensOff_changes (s : State) (p : Port) : Changes [.lenses, .supply] s (s.lensOff p) := by
  have off : Changes [.lenses, .supply] s ((s.setLens p Lens.off).dropClaim p .lens) :=
    (setLens_changes s p _).trans (supply_changes _ _)
  exact Changes.ite (fun _ => off) (fun _ => off.step ((lensNotice_changes _ _ _ _ _).mono (by simp)))

theorem lensOff_lens (s : State) (p : Port) : (s.lensOff p).lenses[p] = s.lenses[p].off := by
  unfold State.lensOff
  extract_lets l t
  have off : t.lenses[p] = s.lenses[p].off := by
    show (upd s.lenses p Lens.off)[p] = _
    rw [upd_same]
  split
  · exact off
  · simp only [(lensNotice_changes t p .portOff (l.flight.map (·.move)) none).lenses (by decide)]
    exact off

theorem lensOff_unclaimed (s : State) (p : Port) : ∀ c ∈ (s.lensOff p).supply.claims, c.kind = .lens → c.port ≠ p := by
  unfold State.lensOff
  extract_lets l t
  have dropped : ∀ c ∈ t.supply.claims, c.kind = .lens → c.port ≠ p := dropClaim_lens_unclaimed _ p
  split
  · exact dropped
  · rw [(lensNotice_changes t p .portOff (l.flight.map (·.move)) none).supply (by decide)]
    exact dropped

theorem cutOff_lens (s : State) (p : Port) : (cutOff s p).lenses[p] = s.lenses[p].off := by
  unfold cutOff
  rw [lensOff_lens, (laneGoesDown_follows s p).lenses (by decide)]

theorem off_resting (l : Lens) : Resting l.off where
  state := by
    by_cases h : l.state = .absent
    · exact .inr (if_pos h)
    · exact .inl (if_neg h)
  claim := rfl
  stage := rfl
  toBegin := rfl
  flight := rfl
  halt := rfl
  bus := rfl

theorem cutOff_atRest {s : State} {p : Port} (off : s.power[p].state ≠ .on) : AtRest (cutOff s p) p where
  off := by
    unfold cutOff
    rw [(lensOff_changes _ p).power (by decide), (laneGoesDown_follows s p).power (by decide)]
    exact off
  lens := by
    rw [cutOff_lens]
    exact off_resting _
  unclaimed := lensOff_unclaimed _ p

/-- What follows once the lane is DOWN and the lens off: the walk, and the tests of the sequencer and the sweep engine. -/
theorem leftOn_follows (s : State) (p : Port) : Follows leftParts none (cutOff s p) (s.leftOn p) :=
  (((((walk_follows _).mono (by decide)).step
    (((discardAcquisitions_changes _ p).follows (by decide)).mono (by decide))).step
    ((checkCycle_follows _).mono (by decide))).step
    ((laneLeftQuiet_follows _ p).mono (by decide))).step ((sweepResume_follows _).mono (by decide))

end Sys2Proof.Power
end

section
/-!
PROOFS. The operations of the power side keep its invariants: a port that goes out of service or enters ON, a trip, a
sample, a shed and a recovery.
-/

namespace Sys2Proof.Power

open Sys2Proof.Machine Sys2Proof.Safety

/-! ## A port out of service (R2, R8) -/

theorem setPower_states {s : State} {p : Port} {f : PortPower → PortPower}
    (state : (f s.power[p]).state = s.power[p].state) (q : Port) :
    (s.setPower p f).power[q].state = s.power[q].state := by
  rw [State.setPower_power, upd_get]
  split
  · next e => rw [state, get_congr s.power e]
  · rfl

/-- A change of a switch that keeps its state and sets no shed mark away from OFF. -/
theorem setPower_sound {x z : Option Port} {s : State} {p : Port} {f : PortPower → PortPower} (g : Sound x z s)
    (state : (f s.power[p]).state = s.power[p].state)
    (mark : (f s.power[p]).shedMark = true → s.power[p].state = .off) : Sound x z (s.setPower p f) where
  claims c hc hk := by rw [setPower_states state]; exact g.claims c hc hk
  once := g.once
  lanes q hz off := by rw [setPower_states state] at off; exact g.lanes q hz off
  lenses q hz off := by rw [setPower_states state] at off; exact g.lenses q hz off
  lensClaims := g.lensClaims
  marks q marked := by
    rw [setPower_states state]
    rw [State.setPower_power, upd_get] at marked
    split at marked
    · next e => rw [get_congr s.power e]; exact mark marked
    · exact g.marks q marked

theorem setPower_funded {s : State} {p : Port} {f : PortPower → PortPower} (g : Funded s)
    (state : (f s.power[p]).state = s.power[p].state) : Funded (s.setPower p f) := by
  have same : (s.setPower p f).committed = s.committed :=
    committed_congr rfl (setPower_states state) (fun _ => rfl) rfl rfl
  refine ⟨g.1, ?_⟩
  unfold Budget
  rw [same]
  exact g.2

theorem setPower_safe {b : Prop} {s : State} {p : Port} {f : PortPower → PortPower} (g : Safe b s)
    (state : (f s.power[p]).state = s.power[p].state) (trip : Trip (f s.power[p]))
    (mark : (f s.power[p]).shedMark = true → s.power[p].state = .off) : Safe b (s.setPower p f) := by
  refine ⟨fun q => ?_, setPower_sound g.sound state mark, fun k => setPower_funded (g.funded k) state⟩
  rw [State.setPower_power, upd_get]
  split
  · exact trip
  · exact g.trips q

/-- The power claims of a port leave the list. -/
theorem dropClaim_power_sound {x : Option Port} {s : State} {p : Port} (g : Sound (some p) none s) :
    Sound x none (s.dropClaim p .power) :=
  { g with
    claims := fun c hc hk => by
      rw [State.dropClaim_supply, List.mem_filter] at hc
      refine (g.claims c hc.1 hk).elim .inl (fun h => ?_)
      have : c.port = p := by cases h.1; rfl
      simp [this, hk] at hc
    once := g.once.sublist ((List.filter_sublist.filter _).map _)
    lensClaims := ⟨fun c hc => g.lensClaims.1 c (List.mem_of_mem_filter hc),
      g.lensClaims.2.sublist ((List.filter_sublist.filter _).map _)⟩ }

theorem dropClaim_funded {s : State} {p : Port} (k : ClaimKind) (g : Funded s) : Funded (s.dropClaim p k) :=
  ⟨fun c hc => g.1 c (List.mem_of_mem_filter hc), g.2⟩

theorem Sound.unclaimed {s : State} (g : Sound none none s) {p : Port} (h : s.power[p].state ≠ .waiting) :
    ¬ Claimed s p := by
  rintro ⟨c, hc, hk, rfl⟩
  exact h ((g.claims c hc hk).elim id (fun e => by cases e.1))

/-- A port in ON whose lane goes DOWN and lens off: the invariants hold again. -/
theorem leftOn_safe {b : Prop} {s : State} {p : Port} (sound : Sound none (some p) s) (trips : Trips s)
    (funded : b → Funded s) (off : s.power[p].state ≠ .on) : Safe b (s.leftOn p) := by
  have cut := cutOff_follows s p
  have rest := cutOff_atRest (p := p) off
  exact (leftOn_follows s p).safe ⟨cut.trips sound trips,
    (cut.sound sound).close (fun _ => ⟨(cutOff_lane s p).state, rest.lens⟩), fun k => cut.funded (funded k)⟩

/-! What `portGoes` does, by the state that the port goes from. -/

theorem portGoes_same {s : State} {p : Port} {new : PowerState} (r : OffReason) (h : s.power[p].state = new) :
    s.portGoes p new r = s.setPower p (fun w => { w with reason := r }) := if_pos h

theorem portGoes_new {s : State} {p : Port} {new : PowerState} (r : OffReason) (h : s.power[p].state ≠ new) :
    s.portGoes p new r = (match s.power[p].state with
      | .on => (s.setPowerState p new r).leftOn p
      | .ramping => (s.setPowerState p new r).walk
      | .waiting => ((s.setPowerState p new r).dropClaim p .power).walk
      | _ => s.setPowerState p new r) := (if_neg h).trans (by rfl)

theorem portGoes_on {s : State} {p : Port} {new : PowerState} (r : OffReason) (h : s.power[p].state = .on)
    (away : new ≠ .on) : s.portGoes p new r = (s.setPowerState p new r).leftOn p := by
  rw [portGoes_new r (by rw [h]; exact away.symm), h]

theorem portGoes_ramping {s : State} {p : Port} {new : PowerState} (r : OffReason) (h : s.power[p].state = .ramping)
    (away : new ≠ .ramping) : s.portGoes p new r = (s.setPowerState p new r).walk := by
  rw [portGoes_new r (by rw [h]; exact away.symm), h]

theorem portGoes_waiting {s : State} {p : Port} {new : PowerState} (r : OffReason) (h : s.power[p].state = .waiting)
    (away : new ≠ .waiting) : s.portGoes p new r = ((s.setPowerState p new r).dropClaim p .power).walk := by
  rw [portGoes_new r (by rw [h]; exact away.symm), h]

/-- A port that neither holds a reservation nor waits for one. -/
abbrev Idle (st : PowerState) : Prop := st = .off ∨ st = .probing ∨ st = .cooldown ∨ st = .locked

theorem portGoes_idle {s : State} {p : Port} {new : PowerState} (r : OffReason) (h : Idle s.power[p].state)
    (away : s.power[p].state ≠ new) : s.portGoes p new r = s.setPowerState p new r := by
  rw [portGoes_new r away]
  rcases h with h | h | h | h <;> rw [h]

theorem idle_or (st : PowerState) : st = .on ∨ st = .ramping ∨ st = .waiting ∨ Idle st := by
  cases st <;> simp [Idle]

/-- A port that goes out of service: the trip count may have been set for the state it goes to. -/
theorem portGoes_safe {b : Prop} {s : State} {p : Port} {new : PowerState} (r : OffReason) (sound : Sound none none s)
    (trips : ∀ q ≠ p, Trip s.power[q])
    (trip : s.power[p].tripCount ≤ 5 ∧ (s.power[p].tripCount = 5 ↔ new = .locked)) (funded : b → Funded s)
    (free : new.reserved = false) (held : s.power[p].state = .waiting → Claimable new) :
    Safe b (s.portGoes p new r) := by
  have ttrips : Trips (s.setPowerState p new r) := setPowerState_trips r trips trip
  have tfunded : b → Funded (s.setPowerState p new r) := fun k =>
    setPowerState_funded r (funded k) (fun e => by rw [free] at e; cases e)
  have rested : ∀ x, s.power[p].state ≠ .on → (Claimed s p → new = .waiting ∨ x = some p ∧ Claimable new) →
      Sound x none (s.setPowerState p new r) := fun x off claim =>
    setPowerState_sound r sound (by simp) (by simp) claim
      (fun _ _ => ⟨sound.lanes p (by simp) off, sound.lenses p (by simp) off⟩)
  have unheld : s.power[p].state ≠ .on → s.power[p].state ≠ .waiting → Safe b (s.setPowerState p new r) :=
    fun off unheld => ⟨ttrips, rested none off (fun c => absurd c (sound.unclaimed unheld)), tfunded⟩
  by_cases same : s.power[p].state = new
  · rw [portGoes_same r same]
    have agrees : Trip s.power[p] := ⟨trip.1, trip.2.trans (by rw [← same])⟩
    refine setPower_safe ⟨fun q => ?_, sound, funded⟩ rfl agrees (sound.marks p)
    by_cases e : q = p
    · rw [e]; exact agrees
    · exact trips q e
  rcases idle_or s.power[p].state with on | ramping | waiting | idle
  · have away : new ≠ .on := by rintro rfl; cases free
    rw [portGoes_on r on away]
    have tsound : Sound none (some p) (s.setPowerState p new r) := setPowerState_sound r sound (by simp) (by simp)
      (fun c => absurd c (sound.unclaimed (by rw [on]; decide))) (fun _ h => absurd rfl h)
    refine leftOn_safe tsound ttrips tfunded ?_
    rw [setPowerState_at]
    exact away
  · rw [portGoes_ramping r ramping (by rintro rfl; cases free)]
    exact (walk_follows _).safe (unheld (by rw [ramping]; decide) (by rw [ramping]; decide))
  · rw [portGoes_waiting r waiting (by rintro rfl; exact same waiting)]
    have dropped : Sound none none ((s.setPowerState p new r).dropClaim p .power) :=
      dropClaim_power_sound (rested (some p) (by rw [waiting]; decide) (fun _ => .inr ⟨rfl, held waiting⟩))
    exact (walk_follows _).safe ⟨ttrips, dropped, fun k => dropClaim_funded _ (tfunded k)⟩
  · rw [portGoes_idle r idle same]
    exact unheld (by rintro h; rw [h] at idle; simp [Idle] at idle) (by rintro h; rw [h] at idle; simp [Idle] at idle)

/-! ## A port that enters ON (R8) -/

theorem laneEntersOn_changes (s : State) (p : Port) : Changes [.lanes, .laneStates] s (s.laneEntersOn p) :=
  Changes.ite (fun _ => setLane_changes _ _ _)
    (fun _ => ((setLane_changes _ _ _).step (setLane_changes _ _ _)).step ((laneNotice_changes _ _ _ _).mono (by simp)))

/-- The lane of a port in ON may take any state; another stays DOWN. -/
theorem setLane_safe {b : Prop} {s : State} {p : Port} (f : Lane → Lane) (g : Safe b s)
    (down : s.power[p].state ≠ .on → (f s.lanes[p]).state = .down) : Safe b (s.setLane p f) :=
  ⟨g.trips, { g.sound with
    lanes := fun q z off => by
      rw [State.setLane_lanes, upd_get]
      split
      · next e => exact down (by rw [← get_congr s.power e]; exact off)
      · exact g.sound.lanes q z off }, g.funded⟩

theorem post_safe {b : Prop} {s : State} (port : Option Port) (body : NoticeBody) (g : Safe b s) :
    Safe b (s.post port body) := (post_follows s port body).safe g

theorem laneEntersOn_safe {b : Prop} {s : State} {p : Port} (g : Safe b s) (on : s.power[p].state = .on) :
    Safe b (s.laneEntersOn p) := by
  unfold State.laneEntersOn State.laneFirstTraining
  split
  · exact setLane_safe _ g (absurd on)
  · exact post_safe _ _ (setLane_safe _ (setLane_safe _ g (absurd on)) (absurd on))

theorem portEntersOn_safe {b : Prop} {s : State} {p : Port} (g : Safe b s) (ramping : s.power[p].state = .ramping) :
    Safe b (s.portEntersOn p) := by
  have open_ : s.power[p].state ≠ .waiting := by rw [ramping]; decide
  have entered : Safe b (s.setPowerState p .on s.power[p].reason) :=
    ⟨setPowerState_trips _ (fun q _ => g.trips q)
        ⟨(g.trips p).1, fun e => absurd ((g.trips p).2.mp e) (by rw [ramping]; decide), fun e => (by cases e)⟩,
      setPowerState_sound _ g.sound (by simp) (by simp) (fun c => absurd c (g.sound.unclaimed open_))
        (fun h => absurd rfl h),
      fun k => setPowerState_funded _ (g.funded k) (fun _ => by rw [ramping]; rfl)⟩
  have on : (s.setPowerState p .on s.power[p].reason).power[p].state = .on := by
    rw [setPowerState_at]
    rfl
  have trained := laneEntersOn_safe entered on
  have lens := (lensOn_follows _ p).safe_on trained (by rw [(laneEntersOn_changes _ p).power (by decide)]; exact on)
  exact (sweepResume_follows _).safe (((discardAcquisitions_changes _ p).follows (by decide)).safe lens)

/-! ## Trips, samples and probes (R4, R5, R9 to R14) -/

theorem openLoad_safe {b : Prop} {s : State} {p : Port} (g : Safe b s) (reserved : s.power[p].state.reserved = true) :
    Safe b (s.openLoad p) := by
  have unlocked : s.power[p].tripCount ≠ 5 := fun e => by
    rw [(g.trips p).2.mp e] at reserved
    cases reserved
  exact ((powerOpen_changes _ p).follows (by decide)).safe (portGoes_safe _ g.sound (fun q _ => g.trips q)
    ⟨(g.trips p).1, fun e => absurd e unlocked, fun e => by cases e⟩ g.funded rfl
    (fun h => by rw [h] at reserved; cases reserved))

theorem trip_safe {b : Prop} {s : State} {p : Port} (g : Safe b s) (reserved : s.power[p].state.reserved = true)
    (cause : TripCause) (current : Nat) : Safe b (s.trip p cause current) := by
  unfold State.trip
  extract_lets count new reason counted told
  have agrees : count ≤ 5 ∧ (count = 5 ↔ new = .locked) := by
    refine ⟨Nat.min_le_left _ _, fun h => if_pos h, fun h => ?_⟩
    by_contra other
    rw [show new = .cooldown from if_neg other] at h
    cases h
  have free : new.reserved = false := by
    by_cases h : count = 5
    · rw [show new = .locked from if_pos h]; rfl
    · rw [show new = .cooldown from if_neg h]; rfl
  have told_changes : Changes [] counted told := post_changes _ _ _
  have sound : Sound none none told :=
    (post_follows _ _ _).sound (setPower_sound (f := fun w => { w with tripCount := count, decayAt := _ })
      g.sound rfl (g.sound.marks p))
  have funded : b → Funded told := fun k => (post_follows _ _ _).funded (setPower_funded (g.funded k) rfl)
  have tripped : told.power[p].state = s.power[p].state ∧ told.power[p].tripCount = count := by
    simp only [told_changes.power (by decide), counted, State.setPower_power]
    rw [upd_same]
    exact ⟨rfl, rfl⟩
  have others : ∀ q ≠ p, Trip told.power[q] := fun q e => by
    simp only [told_changes.power (by decide), counted, State.setPower_power]
    rw [upd_other _ _ e]
    exact g.trips q
  refine ((tripEvidence_changes _ p count).follows (by decide)).safe
    (portGoes_safe reason sound others ?_ funded free (fun h => ?_))
  · rw [tripped.2]
    exact agrees
  · rw [tripped.1] at h
    rw [h] at reserved
    cases reserved

/-- A change of a switch's timers, runs and samples. -/
theorem setPower_minor {b : Prop} {s : State} (p : Port) {f : PortPower → PortPower} (g : Safe b s)
    (same : ∀ w, (f w).state = w.state ∧ (f w).tripCount = w.tripCount ∧ (f w).shedMark = w.shedMark) :
    Safe b (s.setPower p f) := by
  obtain ⟨state, count, mark⟩ := same s.power[p]
  refine setPower_safe g state ?_ ?_
  · unfold Trip
    rw [state, count]
    exact g.trips p
  · rw [mark]
    exact g.sound.marks p

theorem overdrawCheck_safe {b : Prop} {s : State} (p : Port) (g : Safe b s) : Safe b (s.overdrawCheck p) := by
  unfold State.overdrawCheck
  extract_lets average base
  split
  · split
    · exact setPower_minor p g (fun _ => ⟨rfl, rfl, rfl⟩)
    · exact g
  · split
    · exact post_safe _ _ (setPower_minor p g (fun _ => ⟨rfl, rfl, rfl⟩))
    · exact g

theorem sample_safe {b : Prop} {s : State} (p : Port) (milliamps : Nat) (g : Safe b s) : Safe b (s.sample p milliamps) := by
  unfold State.sample
  extract_lets st v t run
  have taken : Safe b t := setPower_minor p g (fun _ => ⟨rfl, rfl, rfl⟩)
  have ran : Safe b run := setPower_minor p taken (fun _ => ⟨rfl, rfl, rfl⟩)
  split
  · split
    · exact overdrawCheck_safe p (setPower_minor p ran (fun _ => ⟨rfl, rfl, rfl⟩))
    · exact ran
  · exact taken

theorem probeResult_safe {b : Prop} {s : State} {p : Port} (milliamps : Nat) (g : Safe b s)
    (probing : s.power[p].state = .probing) : Safe b (s.probeResult p milliamps) := by
  unfold State.probeResult
  extract_lets t was u u' told
  have ended : Safe b t := setPower_minor p g (fun _ => ⟨rfl, rfl, rfl⟩)
  split
  · have absent : Safe b u := setPower_minor p ended (fun _ => ⟨rfl, rfl, rfl⟩)
    split
    · exact post_safe _ _ absent
    · exact absent
  · split
    · have present : Safe b u' := setPower_minor p ended (fun _ => ⟨rfl, rfl, rfl⟩)
      have told_changes : Changes [] u' told :=
        Changes.ite (fun _ => .refl u') (fun _ => attachNotice_changes _ _ _)
      have told_safe : Safe b told := (told_changes.follows (by simp)).safe present
      have still : told.power[p].state = .probing := by
        rw [told_changes.power (by decide), setPower_states rfl, setPower_states rfl]
        exact probing
      split
      · exact raisePowerClaim_safe told_safe (.inr (.inl still))
      · exact told_safe
    · exact ((powerShort_changes _ _ _).follows (by decide)).safe ended

/-! ## What a port's going does to the switches -/

/-- What follows when a port has gone to its new state and its power claim has left the list. -/
theorem portGoes_follows {s : State} {p : Port} {new : PowerState} (r : OffReason) (h : s.power[p].state ≠ new)
    (free : new.reserved = false) : ∃ u, Follows leftParts (some p) u (s.portGoes p new r) ∧
      u.power = (s.setPowerState p new r).power ∧ u.supply.low = s.supply.low ∧ (∀ q, Claimed u q → Claimed s q) ∧
      (s.power[p].state = .waiting → ¬ Claimed u p) := by
  have supply := (setPowerState_changes s p new r).supply (by decide)
  have claimed : ∀ q, Claimed (s.setPowerState p new r) q → Claimed s q := fun q c => by
    unfold Claimed at c
    rwa [supply] at c
  rcases idle_or s.power[p].state with on | ramping | waiting | idle
  · rw [portGoes_on r on (by rintro rfl; cases free)]
    exact ⟨_, (cutOff_follows _ p).step ((leftOn_follows _ p).but _), rfl, by rw [supply], claimed,
      fun w => by rw [on] at w; cases w⟩
  · rw [portGoes_ramping r ramping (by rintro rfl; cases free)]
    exact ⟨_, ((walk_follows _).mono (by decide)).but _, rfl, by rw [supply], claimed,
      fun w => by rw [ramping] at w; cases w⟩
  · rw [portGoes_waiting r waiting (by rintro rfl; exact h waiting)]
    refine ⟨_, ((walk_follows _).mono (by decide)).but _, rfl, by rw [State.dropClaim_supply, supply], ?_, fun _ => ?_⟩
    · rintro q ⟨c, hc, hk, e⟩
      exact claimed q ⟨c, List.mem_of_mem_filter hc, hk, e⟩
    · rintro ⟨c, hc, hk, e⟩
      rw [State.dropClaim_supply, List.mem_filter] at hc
      simp [e, hk] at hc
  · rw [portGoes_idle r idle h]
    exact ⟨_, .same _ _ _, rfl, by rw [supply], claimed, fun w => by rw [w] at idle; simp [Idle] at idle⟩

/-- The switch of the port itself. -/
theorem portGoes_at {s : State} {p : Port} {new : PowerState} (r : OffReason) (h : s.power[p].state ≠ new)
    (free : new.reserved = false) (unclaimed : s.power[p].state ≠ .waiting → ¬ Claimed s p) :
    (s.portGoes p new r).power[p] = (s.power[p]).enter (s.profileOf p) s.clock new r := by
  obtain ⟨u, follows, power, -, claimed, dropped⟩ := portGoes_follows r h free
  have at_p : u.power[p] = (s.power[p]).enter (s.profileOf p) s.clock new r := by
    rw [power, setPowerState_at]
  refine (follows.powers p).elim (fun same => same.trans at_p) (fun granted => absurd granted.1 ?_)
  by_cases waiting : s.power[p].state = .waiting
  · exact dropped waiting
  · exact fun c => unclaimed waiting (claimed p c)

/-- Another port's switch changes only by the grant of its claim. -/
theorem portGoes_other {s : State} {p q : Port} {new : PowerState} (r : OffReason) (free : new.reserved = false)
    (h : q ≠ p) : (s.portGoes p new r).power[q] = s.power[q] ∨
      Claimed s q ∧ Granted s.power[q] (s.portGoes p new r).power[q] := by
  by_cases same : s.power[p].state = new
  · rw [portGoes_same r same]
    exact .inl (upd_other _ _ h)
  · obtain ⟨u, follows, power, -, claimed, -⟩ := portGoes_follows r same free
    have at_q : u.power[q] = s.power[q] := by rw [power, setPowerState_other s new r h]
    rw [← at_q]
    exact (follows.powers q).imp id (fun granted => ⟨claimed q granted.1, granted.2⟩)

/-- While the supply is LOW no claim is granted. -/
theorem portGoes_low {s : State} {p q : Port} {new : PowerState} (r : OffReason) (free : new.reserved = false)
    (h : q ≠ p) (low : s.supply.low.isSome = true) : (s.portGoes p new r).power[q] = s.power[q] := by
  by_cases same : s.power[p].state = new
  · rw [portGoes_same r same]
    exact upd_other _ _ h
  · obtain ⟨u, follows, power, kept, -, -⟩ := portGoes_follows r same free
    rw [follows.lowKeeps (by rw [kept]; exact low), power, setPowerState_other s new r h]

/-! ## The supply monitor (R25 to R27) -/

/-- A change of the supply that keeps the claim list. -/
theorem supply_safe {b : Prop} {s : State} {u : Supply} (g : Safe b s) (claims : u.claims = s.supply.claims) :
    Safe b { s with supply := u } := by
  obtain ⟨trips, sound, funded⟩ := g
  refine ⟨trips, ⟨?_, ?_, sound.lanes, sound.lenses, ?_, sound.marks⟩, fun k => ⟨?_, (funded k).2⟩⟩
  · rw [claims]; exact sound.claims
  · unfold OnceClaimed; rw [claims]; exact sound.once
  · unfold LensClaims; rw [claims]; exact sound.lensClaims
  · unfold ClaimNeeds; rw [claims]; exact (funded k).1

theorem shed_safe {b : Prop} {s : State} {p : Port} (g : Safe b s) (unlocked : s.power[p].state ≠ .locked) :
    Safe b (State.shed p s) := by
  have gone : Safe b (s.portGoes p .off .shed) := portGoes_safe _ g.sound (fun q _ => g.trips q)
    ⟨(g.trips p).1, fun e => absurd ((g.trips p).2.mp e) unlocked, fun e => (by cases e)⟩ g.funded rfl
    (fun _ => .inl rfl)
  have off : (s.portGoes p .off .shed).power[p].state = .off := by
    by_cases h : s.power[p].state = .off
    · rw [portGoes_same _ h, setPower_states rfl]
      exact h
    · rw [portGoes_at _ h rfl g.sound.unclaimed]
      rfl
  exact setPower_safe gone rfl (gone.trips p) (fun _ => off)

theorem shed_other {s : State} {p q : Port} (h : q ≠ p) :
    (State.shed p s).power[q].state = s.power[q].state ∨ (State.shed p s).power[q].state = .ramping := by
  have kept : (State.shed p s).power[q] = (s.portGoes p .off .shed).power[q] := upd_other _ _ h
  rw [kept]
  exact (portGoes_other _ rfl h).imp (fun e => by rw [e]) (fun granted => granted.2.state)

theorem shedAll_safe {b : Prop} : ∀ {ps : List Port} {s : State}, ps.Nodup → Safe b s →
    (∀ p ∈ ps, s.power[p].state ≠ .locked) → Safe b (State.forPorts State.shed ps s)
  | [], _, _, g, _ => g
  | p :: ps, s, once, g, unlocked => by
    obtain ⟨fresh, rest⟩ := List.nodup_cons.mp once
    show Safe b (State.forPorts State.shed ps (State.shed p s))
    refine shedAll_safe rest (shed_safe g (unlocked p List.mem_cons_self)) (fun q hq => ?_)
    have other : q ≠ p := fun e => fresh (e ▸ hq)
    exact (shed_other other).elim (fun e => by rw [e]; exact unlocked q (List.mem_cons_of_mem _ hq))
      (fun e => by rw [e]; decide)

theorem portsWhere_nodup (f : Port → Bool) : (portsWhere f).Nodup := List.Nodup.filter _ (by decide)

theorem mem_portsWhere {f : Port → Bool} {p : Port} : p ∈ portsWhere f ↔ f p = true := by
  unfold portsWhere
  rw [List.mem_filter]
  exact ⟨fun h => h.2, fun h => ⟨mem_allPorts p, h⟩⟩

theorem reserved_unlocked {st : PowerState} (h : st.reserved = true) : st ≠ .locked := by
  rintro rfl
  cases h

theorem becomeLow_safe {b : Prop} {s : State} (g : Safe b s) : Safe b s.becomeLow := by
  refine post_safe _ _ (shedAll_safe (portsWhere_nodup _) (supply_safe g rfl) (fun p hp => reserved_unlocked ?_))
  have := mem_portsWhere.mp hp
  rw [Bool.and_eq_true] at this
  exact this.1

theorem fullCheck_safe {b : Prop} {s : State} (millivolts : Nat) (g : Safe b s) : Safe b (s.fullCheck millivolts) := by
  unfold State.fullCheck
  extract_lets _ _ t
  have measured : Safe b (s.measured millivolts) := supply_safe g rfl
  have looked : Safe b t := supply_safe measured rfl
  split
  · exact post_safe _ _ (shedAll_safe (portsWhere_nodup _) (supply_safe looked rfl)
      (fun p hp => reserved_unlocked (mem_portsWhere.mp hp)))
  · exact looked

theorem raisePowerClaim_other {s : State} {p q : Port} (h : q ≠ p) :
    (s.raisePowerClaim p).power[q] = s.power[q] ∨ Claimed s q ∧ Granted s.power[q] (s.raisePowerClaim p).power[q] := by
  have kept : (s.raisePowerClaim p).power[q] = (raised s p).power[q] := by
    by_cases held : Claimed (raised s p) p
    · rw [raisePowerClaim_waits held, setPowerState_other _ _ _ h]
    · rw [raisePowerClaim_granted held]
  rw [kept]
  refine ((raised_follows s p).powers q).imp id (fun granted => ⟨?_, granted.2⟩)
  obtain ⟨c, hc, hk, e⟩ := granted.1
  refine ⟨c, (mem_insertClaim.mp hc).resolve_left (fun new => h ?_), hk, e⟩
  rw [← e, new]

theorem raiseShed_safe {b : Prop} {s : State} {p : Port} (g : Safe b s) (off : s.power[p].state = .off) :
    Safe b (State.raiseShed p s) := by
  have cleared : Safe b (s.setPower p (fun w => { w with shedMark := false })) :=
    setPower_safe g rfl (g.trips p) (fun e => by cases e)
  exact raisePowerClaim_safe cleared (.inl (by rw [setPower_states rfl]; exact off))

theorem raiseShed_other {s : State} {p q : Port} (h : q ≠ p) :
    (State.raiseShed p s).power[q] = s.power[q] ∨ Claimed s q ∧ Granted s.power[q] (State.raiseShed p s).power[q] := by
  have kept : (s.setPower p (fun w => { w with shedMark := false })).power[q] = s.power[q] := upd_other _ _ h
  rw [← kept]
  exact raisePowerClaim_other h

theorem raiseAll_safe {b : Prop} : ∀ {ps : List Port} {s : State}, ps.Nodup → Safe b s →
    (∀ p ∈ ps, s.power[p].state = .off) → Safe b (State.forPorts State.raiseShed ps s)
  | [], _, _, g, _ => g
  | p :: ps, s, once, g, off => by
    obtain ⟨fresh, rest⟩ := List.nodup_cons.mp once
    show Safe b (State.forPorts State.raiseShed ps (State.raiseShed p s))
    refine raiseAll_safe rest (raiseShed_safe g (off p List.mem_cons_self)) (fun q hq => ?_)
    have off_q := off q (List.mem_cons_of_mem _ hq)
    have other : q ≠ p := fun e => fresh (e ▸ hq)
    rw [(raiseShed_other other).resolve_right
      (fun granted => g.sound.unclaimed (by rw [off_q]; decide) granted.1)]
    exact off_q

theorem mem_byPriority {s : State} {f : Port → Bool} {p : Port} (h : p ∈ s.byPriority f) : f p = true := by
  obtain ⟨k, -, hp⟩ := List.mem_flatMap.mp h
  have := mem_portsWhere.mp hp
  rw [Bool.and_eq_true] at this
  exact this.1

theorem byPriority_nodup (s : State) (f : Port → Bool) : (s.byPriority f).Nodup := by
  refine List.nodup_flatMap.mpr ⟨fun k _ => portsWhere_nodup _, ?_⟩
  refine List.Pairwise.imp ?_ (show ([3, 2, 1, 0] : List Nat).Nodup by decide)
  intro a b differ p ha hb
  have pa := mem_portsWhere.mp ha
  have pb := mem_portsWhere.mp hb
  rw [Bool.and_eq_true, decide_eq_true_eq] at pa pb
  exact differ (pa.2.symm.trans pb.2)

theorem recover_safe {b : Prop} {s : State} (g : Safe b s) : Safe b s.recover := by
  unfold State.recover
  extract_lets marked _ t
  have normal : Safe b ({ s with supply := { s.supply with low := none, fullCheckAt := none } } : State) := supply_safe g rfl
  have told := post_safe none (.supply .recovered s.supply.millivolts marked) normal
  have walked : Safe b t := (walk_follows _).safe told
  split
  · exact walked
  · refine raiseAll_safe (byPriority_nodup s _) walked (fun p hp => ?_)
    have off := g.sound.marks p (mem_byPriority hp)
    have same : t.power[p] = s.power[p] := by
      have kept := ((walk_follows _).powers p).resolve_right (fun granted => told.sound.unclaimed
        (by rw [(post_changes _ _ _).power (by decide), off]; decide) granted.1)
      rw [kept, (post_changes _ _ _).power (by decide)]
    rw [same]
    exact off

end Sys2Proof.Power
end

section
/-!
PROOFS. The commands of the lanes, the sequencer, the lenses, the breaks and the sweeps keep the invariants of the power
side.
-/

namespace Sys2Proof.Power

open Sys2Proof.Machine Sys2Proof.Safety

theorem Changes.safe {b : Prop} {F : List Part} {s t : State} (h : Changes F s t) (away : ∀ a ∈ powerSide, a ∉ F)
    (g : Safe b s) : Safe b t := (h.follows away).safe g

/-- A lane that is not DOWN belongs to a port in ON. -/
theorem Safe.lane_on {b : Prop} {s : State} (g : Safe b s) {p : Port} (up : s.lanes[p].state ≠ .down) :
    s.power[p].state = .on := by
  by_contra off
  exact up (g.sound.lanes p (by simp) off)

/-! ## Training (R33 to R35) -/

theorem setLane_keeps_safe {b : Prop} {s : State} {p : Port} {f : Lane → Lane} (g : Safe b s)
    (h : (f s.lanes[p]).state = s.lanes[p].state) : Safe b (s.setLane p f) :=
  (setLane_keeps_state s p f h).safe (by decide) g

theorem lockReached_safe {b : Prop} {s : State} {p : Port} (g : Safe b s) (on : s.power[p].state = .on) :
    Safe b (s.lockReached p) :=
  setLane_keeps_safe (post_safe _ _ (setLane_keeps_safe (setLane_safe _ g (absurd on)) (by rfl))) (by rfl)

theorem lockLoss_changes (s : State) (p : Port) : Changes [.lanes, .monitor] s (s.lockLoss p) :=
  ((laneCount_changes s p _).mono (by decide)).step (laneDataError_changes _ p)

theorem failedRunUp_safe {b : Prop} {s : State} (p : Port) (g : Safe b s) : Safe b (s.failedRunUp p) := by
  unfold State.failedRunUp
  split
  · exact setLane_keeps_safe g (by rfl)
  · exact (usedFree_changes _).safe (by decide) (setLane_keeps_safe g (by rfl))

theorem trainingFails_safe {b : Prop} {s : State} (p : Port) (g : Safe b s) : Safe b (s.trainingFails p) := by
  unfold State.trainingFails
  extract_lets t
  have failed : Safe b t :=
    failedRunUp_safe p ((lockLoss_changes _ p).safe (by decide) (setLane_keeps_safe (setLane_safe _ g (fun _ => rfl)) (by rfl)))
  split
  · exact post_safe _ _ failed
  · exact failed

theorem startTraining_safe {b : Prop} {s : State} {p : Port} (start : Time) (g : Safe b s) (on : s.power[p].state = .on) :
    Safe b (s.startTraining p start) := setLane_safe _ g (absurd on)

theorem losesLock_safe {b : Prop} {s : State} {p : Port} (g : Safe b s) (on : s.power[p].state = .on) :
    Safe b (s.losesLock p) := by
  unfold State.losesLock
  extract_lets t
  have lost : Safe b (s.lockLoss p) := (lockLoss_changes s p).safe (by decide) g
  have trains : Safe b t := post_safe _ _ (startTraining_safe _ lost (by
    rw [(lockLoss_changes s p).power (by decide)]
    exact on))
  split
  · exact trains
  · exact (closeFrame_changes _ _ _ _).safe (by decide) ((laneDataError_changes _ _).safe (by decide)
      ((laneCount_changes _ _ _).safe (by decide) trains))

theorem retrained_safe {b : Prop} {s : State} {p : Port} (hasLock : Bool) (g : Safe b s) (on : s.power[p].state = .on) :
    Safe b (s.retrained p hasLock) := by
  refine (laneLeftQuiet_follows _ p).safe ?_
  split
  · exact setLane_keeps_safe (setLane_safe _ g (absurd on)) (by rfl)
  · exact post_safe _ _ (startTraining_safe _ g on)

theorem laneAfterAcquisition_safe {b : Prop} {s : State} (a : Acquisition) (g : Safe b s) :
    Safe b (s.laneAfterAcquisition a) := by
  unfold State.laneAfterAcquisition
  extract_lets l
  split
  · exact setLane_keeps_safe g (by rfl)
  · split
    · next due =>
      refine startTraining_safe _ g ?_
      simp only [State.retryDue, Bool.and_eq_true, decide_eq_true_eq] at due
      exact due.1.1.1
    · split
      · next h =>
        rw [Bool.and_eq_true, decide_eq_true_eq] at h
        exact post_safe _ _ (setLane_safe _ (setLane_safe _ g (absurd h.1)) (absurd h.1))
      · exact g
  · exact g
  · exact g

/-! ## The camera's packets and the windows (R38, R40 to R44) -/

/-- The parts that the reception at a lane changes. -/
abbrev receptionParts : List Part := .monitor :: windowParts

theorem count_changes (s : State) (p : Port) (f : LaneCounts → LaneCounts) : Changes receptionParts s (s.laneCount p f) :=
  (laneCount_changes s p f).mono (by decide)

theorem lane_changes (s : State) (p : Port) (f : Lane → Lane) (h : (f s.lanes[p]).state = s.lanes[p].state) :
    Changes receptionParts s (s.setLane p f) := (setLane_keeps_state s p f h).mono (by decide)

theorem openWindowFrame_changes (s : State) (p : Port) (w : RxWindow) :
    Changes receptionParts s (s.openWindowFrame p w) := by
  unfold State.openWindowFrame
  extract_lets q
  split
  · exact ((((setStore_changes _ _).mono (by decide)).step (lane_changes _ _ _ (by rfl))).step
      (lane_changes _ _ _ (by rfl))).step (count_changes _ _ _)
  · exact ((lane_changes _ _ _ (by rfl)).step (count_changes _ _ _)).step ((dropFrame_changes _ _).mono (by decide))

theorem takeFrameStart_changes (s : State) (p : Port) (tag : Byte) (width height depth : Nat) :
    Changes receptionParts s (s.takeFrameStart p tag width height depth) := by
  unfold State.takeFrameStart
  split
  · exact count_changes _ _ _
  · split
    · exact Changes.ite (fun _ => openWindowFrame_changes _ _ _) (fun _ => count_changes _ _ _)
    · exact count_changes _ _ _
    · exact count_changes _ _ _

theorem storeLine_changes (s : State) (p : Port) (f : RxFrame) (number : Nat) (bytes : List Byte) (crc : BitVec 32) :
    Changes receptionParts s (s.storeLine p f number bytes crc) := by
  unfold State.storeLine
  extract_lets values stored clamped bad written _ framed counted
  have wrote : Changes receptionParts s written := (dram_changes _ _).mono (by decide)
  have framed_changes : Changes receptionParts s framed := wrote.step (lane_changes _ _ _ (by rfl))
  have counted_changes : Changes receptionParts s counted :=
    Changes.ite (fun _ => framed_changes.step (count_changes _ _ _)) (fun _ => framed_changes)
  exact Changes.ite (fun _ => (counted_changes.step (count_changes _ _ _)).step
    ((laneDataError_changes _ _).mono (by decide))) (fun _ => counted_changes)

theorem takeLine_changes (s : State) (p : Port) (number : Nat) (pixels : List Byte) (crc : BitVec 32) :
    Changes receptionParts s (s.takeLine p number pixels crc) := by
  unfold State.takeLine State.takeFrameLine
  split
  · exact count_changes _ _ _
  · split
    · exact count_changes _ _ _
    · exact (Changes.refl s).mono (by simp)
    · split
      · exact count_changes _ _ _
      · exact Changes.ite (fun _ => storeLine_changes _ _ _ _ _ _) (fun _ => lane_changes _ _ _ (by rfl))

theorem endFrame_changes (s : State) (p : Port) (f : RxFrame) (lineCount : Nat) :
    Changes receptionParts s (s.endFrame p f lineCount) :=
  (count_changes _ _ _).step ((closeFrame_changes _ _ _ _).mono (by decide))

theorem takeFrameEnd_safe {b : Prop} {s : State} (p : Port) (tag : Byte) (lineCount : Nat) (g : Safe b s) :
    Safe b (s.takeFrameEnd p tag lineCount) := by
  have errs : Safe b (s.protocolError p) := (count_changes _ _ _).safe (by decide) g
  have closes : ∀ t, Safe b t → Safe b (t.closeWindow p).checkCycle := fun t h =>
    (checkCycle_follows _).safe ((closeWindow_changes _ _).safe (by decide) h)
  unfold State.takeFrameEnd
  split
  · exact (count_changes _ _ _).safe (by decide) g
  · split
    · exact errs
    · split
      · exact closes _ g
      · exact errs
    · split
      · refine closes _ ?_
        split
        · exact g
        · exact (endFrame_changes _ _ _ _).safe (by decide) g
      · exact errs

/-! ## The plan (R51 to R66) -/

theorem link_safe {b : Prop} {s : State} (l : Link) (g : Safe b s) : Safe b { s with link := l } :=
  ⟨g.trips, ⟨g.sound.claims, g.sound.once, g.sound.lanes, g.sound.lenses, g.sound.lensClaims, g.sound.marks⟩, g.funded⟩

theorem answer_safe {b : Prop} {s : State} (st : Status) (fields : List Byte) (g : Safe b s) :
    Safe b (s.answer st fields) := link_safe _ g

theorem reply_safe {b : Prop} {s : State} (st : Status) (g : Safe b s) : Safe b (s.reply st) := link_safe _ g

/-- A change of the sequencer away from service. -/
theorem setSeq_rest_safe {b : Prop} {s : State} (f : Sequencer → Sequencer) (g : Safe b s)
    (rests : (f s.seq).state.inService = false) : Safe b (s.setSeq f) :=
  (setSeq_follows s f (fun h => by rw [rests] at h; cases h)).safe g

theorem planLoad_safe {b : Prop} {s : State} (body : List Byte) (g : Safe b s) : Safe b (s.planLoad body) := by
  unfold State.planLoad
  split
  · exact reply_safe _ g
  · split
    · exact reply_safe _ g
    · split
      · exact answer_safe _ _ g
      · exact answer_safe _ _ ((sweepResume_follows _).safe (post_safe _ _ (setSeq_rest_safe _ g rfl)))

/-- The plan comes into service where the strobe reservation fits (R23, R55). -/
theorem armed_safe {b : Prop} {s : State} (f : Sequencer → Sequencer) (g : Safe b s) (plan : (f s.seq).plan = s.seq.plan)
    (fits : s.committed + s.strobeReservation ≤ s.settings.capacity) :
    Safe b (s.setSeq f) := by
  refine ⟨g.trips, ⟨g.sound.claims, g.sound.once, g.sound.lanes, g.sound.lenses, g.sound.lensClaims, g.sound.marks⟩,
    fun k => ⟨(g.funded k).1, Nat.le_trans ?_ fits⟩⟩
  have base : (s.setSeq f).basePart = s.basePart := rfl
  have surge : (s.setSeq f).surgePart = s.surgePart := rfl
  have strobe : (s.setSeq f).strobePart ≤ s.strobeReservation := by
    have same : (s.setSeq f).strobeReservation = s.strobeReservation := by
      simp only [State.strobeReservation, Sequencer.slots, State.setSeq_seq, plan, State.profileOf]
      rfl
    unfold State.strobePart
    rw [same]
    split
    · exact Nat.le_refl _
    · exact Nat.zero_le _
  unfold State.committed
  omega

theorem planArm_safe {b : Prop} {s : State} (g : Safe b s) : Safe b s.planArm := by
  unfold State.planArm
  split
  · split
    · exact answer_safe _ _ g
    · split
      · exact answer_safe _ _ g
      · next fits =>
        have room : s.committed + s.strobeReservation ≤ s.settings.capacity := by
          rw [Bool.or_eq_true, decide_eq_true_eq, not_or, Nat.not_lt] at fits
          exact fits.2
        refine answer_safe _ _ ?_
        unfold State.armPlan
        extract_lets t
        have armed : Safe b t := post_safe _ _ (armed_safe _ g rfl room)
        split
        · exact (takeStart_follows t .timer).safe armed
        · exact (sweepResume_follows t).safe armed
  · exact reply_safe _ g

theorem planStop_safe {b : Prop} {s : State} (g : Safe b s) : Safe b s.planStop := by
  unfold State.planStop
  split
  · exact reply_safe _ ((planEnds_follows s .stop).safe g)
  · next running =>
    have stopped : Safe b (s.setSeq (fun q => { q with state := .stopping, pending := none, nextExpiry := none })) :=
      (setSeq_follows s _ (fun _ => ⟨by rw [running]; rfl, rfl⟩)).safe g
    exact reply_safe _ ((sweepResume_follows _).safe (post_safe _ _ stopped))
  all_goals exact reply_safe _ g

theorem abortLane_changes (p : Port) (s : State) : Changes windowParts s (State.abortLane p s) :=
  (cutWindow_changes s p _).step ((closeExposure_changes _ p).mono (by decide))

theorem busPumps_follows (ps : List Port) (s : State) :
    Follows lensParts none s (State.forPorts (fun p t => t.busPump p) ps s) :=
  forPorts_follows (fun p t => busPump_follows t p) ps s

theorem planAbort_safe {b : Prop} {s : State} (g : Safe b s) : Safe b s.planAbort := by
  unfold State.planAbort
  split
  · have cut := (forPorts_changes abortLane_changes (portsWhere s.seq.marks) s).safe (by decide) g
    exact reply_safe _ ((busPumps_follows _ _).safe ((planEnds_follows _ .abort).safe cut))
  · exact reply_safe _ g

theorem planClear_safe {b : Prop} {s : State} (g : Safe b s) : Safe b s.planClear := by
  unfold State.planClear
  split
  · exact reply_safe _ ((sweepResume_follows _).safe (post_safe _ _ (setSeq_rest_safe _ g rfl)))
  all_goals exact reply_safe _ g

theorem planFire_safe {b : Prop} {s : State} (g : Safe b s) : Safe b s.planFire := by
  have fires : Safe b (if s.seq.lineTrigger then
      let r := s.takeStart .fire
      r.1.answer .ok (num1 r.2.code)
    else s.reply .wrongState) := by
    split
    · exact answer_safe _ _ ((takeStart_follows s .fire).safe g)
    · exact reply_safe _ g
  unfold State.planFire
  split
  · exact fires
  · exact fires
  all_goals exact reply_safe _ g

theorem trigger_safe {b : Prop} {s : State} (p : Port) (q : TriggerRequest) (g : Safe b s) : Safe b (s.trigger p q) := by
  unfold State.trigger
  extract_lets tag exposureEnd t
  have opened : Safe b t := setLane_keeps_safe g (by rfl)
  split
  · exact setPower_minor p opened (fun _ => ⟨rfl, rfl, rfl⟩)
  · exact opened

theorem dispatchPort_safe {b : Prop} {s : State} (slot : Fin 4) (k : Slot) (c : Cycle) (p : Port) (g : Safe b s) :
    Safe b (State.dispatchPort slot k c p s) := by
  unfold State.dispatchPort State.sendTrigger
  split
  · exact g
  · split
    · split
      · exact (seq_follows _ (fun q => { q with current := q.current.map (fun d => { d with
          windows := d.windows ++ [(slot, p)] }) }) rfl rfl).safe (trigger_safe _ _ ((deadlineClose_changes _ _).safe (by decide) g))
      · exact (skipSlot_follows _ _ _ _).safe g
    · exact (skipSlot_follows _ _ _ _).safe g

theorem forPorts_safe {b : Prop} {f : Port → State → State} (h : ∀ p s, Safe b s → Safe b (f p s)) :
    ∀ (ps : List Port) (s : State), Safe b s → Safe b (State.forPorts f ps s)
  | [], _, g => g
  | p :: ps, s, g => forPorts_safe h ps (f p s) (h p s g)

theorem dispatch_safe {b : Prop} {s : State} (slot : Fin 4) (k : Slot) (c : Cycle) (g : Safe b s) :
    Safe b (s.dispatch slot k c) :=
  (checkCycle_follows _).safe (forPorts_safe (fun p _ h => dispatchPort_safe slot k c p h) _ _
    ((seq_follows _ _ (by rfl) (by rfl)).safe g))

/-! ## The lenses (R117 to R132) -/

/-- A change of a lens that keeps its claim, and leaves it at rest where it was. -/
theorem setLens_safe {b : Prop} {s : State} {p : Port} {f : Lens → Lens} (g : Safe b s)
    (claim : (f s.lenses[p]).claim = s.lenses[p].claim) (rests : Resting s.lenses[p] → Resting (f s.lenses[p])) :
    Safe b (s.setLens p f) := by
  have follows := setLens_follows s p f claim
  refine ⟨follows.trips g.sound g.trips, (follows.sound (g.sound.open p)).close (fun off => ?_),
    fun k => follows.funded (g.funded k)⟩
  refine ⟨g.sound.lanes p (by simp) off, ?_⟩
  rw [State.setLens_lenses, upd_same]
  exact rests (g.sound.lenses p (by simp) off)

/-- A move may become pending on any lens: one at rest only keeps it. -/
theorem setPending_safe {b : Prop} {s : State} (p : Port) (m : Move) (g : Safe b s) : Safe b (s.setPending p m) := by
  by_cases rest : AtRest s p
  · have pends : ∀ f : Lens → Lens, (∀ l, (f l).claim = l.claim ∧ (Resting l → Resting (f l))) → Safe b (s.setLens p f) :=
      fun f h => setLens_safe g (h _).1 (h _).2
    unfold State.setPending
    extract_lets l
    split
    · exact (startPending_follows _ p).safe (pends _ (fun l => ⟨rfl, fun r => { r with }⟩))
    · extract_lets t
      have told : Safe b t := post_safe _ _ (pends _ (fun l => ⟨rfl, fun r => { r with }⟩))
      rw [if_neg (by rw [show l.toBegin = false from rest.lens.toBegin]; decide)]
      exact (startPending_follows _ p).safe told
  · exact (setPending_follows s p m).safe_busy g rest

theorem lensMove_safe {b : Prop} {s : State} (body : List Byte) (g : Safe b s) : Safe b (s.lensMove body) := by
  unfold State.lensMove State.takeMove
  split
  · exact reply_safe _ g
  · split
    · exact reply_safe _ g
    · split
      · exact reply_safe _ g
      · split
        · split
          · exact reply_safe _ (setPending_safe _ _ g)
          · exact answer_safe _ _ (setPending_safe _ _ g)
        · exact reply_safe _ g

theorem lensPreset_safe {b : Prop} {s : State} (body : List Byte) (g : Safe b s) : Safe b (s.lensPreset body) := by
  unfold State.lensPreset
  split
  · split
    · exact reply_safe _ g
    · exact reply_safe _ (setPending_safe _ _ g)
  · exact reply_safe _ g

theorem lensHome_safe {b : Prop} {s : State} (body : List Byte) (g : Safe b s) : Safe b (s.lensHome body) := by
  unfold State.lensHome
  split
  · exact reply_safe _ g
  · split
    · exact reply_safe _ g
    · exact reply_safe _ (setPending_safe _ _ g)

theorem haltPending_safe {b : Prop} {s : State} (p : Port) (g : Safe b s) : Safe b (s.haltPending p) :=
  (withdrawLensClaim_follows _ p).safe
    (setLens_safe g rfl (fun r => ⟨r.state, r.claim, rfl, rfl, r.flight, r.halt, r.bus⟩))

theorem beginHaltRead_follows (s : State) (p : Port) (move : Option Move) :
    Follows lensParts (some p) s (s.beginHaltRead p move) :=
  (lens_follows s p _ rfl).step (askTxn_follows _ _ _ _)

theorem haltEnds_follows (s : State) (p : Port) (move : Option Move) : Follows lensParts none s (s.haltEnds p move) :=
  (releaseSurge_follows s p).step (notice_follows _ _ _ _ _ _)

theorem ends_follows (s : State) (p : Port) (st : LensState) (position : Axes) :
    Follows lensParts (some p) s (s.setLens p (fun l => l.ends st position none)) := lens_follows _ _ _ rfl

theorem haltLens_safe {b : Prop} {s : State} (p : Port) (g : Safe b s) : Safe b (s.haltLens p) := by
  unfold State.haltLens
  extract_lets t flight move
  have halted : Safe b t := haltPending_safe p g
  have moving : ∀ u, Follows lensParts (some p) t u → t.lenses[p].state ≠ .unknown → t.lenses[p].state ≠ .absent →
      Safe b u := fun u h known present => h.safe_busy halted (not_atRest_of_state known present)
  have stopped : Safe b (t.stopIfOn p) := by
    unfold State.stopIfOn
    split
    · next on => exact (sendStop_follows t p).safe_on halted on
    · exact halted
  have at_rest := (haltEnds_follows (t.stopIfOn p) p none).safe stopped
  split
  case h_1 h => exact moving _ (beginHaltRead_follows _ _ _) (by rw [h]; decide) (by rw [h]; decide)
  case h_2 h =>
    split
    · exact moving _ ((ends_follows _ _ _ _).step ((haltEnds_follows _ _ _).but _)) (by rw [h]; decide) (by rw [h]; decide)
    · exact moving _ (((lens_follows t p _ rfl).step (sendStop_follows _ p)).step (beginHaltRead_follows _ _ _))
        (by rw [h]; decide) (by rw [h]; decide)
  case h_3 h =>
    exact moving _ (((ends_follows _ _ _ _).step (sendStop_follows _ p)).step ((haltEnds_follows _ _ _).but _))
      (by rw [h]; decide) (by rw [h]; decide)
  case h_7 => exact halted
  all_goals exact at_rest

theorem lensHalt_safe {b : Prop} {s : State} (body : List Byte) (g : Safe b s) : Safe b (s.lensHalt body) := by
  unfold State.lensHalt
  split
  · exact reply_safe _ g
  · split
    · exact reply_safe _ g
    · split
      · exact reply_safe _ g
      · exact reply_safe _ (haltLens_safe _ g)

theorem poll_follows (s : State) (p : Port) (f : Flight) : Follows lensParts (some p) s (s.poll p f) := by
  unfold State.poll
  extract_lets t
  have next : Follows lensParts (some p) s t := lens_follows s p _ rfl
  exact Follows.ite (fun _ => Follows.ite (fun _ => next.step (askTxn_follows _ _ _ _))
    (fun _ => next.step (askTxn_follows _ _ _ _))) (fun _ => next)

theorem stall_follows (s : State) (p : Port) (fault : LensFault) : Follows lensParts (some p) s (s.stall p fault) :=
  (lens_follows s p _ rfl).step (lensFails_follows _ _ _ _ _)

theorem haltPoll_follows (s : State) (p : Port) (h : HaltRead) : Follows lensParts (some p) s (s.haltPoll p h) := by
  unfold State.haltPoll
  extract_lets t
  have next : Follows lensParts (some p) s t := lens_follows s p _ rfl
  exact Follows.ite (fun _ => next) (fun _ => next.step (askTxn_follows _ _ _ _))

theorem busFree_follows (s : State) (p : Port) : Follows lensParts (some p) s (s.busFree p) := lens_follows s p _ rfl

theorem txnOutcome_follows (s : State) (p : Port) (k : TxnKind) (o : BusOutcome) :
    Follows outcomeParts (some p) s (s.txnOutcome p k o) := by
  cases o with
  | ack => exact (acknowledged_follows s p k).outcome
  | noAnswer => exact noAnswer_follows s p k
  | rejected => exact (rejected_follows s p k).outcome
  | report bytes => exact (reportTaken_follows s p k bytes).outcome

theorem hang_follows (s : State) (p : Port) (stop : Bool) : Follows lensParts (some p) s (s.hang p stop) := by
  unfold State.hang
  split
  · exact .same _ _ s
  · exact .same _ _ s
  · exact Follows.ite (fun _ => .same _ _ s) (fun _ => lensFails_follows _ _ _ _ _)
  all_goals exact lensFails_follows _ _ _ _ _

theorem enterRecovery_follows (s : State) (p : Port) : Follows lensParts (some p) s (s.enterRecovery p) :=
  (lens_follows s p _ rfl).step (lens_follows _ p _ rfl)

theorem loseBus_follows (s : State) (p : Port) (t : Txn) : Follows lensParts (some p) s (s.loseBus p t) := by
  unfold State.loseBus
  extract_lets u
  have counted : Follows lensParts (some p) s u := lens_follows s p _ rfl
  exact Follows.ite (fun _ => counted.step (lens_follows _ p _ rfl))
    (fun _ => (counted.step (lens_follows _ p _ rfl)).step (arbLimit_follows _ _ _))

theorem headActs_follows (s : State) (p : Port) (m : HeadMessage) : Follows lensParts (some p) s (s.headActs p m) := by
  unfold State.headActs
  split
  · exact Follows.ite (fun _ => stall_follows _ _ _) (fun _ => .same _ _ s)
  · split
    · exact .same _ _ s
    · exact .same _ _ s
    all_goals exact (sendStop_follows s p).step (lensFails_follows _ _ _ _ _)

theorem headMessage_follows (s : State) (p : Port) (bytes : List Byte) :
    Follows lensParts (some p) s (s.headMessage p bytes) := by
  unfold State.headMessage
  refine Follows.ite (fun _ => ?_) (fun _ => .same _ _ s)
  split
  · exact lens_follows s p _ rfl
  · exact ((lens_follows s p _ rfl).step (((post_follows _ _ _).but _).mono (by simp))).step (headActs_follows _ _ _)

/-! ## Breaks and sweeps (chapters 7 and 8) -/

/-- The parts of the break table, the monitor and the sweep engine. -/
abbrev tableParts : List Part := [.table, .monitor, .sweeps, .settings]

theorem judgeAbove_changes (s : State) (p : Port) : Changes tableParts s (s.judgeAbove p) := by
  unfold State.judgeAbove
  extract_lets e sub counted
  have counted_changes : Changes tableParts s counted :=
    ((submitEvidence_changes _ _ _ _).mono (by decide)).step ((setEvidence_changes _ _ _).mono (by decide))
  split
  · exact counted_changes
  · extract_lets confirmed masked
    have confirmed_changes : Changes tableParts s confirmed :=
      Changes.ite (fun _ => counted_changes.step ((confirmBreak_changes _ _).mono (by decide))) (fun _ => counted_changes)
    have masked_changes : Changes tableParts s masked := confirmed_changes.step ((setBreak_changes _ _ _).mono (by decide))
    split
    · exact Changes.ite (fun _ => masked_changes.step ((autoSweep_changes _ _ _).mono (by decide)))
        (fun _ => masked_changes)
    · exact masked_changes

theorem judgeQuiet_changes (s : State) (p : Port) : Changes tableParts s (s.judgeQuiet p) := by
  unfold State.judgeQuiet
  extract_lets t
  have quieted : Changes tableParts s t := (setEvidence_changes _ _ _).mono (by decide)
  refine Changes.ite (fun _ => ?_) (fun _ => quieted)
  split
  · exact quieted.step ((clearBreak_changes _ _).mono (by decide))
  · exact quieted

theorem judgePort_changes (p : Port) (s : State) : Changes tableParts s (State.judgePort p s) :=
  (Changes.ite (fun _ => judgeAbove_changes s p) (fun _ => judgeQuiet_changes s p)).step
    ((setEvidence_changes _ _ _).mono (by decide))

theorem beginWindow_changes (s : State) : Changes [.monitor] s s.beginWindow := by
  constructor
  case link => exact ⟨[], by simp, .refl _⟩
  all_goals simp [State.beginWindow]

theorem restartCounts_changes (p : Port) (s : State) : Changes [.monitor] s (State.restartCounts p s) :=
  setEvidence_changes _ _ _

theorem clearWhere_safe {b : Prop} {s : State} (f : BreakRecord → Bool) (g : Safe b s) : Safe b (s.clearWhere f) :=
  answer_safe _ _ ((forPorts_changes restartCounts_changes _ _).safe (by decide)
    ((forPlaces_changes clearBreak_changes _ _).safe (by decide) g))

theorem breakClear_safe {b : Prop} {s : State} (body : List Byte) (g : Safe b s) : Safe b (s.breakClear body) := by
  unfold State.breakClear
  extract_lets target
  split
  · split
    · exact clearWhere_safe _ g
    · exact reply_safe _ g
  · split
    · exact clearWhere_safe _ g
    · exact reply_safe _ g
  · exact clearWhere_safe _ g
  · exact reply_safe _ g

theorem submitFaults_changes (p : Port) (st : BreakState) (sweep : Nat) (segment : Segment) :
    ∀ (rs : List Reflection) (s : State), Changes [.table] s (State.submitFaults p st sweep segment rs s).1
  | [], s => (Changes.refl s).mono (by simp)
  | r :: rs, s => by
    unfold State.submitFaults
    split
    · exact (submitReflection_changes _ _ _ _ _ _ _).step (submitFaults_changes p st sweep segment rs _)
    · exact submitFaults_changes p st sweep segment rs s

theorem endFaultSweep_changes (s : State) (w : Sweep) (outcome : SweepState) (found : List Reflection)
    (calibration required : Nat) : Changes tableParts s (s.endFaultSweep w outcome found calibration required) := by
  unfold State.endFaultSweep
  extract_lets p kept reported st sub nearest located
  have submitted : Changes tableParts s sub.1 := (submitFaults_changes _ _ _ _ _ _).mono (by decide)
  have located_changes : Changes tableParts s located := by
    unfold located
    clear_value nearest
    split
    · split
      · exact Changes.ite (fun _ => submitted.step ((locate_changes _ _ _).mono (by decide))) (fun _ => submitted)
      · exact submitted
    · exact submitted
  exact located_changes.step ((endSweep_changes _ _ _ _).mono (by decide))

theorem endBaselineSweep_changes (s : State) (w : Sweep) (outcome : SweepState) (found : List Reflection)
    (calibration required : Nat) : Changes tableParts s (s.endBaselineSweep w outcome found calibration required) := by
  unfold State.endBaselineSweep
  extract_lets p reported judged couplers finish
  have ends : ∀ t v rs, Changes tableParts t (finish t v rs) := fun t v rs => (endSweep_changes _ _ _ _).mono (by decide)
  clear_value judged
  split
  · exact ends _ _ _
  · refine Changes.ite (fun _ => Changes.step ?_ (ends _ _ _)) (fun _ => ends _ _ _)
    exact Changes.mono (G := tableParts) (settings_keep_profiles s _ ⟨rfl, rfl⟩) (by decide)

theorem analysed_changes (s : State) (w : Sweep) : Changes tableParts s (s.analysed w) := by
  unfold State.analysed
  extract_lets n outcome required found calibration
  split
  · exact endFaultSweep_changes _ _ _ _ _ _
  · exact endBaselineSweep_changes _ _ _ _ _ _

theorem gatheringEnds_changes (s : State) (w : Sweep) : Changes [.sweeps] s (s.gatheringEnds w) :=
  Changes.ite (fun _ => (dropAcquisition_changes s).step (beginAnalysis_changes _ w)) (fun _ => endSweep_changes _ _ _ _)

theorem calibrated_follows (s : State) (w : Sweep) (count : Nat) : Follows sweepParts none s (s.calibrated w count) :=
  Follows.ite (fun _ => (sweeps_follows ((setSweep_changes _ _).step (setResult_changes _ _ _))).step (sweepTest_follows _))
    (fun _ => sweeps_follows (endSweep_changes _ _ _ _))

theorem gather_changes (s : State) (a : Acquisition) (deviations : List Int) :
    Changes [.sweeps] s (s.gather a deviations) :=
  Changes.ite (fun _ => (setSweep_changes _ _).step (setResult_changes _ _ _)) (fun _ => (Changes.refl s).mono (by simp))

theorem sweepAfterAcquisition_follows (s : State) (p : Port) : Follows sweepParts none s (s.sweepAfterAcquisition p) := by
  unfold State.sweepAfterAcquisition
  split
  · exact sweeps_follows (takeNextSweep_changes s)
  · exact Follows.ite (fun _ => sweeps_follows (beginAnalysis_changes _ _))
      (fun _ => Follows.ite (fun _ => .same _ _ s) (fun _ => laneLeftQuiet_follows s p))

theorem acquisitionEnds_safe {b : Prop} {s : State} (a : Acquisition) (deviations : List Int) (g : Safe b s) :
    Safe b (s.acquisitionEnds a deviations) :=
  (sweepAfterAcquisition_follows _ _).safe (laneAfterAcquisition_safe a
    ((gather_changes _ a deviations).safe (by decide) ((sweeps_changes s _).safe (by decide) g)))

theorem sweepRequest_safe {b : Prop} {s : State} (body : List Byte) (g : Safe b s) : Safe b (s.sweepRequest body) := by
  unfold State.sweepRequest
  split
  · exact reply_safe _ g
  · split
    · exact reply_safe _ g
    · split
      · exact reply_safe _ g
      · split
        · exact answer_safe _ _ ((sweeps_changes _ _).safe (by decide) g)
        · exact answer_safe _ _ ((joinSweepQueue_changes _ _).safe (by decide) g)

theorem sweepCancel_safe {b : Prop} {s : State} (body : List Byte) (g : Safe b s) : Safe b (s.sweepCancel body) := by
  unfold State.sweepCancel
  split
  · exact reply_safe _ g
  · split
    · exact reply_safe _ ((sweeps_changes _ _).safe (by decide) g)
    · split
      · exact reply_safe _ ((endSweep_changes _ _ _ _).safe (by decide) g)
      · exact reply_safe _ g

theorem settings_safe {b : Prop} {s : State} {x : Settings} (g : Safe b s)
    (h : x.ports = s.settings.ports ∧ x.capacity = s.settings.capacity) : Safe b { s with settings := x } :=
  (settings_keep_profiles s x h).safe (by decide) g

end Sys2Proof.Power
end

section
/-!
PROOFS. The requests of chapter 1, the resets and the profile store keep the invariants of the power side; and so does
every step (R6, R11, R19, R20, R27, R31, R115).
-/

namespace Sys2Proof.Power

open Sys2Proof.Machine Sys2Proof.Safety

/-! ## The requests of chapter 1 -/

theorem reprobe_keeps (w : PortPower) (old new : PortProfile) (now : Time) :
    (w.reprobe old new now).state = w.state ∧ (w.reprobe old new now).tripCount = w.tripCount ∧
    (w.reprobe old new now).shedMark = w.shedMark := by
  unfold PortPower.reprobe
  split
  · split
    · split <;> exact ⟨rfl, rfl, rfl⟩
    · exact ⟨rfl, rfl, rfl⟩
  · exact ⟨rfl, rfl, rfl⟩

theorem rekind_resting {l : Lens} (old new : LensKind) (r : Resting l) : Resting (l.rekind old new) := by
  unfold Lens.rekind
  split
  · exact ⟨.inr rfl, r.claim, rfl, rfl, r.flight, r.halt, r.bus⟩
  · split
    · exact ⟨.inl rfl, r.claim, r.stage, r.toBegin, r.flight, r.halt, r.bus⟩
    · exact r

theorem rekind_claim (l : Lens) (old new : LensKind) : (l.rekind old new).claim = l.claim := by
  unfold Lens.rekind
  split
  · rfl
  · split <;> rfl

/-- A port's profile replaced, where nothing is reserved for the port. -/
theorem setProfile_funded {s : State} {p : Port} (f : PortProfile) (g : Sound none none s)
    (free : s.power[p].state.reserved = false) (unclaimed : s.power[p].state ≠ .waiting)
    (unmarked : s.seq.state.inService = true → s.seq.marks p = false) (funded : Funded s) :
    Funded { s with settings := { s.settings with ports := upd s.settings.ports p (fun _ => f) } } := by
  have off : s.power[p].state ≠ .on := fun e => by rw [e] at free; cases free
  have rest := g.atRest (q := p) (by simp) off
  have others : ∀ q : Port, q ≠ p → (upd s.settings.ports p (fun _ => f))[q] = s.settings.ports[q] :=
    fun q e => upd_other _ _ e
  refine ⟨fun c hc => ?_, ?_⟩
  · have away : c.port ≠ p := fun e => by
      cases hk : c.kind with
      | power => exact g.unclaimed unclaimed ⟨c, hc, hk, e⟩
      | lens => exact rest.unclaimed c hc hk e
    show (_ → c.need = ((upd s.settings.ports p (fun _ => f))[c.port]).baseReservation) ∧
      (_ → c.need = ((upd s.settings.ports p (fun _ => f))[c.port]).lensSurge)
    rw [others c.port away]
    exact funded.1 c hc
  · refine Nat.le_trans (Nat.add_le_add (Nat.add_le_add (sumPorts_le (fun q => ?_)) (sumPorts_le (fun q => ?_))) ?_)
      funded.2
    · by_cases e : q = p
      · rw [if_neg (by rw [e, free]; decide)]
        exact Nat.zero_le _
      · simp only [State.profileOf, others q e, le_refl]
    · by_cases e : q = p
      · rw [if_neg (by rw [e]; exact fun k => by rw [rest.lens.claim] at k; cases k)]
        exact Nat.zero_le _
      · simp only [State.profileOf, others q e, le_refl]
    · unfold State.strobePart
      by_cases h : s.seq.state.inService = true
      · rw [if_pos h, if_pos h]
        refine sumPorts_le (fun q => ?_)
        by_cases e : q = p
        · have none_marks : s.seq.slots.any (fun k => k.marks p && 0 < k.used) = false := by
            rw [List.any_eq_false]
            intro k hk
            have := List.any_eq_false.mp (unmarked h) k hk
            simp [this]
          rw [if_neg (by rw [e, none_marks]; decide)]
          exact Nat.zero_le _
        · simp only [State.profileOf, others q e, le_refl]
      · rw [if_neg h, if_neg h]

/-- A port that takes a new profile (R3). -/
abbrev Configurable (st : PowerState) : Prop := st = .off ∨ st = .probing ∨ st = .locked

theorem takeProfile_safe {b : Prop} {s : State} {p : Port} (f : PortProfile) (g : Safe b s)
    (h : Configurable s.power[p].state) (unmarked : s.seq.state.inService = true → s.seq.marks p = false) :
    Safe b (s.takeProfile p f) := by
  have free : s.power[p].state.reserved = false := by rcases h with h | h | h <;> rw [h] <;> rfl
  have unclaimed : s.power[p].state ≠ .waiting := by rcases h with h | h | h <;> rw [h] <;> decide
  have set : Safe b { s with settings := { s.settings with ports := upd s.settings.ports p (fun _ => f) } } :=
    ⟨g.trips, ⟨g.sound.claims, g.sound.once, g.sound.lanes, g.sound.lenses, g.sound.lensClaims, g.sound.marks⟩,
      fun k => setProfile_funded f g.sound free unclaimed unmarked (g.funded k)⟩
  exact setLens_safe (setPower_minor p set (fun w => reprobe_keeps w _ _ _)) (rekind_claim _ _ _) (rekind_resting _ _)

theorem portConfig_safe {b : Prop} {s : State} (body : List Byte) (g : Safe b s) : Safe b (s.portConfig body) := by
  unfold State.portConfig
  split
  · exact reply_safe _ g
  · next p _ =>
    split
    · exact reply_safe _ g
    · split
      · exact reply_safe _ g
      · next free =>
        unfold State.configBlocked at free
        rw [Bool.or_eq_true, not_or, Bool.and_eq_true, not_and, Bool.not_eq_true] at free
        obtain ⟨state, unmarked⟩ := free
        refine reply_safe _ (takeProfile_safe _ g ?_ (fun h => by simpa using unmarked h))
        generalize s.power[p].state = st at state ⊢
        cases st <;> simp_all [Configurable]

theorem portPowerOn_safe {b : Prop} {s : State} (p : Port) (g : Safe b s) : Safe b (State.portPowerOn p s) := by
  unfold State.portPowerOn
  split
  case h_1 h => exact reply_safe _ (raisePowerClaim_safe g (.inl h))
  case h_2 h => exact reply_safe _ (raisePowerClaim_safe g (.inr (.inl h)))
  all_goals exact reply_safe _ g

theorem clearShed_safe {b : Prop} {s : State} (p : Port) (g : Safe b s) : Safe b (s.clearShed p) :=
  setPower_safe g rfl (g.trips p) (fun e => by cases e)

/-- A port that is not LOCKED goes to OFF or PROBING. -/
theorem portGoes_unlocked_safe {b : Prop} {s : State} {p : Port} {new : PowerState} (r : OffReason) (g : Safe b s)
    (unlocked : s.power[p].state ≠ .locked) (h : new = .off ∨ new = .probing) : Safe b (s.portGoes p new r) := by
  have never : new ≠ .locked := by rcases h with rfl | rfl <;> decide
  refine portGoes_safe r g.sound (fun q _ => g.trips q)
    ⟨(g.trips p).1, fun e => absurd ((g.trips p).2.mp e) unlocked, fun e => absurd e never⟩ g.funded ?_ (fun _ => ?_)
  · rcases h with rfl | rfl <;> rfl
  · exact h.imp id .inl

theorem portPowerOff_safe {b : Prop} {s : State} (p : Port) (g : Safe b s) : Safe b (State.portPowerOff p s) := by
  unfold State.portPowerOff
  split
  · exact reply_safe _ g
  · next unlocked => exact reply_safe _ (clearShed_safe p (portGoes_unlocked_safe _ g unlocked (.inl rfl)))

theorem portPowerProbe_safe {b : Prop} {s : State} (p : Port) (g : Safe b s) : Safe b (State.portPowerProbe p s) := by
  unfold State.portPowerProbe
  split
  · exact reply_safe _ g
  · exact reply_safe _ (clearShed_safe p g)
  · next unlocked _ => exact reply_safe _ (clearShed_safe p (portGoes_unlocked_safe _ g unlocked (.inr rfl)))

theorem portUnlock_safe {b : Prop} {s : State} (body : List Byte) (g : Safe b s) : Safe b (s.portUnlock body) := by
  unfold State.portUnlock
  split
  · exact reply_safe _ g
  · next p _ =>
    split
    · next locked =>
      have off : s.power[p].state ≠ .on := by rw [locked]; decide
      have cleared : Sound none none (s.setPower p (fun w => { w with tripCount := 0, decayAt := none })) :=
        setPower_sound g.sound rfl (g.sound.marks p)
      have states : (s.setPower p (fun w => { w with tripCount := 0, decayAt := none })).power[p].state = .locked := by
        rw [setPower_states rfl]
        exact locked
      refine reply_safe _ ⟨setPowerState_trips _ (fun q e => ?_) ?_,
        setPowerState_sound _ cleared (by simp) (by simp)
          (fun c => absurd c (cleared.unclaimed (by rw [states]; decide)))
          (fun _ _ => ⟨g.sound.lanes p (by simp) off, g.sound.lenses p (by simp) off⟩),
        fun k => setPowerState_funded _ (setPower_funded (g.funded k) rfl) (fun e => by cases e)⟩
      · rw [State.setPower_power, upd_other _ _ e]
        exact g.trips q
      · rw [State.setPower_power, upd_same]
        exact ⟨Nat.zero_le _, fun e => (by cases e), fun e => (by cases e)⟩
    · exact reply_safe _ g

theorem setCapacity_safe {b : Prop} {s : State} (body : List Byte) (g : Safe b s) : Safe b (s.setCapacity body) := by
  unfold State.setCapacity
  extract_lets n
  split
  · exact reply_safe _ g
  · split
    · exact answer_safe _ _ g
    · next covers =>
      have set : Safe b { s with settings := { s.settings with capacity := n } } :=
        ⟨g.trips, ⟨g.sound.claims, g.sound.once, g.sound.lanes, g.sound.lenses, g.sound.lensClaims, g.sound.marks⟩,
          fun k => ⟨(g.funded k).1, Nat.not_lt.mp covers⟩⟩
      exact reply_safe _ ((walk_follows _).safe set)

/-! ## The profile store's defaults (R182) -/

/-- No port is reserved or waits, and no plan is in service. -/
structure Dormant (s : State) : Prop where
  plan : s.seq.state.inService = false
  ports : ∀ q : Port, Configurable s.power[q].state

/-- A dormant part has nothing committed, whatever its settings are. -/
theorem Dormant.funded {s : State} (h : Dormant s) (g : Sound none none s) : Funded s := by
  have off : ∀ q : Port, s.power[q].state ≠ .on ∧ s.power[q].state ≠ .waiting ∧ s.power[q].state.reserved = false :=
    fun q => by rcases h.ports q with e | e | e <;> rw [e] <;> decide
  have rest : ∀ q : Port, AtRest s q := fun q => g.atRest (by simp) (off q).1
  refine ⟨fun c hc => ?_, ?_⟩
  · cases hk : c.kind with
    | power => exact absurd ⟨c, hc, hk, rfl⟩ (g.unclaimed (off c.port).2.1)
    | lens => exact absurd rfl ((rest c.port).unclaimed c hc hk)
  · have base : s.basePart ≤ sumPorts (fun _ => 0) := sumPorts_le (fun q => by rw [(off q).2.2]; exact Nat.le_refl _)
    have surge : s.surgePart ≤ sumPorts (fun _ => 0) := sumPorts_le (fun q => by
      rw [if_neg (by rw [(rest q).lens.claim]; decide)])
    have strobe : s.strobePart = 0 := if_neg (by rw [h.plan]; decide)
    have zero : sumPorts (fun _ => 0) = 0 := by decide
    unfold Budget State.committed
    omega

theorem takeProfile_dormant {s : State} (p : Port) (f : PortProfile) (h : Dormant s) : Dormant (s.takeProfile p f) := by
  refine ⟨h.plan, fun q => ?_⟩
  have state : (s.takeProfile p f).power[q].state = s.power[q].state :=
    setPower_states (s := { s with settings := { s.settings with ports := upd s.settings.ports p (fun _ => f) } })
      (reprobe_keeps _ _ _ _).1 q
  rw [state]
  exact h.ports q

theorem takeProfiles_safe {b : Prop} (f : Port → PortProfile) : ∀ (ps : List Port) (s : State), Safe b s → Dormant s →
    Safe b (State.forPorts (fun p t => t.takeProfile p (f p)) ps s) ∧
    Dormant (State.forPorts (fun p t => t.takeProfile p (f p)) ps s)
  | [], _, g, h => ⟨g, h⟩
  | p :: ps, s, g, h => takeProfiles_safe f ps (s.takeProfile p (f p))
    (takeProfile_safe (f p) g (h.ports p) (fun e => by rw [h.plan] at e; cases e)) (takeProfile_dormant p (f p) h)

theorem restoreDefaults_safe {b : Prop} {s : State} (g : Safe b s) (takes : s.takesDefaults = true) :
    Safe b s.restoreDefaults := by
  have dormant : Dormant s := by
    unfold State.takesDefaults at takes
    rw [Bool.and_eq_true, Bool.not_eq_true', List.all_eq_true] at takes
    refine ⟨takes.1, fun q => ?_⟩
    have rests := takes.2 q (mem_allPorts q)
    generalize s.power[q].state = st at rests ⊢
    cases st <;> simp_all [Configurable]
  obtain ⟨safe, still⟩ := takeProfiles_safe (fun _ => {}) allPorts s g dormant
  unfold State.restoreDefaults
  extract_lets t
  have sound : Sound none none { t with settings := {}, profile := { t.profile with origin := .defaults } } :=
    ⟨safe.sound.claims, safe.sound.once, safe.sound.lanes, safe.sound.lenses, safe.sound.lensClaims, safe.sound.marks⟩
  exact (walk_follows _).safe ⟨safe.trips, sound, fun _ => Dormant.funded ⟨still.plan, still.ports⟩ sound⟩

end Sys2Proof.Power
end

section
/-!
PROOFS. The resets keep the invariants of the power side, and so does every step.
-/

namespace Sys2Proof.Power

open Sys2Proof.Machine Sys2Proof.Safety

/-! ## Port by port -/

/-- What an operation made for each port of a list leaves, where it changes one entry of a row by what it keeps. -/
theorem forPorts_get {α β : Type} (get : State → Vector α 8) (keep : State → β) (f : Port → State → State)
    (g : β → Port → α → α) (hk : ∀ p s, keep (f p s) = keep s) (hg : ∀ p s, get (f p s) = upd (get s) p (g (keep s) p)) :
    ∀ ps : List Port, ps.Nodup → ∀ (s : State) (q : Port),
      (get (State.forPorts f ps s))[q] = if q ∈ ps then g (keep s) q (get s)[q] else (get s)[q]
  | [], _, s, q => by
    rw [if_neg List.not_mem_nil]
    rfl
  | p :: ps, once, s, q => by
    obtain ⟨fresh, rest⟩ := List.nodup_cons.mp once
    show (get (State.forPorts f ps (f p s)))[q] = _
    rw [forPorts_get get keep f g hk hg ps rest, hk, hg, upd_get]
    by_cases e : q = p
    · rw [if_pos e, e, if_neg fresh, if_pos List.mem_cons_self]
    · by_cases m : q ∈ ps
      · rw [if_pos m, if_pos (List.mem_cons_of_mem _ m), if_neg e]
      · rw [if_neg m, if_neg e, if_neg (by rw [List.mem_cons]; exact fun h => h.elim e m)]

theorem allPorts_get {α β : Type} (get : State → Vector α 8) (keep : State → β) (f : Port → State → State)
    (g : β → Port → α → α) (hk : ∀ p s, keep (f p s) = keep s) (hg : ∀ p s, get (f p s) = upd (get s) p (g (keep s) p))
    (s : State) (q : Port) : (get (State.forPorts f allPorts s))[q] = g (keep s) q (get s)[q] := by
  rw [forPorts_get get keep f g hk hg allPorts (by decide), if_pos (mem_allPorts q)]

/-! ## CELL_RESET (R30, R49, R135) -/

theorem upd_upd {α : Type} {n : Nat} (v : Vector α n) (i : Fin n) (f g : α → α) :
    upd (upd v i f) i g = upd v i (fun a => g (f a)) := by
  simp [upd]

theorem lensOff_lenses (s : State) (p : Port) : (s.lensOff p).lenses = upd s.lenses p Lens.off := by
  unfold State.lensOff
  extract_lets l t
  split
  · rfl
  · rw [(lensNotice_changes _ _ _ _ _).lenses (by decide)]
    rfl

theorem lensOff_supply (s : State) (p : Port) :
    (s.lensOff p).supply = { s.supply with claims := (s.lensOff p).supply.claims } := by
  unfold State.lensOff
  extract_lets l t
  split
  · rfl
  · rw [(lensNotice_changes _ _ _ _ _).supply (by decide)]
    rfl

/-- The state that one port's cell reset leaves, but for the notices. -/
structure PortReset (p : Port) (s t : State) : Prop where
  changes : Changes [.power, .lanes, .laneStates, .lenses, .supply] s t
  power : t.power = upd s.power p (fun w => w.cellReset (s.profileOf p) s.clock)
  lanes : t.lanes = upd s.lanes p (fun l => l.cellReset s.clock)
  lenses : t.lenses = upd s.lenses p (fun l => { l.off with counts := {} })
  supply : t.supply = { s.supply with claims := t.supply.claims }

theorem resetPort_resets (p : Port) (s : State) : PortReset p s (State.resetPort p s) := by
  unfold State.resetPort
  extract_lets power lane t told down laned
  have told_changes : Changes [] t told := Changes.ite (fun _ => .refl t) (fun _ => portStateNotice_changes _ _ _)
  have laned_changes : Changes [] down laned := Changes.ite (fun _ => .refl down) (fun _ => laneNotice_changes _ _ _ _)
  have off := lensOff_changes laned p
  have last := setLens_changes (laned.lensOff p) p (fun l => { l with counts := {} })
  constructor
  case changes =>
    exact (((((setPower_changes s p _).mono (by decide)).step (told_changes.mono (by simp))).step
      ((setLane_changes told p _).mono (by decide))).step (laned_changes.mono (by simp))).step
      ((off.mono (by decide)).step (last.mono (by decide)))
  case power =>
    rw [last.power (by decide), off.power (by decide), laned_changes.power (by decide)]
    exact told_changes.power (by decide)
  case lanes =>
    rw [last.lanes (by decide), off.lanes (by decide), laned_changes.lanes (by decide)]
    show upd told.lanes p (fun l => l.cellReset s.clock) = _
    rw [told_changes.lanes (by decide)]
    rfl
  case lenses =>
    have before : laned.lenses = s.lenses := by
      rw [laned_changes.lenses (by decide)]
      exact told_changes.lenses (by decide)
    show upd (laned.lensOff p).lenses p (fun l => { l with counts := {} }) = _
    rw [lensOff_lenses, before, upd_upd]
  case supply =>
    have before : laned.supply = s.supply := by
      rw [laned_changes.supply (by decide)]
      exact told_changes.supply (by decide)
    show (laned.lensOff p).supply = { s.supply with claims := (laned.lensOff p).supply.claims }
    rw [← before]
    exact lensOff_supply laned p

/-- What the cell resets of the ports together leave. -/
theorem resetPorts_changes (s : State) :
    Changes [.power, .lanes, .laneStates, .lenses, .supply] s (State.forPorts State.resetPort allPorts s) :=
  forPorts_changes (fun p s => (resetPort_resets p s).changes) allPorts s

theorem resetPorts_power (s : State) (q : Port) :
    (State.forPorts State.resetPort allPorts s).power[q] = (s.power[q]).cellReset (s.profileOf q) s.clock :=
  allPorts_get State.power (fun s => (s.settings, s.clock)) State.resetPort
    (fun k p w => w.cellReset k.1.ports[p] k.2)
    (fun p s => by simp only [(resetPort_resets p s).changes.settings (by decide), (resetPort_resets p s).changes.clock])
    (fun p s => (resetPort_resets p s).power) s q

theorem resetPorts_lanes (s : State) (q : Port) :
    (State.forPorts State.resetPort allPorts s).lanes[q] = (s.lanes[q]).cellReset s.clock :=
  allPorts_get State.lanes State.clock State.resetPort (fun now _ l => l.cellReset now)
    (fun p s => (resetPort_resets p s).changes.clock) (fun p s => (resetPort_resets p s).lanes) s q

theorem resetPorts_lenses (s : State) (q : Port) :
    (State.forPorts State.resetPort allPorts s).lenses[q] = { (s.lenses[q]).off with counts := {} } :=
  allPorts_get State.lenses (fun _ => ()) State.resetPort (fun _ _ l => { l.off with counts := {} })
    (fun _ _ => rfl) (fun p s => (resetPort_resets p s).lenses) s q

theorem resetPorts_supply : ∀ (ps : List Port) (s : State), (State.forPorts State.resetPort ps s).supply =
    { s.supply with claims := (State.forPorts State.resetPort ps s).supply.claims }
  | [], _ => rfl
  | p :: ps, s => by
    show (State.forPorts State.resetPort ps (State.resetPort p s)).supply = _
    rw [resetPorts_supply ps (State.resetPort p s), (resetPort_resets p s).supply]
    rfl

theorem resetSweeps_changes (s : State) : Changes [.sweeps] s s.resetSweeps := by
  unfold State.resetSweeps
  extract_lets _ t
  have emptied : Changes [.sweeps] s t := sweeps_changes _ _
  split
  · exact emptied
  · exact (emptied.step (setResult_changes _ _ _)).step ((sweepDone_changes _ _).mono (by simp))

theorem resetPlan_changes (s : State) : Changes [.seq, .plan] s s.resetPlan :=
  Changes.ite (fun _ => setSeq_changes _ _)
    (fun _ => (setSeq_changes _ _).step ((planNotice_changes _ _ _).mono (by simp)))

theorem resetPlan_seq (s : State) : s.resetPlan.seq = {} := by
  unfold State.resetPlan
  extract_lets t
  split
  · rfl
  · exact (planNotice_changes _ _ _).seq (by decide)

theorem resetUplink_changes (s : State) : Changes [.uplink] s s.resetUplink := by
  unfold State.resetUplink
  extract_lets cleared
  have cleared_changes : Changes [.uplink] s cleared := setUplink_changes _ _
  split
  · exact cleared_changes
  · exact cleared_changes.step (setUplink_changes _ _)

theorem resetMonitor_changes (s : State) : Changes [.monitor] s s.resetMonitor := by
  constructor
  case link => exact ⟨[], by simp, .refl _⟩
  all_goals simp [State.resetMonitor, State.beginWindow]

/-- The state in which the cell reset has rested the ports. -/
def portsRested (s : State) : State := State.forPorts State.resetPort allPorts s.resetSweeps.resetPlan

theorem portsRested_before (s : State) : Changes [.sweeps, .seq, .plan] s s.resetSweeps.resetPlan :=
  (resetSweeps_changes s).trans (resetPlan_changes _)

/-- The parts that the cell reset changes once the ports rest. -/
abbrev sharedParts : List Part := [.supply, .uplink, .store, .monitor]

theorem cellReset_changes (s : State) : Changes sharedParts (portsRested s) s.cellReset := by
  have claims : Changes sharedParts (portsRested s) ((portsRested s).setClaims (fun _ => [])) :=
    (supply_changes _ _).mono (by decide)
  have uplink := claims.step ((resetUplink_changes _).mono (by decide))
  have store := uplink.step ((setStore_changes _ (·.cellReset)).mono (by decide))
  have monitor := store.step ((resetMonitor_changes _).mono (by decide))
  exact monitor.step ((uplinkNext_changes _).mono (by decide))

theorem cellReset_power (s : State) (q : Port) :
    s.cellReset.power[q] = (s.power[q]).cellReset (s.profileOf q) s.clock := by
  have before := portsRested_before s
  rw [(cellReset_changes s).power (by decide), portsRested, resetPorts_power, State.profileOf, State.profileOf,
    before.settings (by decide), before.clock, before.power (by decide)]

theorem cellReset_lanes (s : State) (q : Port) : s.cellReset.lanes[q] = (s.lanes[q]).cellReset s.clock := by
  have before := portsRested_before s
  rw [(cellReset_changes s).lanes (by decide), portsRested, resetPorts_lanes, before.clock, before.lanes (by decide)]

theorem cellReset_lenses (s : State) (q : Port) : s.cellReset.lenses[q] = { (s.lenses[q]).off with counts := {} } := by
  rw [(cellReset_changes s).lenses (by decide), portsRested, resetPorts_lenses,
    (portsRested_before s).lenses (by decide)]

theorem cellReset_seq (s : State) : s.cellReset.seq = {} := by
  rw [(cellReset_changes s).seq (by decide), portsRested, (resetPorts_changes _).seq (by decide), resetPlan_seq]

theorem cellReset_supply (s : State) : s.cellReset.supply = { s.supply with claims := [] } := by
  have kept : s.cellReset.supply = ((portsRested s).setClaims (fun _ => [])).supply := by
    unfold State.cellReset
    extract_lets ported freed
    rw [(uplinkNext_changes _).supply (by decide), (resetMonitor_changes _).supply (by decide)]
    exact (setStore_changes _ _).supply (by decide) |>.trans ((resetUplink_changes _).supply (by decide))
  rw [kept, State.setClaims_supply, portsRested, resetPorts_supply, (portsRested_before s).supply (by decide)]

/-- Where nothing is claimed, each port is at rest, and no plan is in service, the part is sound. -/
theorem rested_safe {b : Prop} {s : State} (claims : s.supply.claims = []) (trips : Trips s)
    (ports : ∀ q : Port, Configurable s.power[q].state) (marks : ∀ q : Port, s.power[q].shedMark = false)
    (lanes : ∀ q : Port, s.lanes[q].state = .down) (lenses : ∀ q : Port, Resting s.lenses[q])
    (plan : s.seq.state.inService = false) : Safe b s := by
  have sound : Sound none none s := by
    refine ⟨?_, ?_, fun q _ _ => lanes q, fun q _ _ => lenses q, ⟨?_, ?_⟩, fun q m => ?_⟩
    · rw [claims]; simp
    · unfold OnceClaimed; rw [claims]; exact List.nodup_nil
    · rw [claims]; simp
    · rw [claims]; exact List.nodup_nil
    · rw [marks q] at m; cases m
  exact ⟨trips, sound, fun _ => Dormant.funded ⟨plan, ports⟩ sound⟩

theorem portReset_state (w : PortPower) (f : PortProfile) (now : Time) :
    (w.cellReset f now).state = if w.state = .locked then .locked else .off := by
  unfold PortPower.cellReset
  split
  · assumption
  · rfl

theorem portReset_trips (w : PortPower) (f : PortProfile) (now : Time) :
    (w.cellReset f now).tripCount = w.tripCount ∧ (w.cellReset f now).shedMark = false := by
  unfold PortPower.cellReset
  refine ⟨?_, rfl⟩
  split <;> rfl

theorem cellReset_safe {b : Prop} {s : State} (g : Safe b s) : Safe b s.cellReset := by
  refine rested_safe (by rw [cellReset_supply]) (fun q => ?_) (fun q => ?_) (fun q => ?_) (fun q => ?_) (fun q => ?_)
    (by rw [cellReset_seq]; rfl)
  · rw [cellReset_power, (portReset_trips _ _ _).1, portReset_state]
    refine ⟨(g.trips q).1, (g.trips q).2.trans ?_⟩
    split
    · next h => simp only [h]
    · next h => exact ⟨fun k => absurd k h, fun k => by cases k⟩
  · rw [cellReset_power, portReset_state]
    split
    · exact .inr (.inr rfl)
    · exact .inl rfl
  · rw [cellReset_power, (portReset_trips _ _ _).2]
  · rw [cellReset_lanes]
    rfl
  · rw [cellReset_lenses]
    have off := off_resting s.lenses[q]
    exact ⟨off.state, off.claim, off.stage, off.toBegin, off.flight, off.halt, off.bus⟩

/-! ## NRESET and POWER_ON_RESET (R29, R183) -/

/-- The part with its settings loaded and its lenses known, before any claim is raised. -/
def booted (s : State) : State := (State.forPorts State.lensFromKind allPorts s.rebooted.loadProfile).beginWindow

theorem startUp_eq (s : State) : s.startUp = (booted s).autoPower.readyNotice := rfl

theorem loadProfile_keeps (s : State) : s.loadProfile.power = s.power ∧ s.loadProfile.supply = s.supply ∧
    s.loadProfile.lanes = s.lanes ∧ s.loadProfile.seq = s.seq ∧ s.loadProfile.lenses = s.lenses := by
  unfold State.loadProfile
  split
  · exact ⟨rfl, rfl, rfl, rfl, rfl⟩
  · have posted := post_changes ({ s with settings := {}, profile := { s.profile with origin := .defaults } } : State) none
      (.profile .defaults (s.freeBelow 18446744073709551616) s.profile.imageState)
    exact ⟨posted.power (by decide), posted.supply (by decide), posted.lanes (by decide), posted.seq (by decide),
      posted.lenses (by decide)⟩

theorem lensFromKind_changes (p : Port) (s : State) : Changes [.lenses] s (State.lensFromKind p s) :=
  setLens_changes _ _ _

theorem lensesFromKinds (s : State) (q : Port) : (State.forPorts State.lensFromKind allPorts s).lenses[q] =
    { s.lenses[q] with state := if (s.profileOf q).lensKind = .none then .absent else .unknown } :=
  allPorts_get State.lenses State.settings State.lensFromKind
    (fun x p l => { l with state := if x.ports[p].lensKind = .none then .absent else .unknown })
    (fun _ _ => rfl) (fun _ _ => rfl) s q

theorem booted_changes (s : State) : Changes [.lenses, .monitor] s.rebooted.loadProfile (booted s) :=
  (forPorts_changes lensFromKind_changes allPorts _).trans (beginWindow_changes _)

theorem booted_power (s : State) (q : Port) : (booted s).power[q] = {} := by
  rw [(booted_changes s).power (by decide), (loadProfile_keeps _).1]
  show (Vector.replicate 8 ({} : PortPower))[q] = {}
  simp

theorem booted_lanes (s : State) (q : Port) : (booted s).lanes[q] = {} := by
  rw [(booted_changes s).lanes (by decide), (loadProfile_keeps _).2.2.1]
  show (Vector.replicate 8 ({} : Lane))[q] = {}
  simp

theorem booted_lenses (s : State) (q : Port) : (booted s).lenses[q] = { ({} : Lens) with
    state := if (s.rebooted.loadProfile.profileOf q).lensKind = .none then .absent else .unknown } := by
  have reset : s.rebooted.loadProfile.lenses[q] = {} := by
    rw [(loadProfile_keeps _).2.2.2.2]
    show (Vector.replicate 8 ({} : Lens))[q] = {}
    simp
  rw [booted, (beginWindow_changes _).lenses (by decide), lensesFromKinds, reset]

theorem booted_supply (s : State) : (booted s).supply = {} := by
  rw [(booted_changes s).supply (by decide), (loadProfile_keeps _).2.1]
  rfl

theorem booted_seq (s : State) : (booted s).seq = {} := by
  rw [(booted_changes s).seq (by decide), (loadProfile_keeps _).2.2.2.1]
  rfl

theorem booted_safe {b : Prop} (s : State) : Safe b (booted s) := by
  refine rested_safe (by rw [booted_supply]) (fun q => ?_) (fun q => ?_) (fun q => ?_) (fun q => ?_) (fun q => ?_)
    (by rw [booted_seq]; rfl)
  · rw [booted_power]
    exact ⟨by decide, by decide⟩
  · rw [booted_power]
    exact .inl rfl
  · rw [booted_power]
  · rw [booted_lanes]
  · rw [booted_lenses]
    refine ⟨?_, rfl, rfl, rfl, rfl, rfl, rfl⟩
    by_cases h : (s.rebooted.loadProfile.profileOf q).lensKind = .none
    · exact .inr (if_pos h)
    · exact .inl (if_neg h)

theorem raiseClaims_safe {b : Prop} : ∀ {ps : List Port} {s : State}, ps.Nodup → Safe b s →
    (∀ p ∈ ps, s.power[p].state = .off) → Safe b (State.forPorts (fun p t => t.raisePowerClaim p) ps s)
  | [], _, _, g, _ => g
  | p :: ps, s, once, g, off => by
    obtain ⟨fresh, rest⟩ := List.nodup_cons.mp once
    show Safe b (State.forPorts (fun p t => t.raisePowerClaim p) ps (s.raisePowerClaim p))
    refine raiseClaims_safe rest (raisePowerClaim_safe g (.inl (off p List.mem_cons_self))) (fun q hq => ?_)
    have off_q := off q (List.mem_cons_of_mem _ hq)
    have other : q ≠ p := fun e => fresh (e ▸ hq)
    rw [(raisePowerClaim_other other).resolve_right
      (fun granted => g.sound.unclaimed (by rw [off_q]; decide) granted.1)]
    exact off_q

theorem startUp_safe {b : Prop} (s : State) : Safe b s.startUp := by
  rw [startUp_eq]
  refine post_safe _ _ (raiseClaims_safe (byPriority_nodup _ _) (booted_safe s) (fun p _ => ?_))
  rw [booted_power]

end Sys2Proof.Power
end

section
/-! PROOFS. Every step keeps the invariants of the power side (R6, R11, R19, R20, R27, R31, R115). -/

namespace Sys2Proof.Power

open Sys2Proof.Machine Sys2Proof.Safety

/-- The state that a command leaves, if it leaves one, is sound. -/
def Leaves (b : Prop) (r : Result) : Prop := ∀ t, r = .next t → Safe b t

theorem leaves_next {b : Prop} {s : State} (g : Safe b s) : Leaves b (.next s) := by
  rintro t ⟨⟩
  exact g

theorem leaves_finish {b : Prop} {s : State} (g : Safe b s) : Leaves b (finish s) := leaves_next (link_safe _ g)

theorem leaves_ite {b : Prop} {c : Prop} [Decidable c] {r r' : Result} (h : c → Leaves b r) (g : ¬ c → Leaves b r') :
    Leaves b (if c then r else r') := by
  split
  · exact h ‹_›
  · exact g ‹_›

/-- A command that acts only when it is due. -/
theorem leaves_due {b : Prop} {c : Prop} [Decidable c] {s t : State} (g : Safe b s) (h : c → Safe b t) :
    Leaves b (if c then finish t else .next s) :=
  leaves_ite (fun k => leaves_finish (h k)) (fun _ => leaves_next g)

theorem leaves_serveWhen {b : Prop} {s : State} {kind : Byte} {lengthOk ofRow : List Byte → Bool}
    {owner : List Byte → State → State} (g : Safe b s) (h : ∀ body, Safe b (owner body s)) :
    Leaves b (s.serveWhen kind lengthOk ofRow owner) := by
  unfold State.serveWhen
  split
  · exact leaves_next g
  · refine leaves_ite (fun _ => leaves_ite (fun _ => ?_) (fun _ => ?_)) (fun _ => leaves_next g)
    · exact leaves_ite (fun _ => leaves_finish (h _)) (fun _ => leaves_next g)
    · exact leaves_finish (reply_safe _ g)

theorem leaves_serve {b : Prop} {s : State} {kind : Byte} {size : Nat} {owner : List Byte → State → State}
    (g : Safe b s) (h : ∀ body, Safe b (owner body s)) : Leaves b (s.serve kind size owner) := leaves_serveWhen g h

theorem leaves_portPower {b : Prop} {s : State} {value : Nat} {owner : Port → State → State} (g : Safe b s)
    (h : ∀ p, Safe b (owner p s)) : Leaves b (s.servePortPower value owner) := by
  refine leaves_serveWhen g (fun body => ?_)
  split
  · exact reply_safe _ g
  · split
    · exact reply_safe _ g
    · exact h _

/-- A request about a port that replies by the port's number. -/
theorem status_safe {b : Prop} {s : State} (body : List Byte) (fields : Port → List Byte) (g : Safe b s) :
    Safe b (match portAt body 0 with
      | none => s.reply .outOfRange
      | some p => s.answer .ok (fields p)) := by
  split
  · exact reply_safe _ g
  · exact answer_safe _ _ g

theorem filter_isSome {α : Type} {o : Option α} {f : α → Bool} {a : α} (h : o.filter f = some a) : o ≠ none := by
  rintro rfl
  cases h

/-- A hub transaction stands on a bus that is not OFF. -/
theorem hubTxn_bus {s : State} {p : Port} {t : Txn} (h : s.hubTxn p = some t) : s.lenses[p].bus.state ≠ .off := by
  unfold State.hubTxn at h
  split at h
  · next hub => rw [hub]; decide
  · cases h

theorem profile_safe {b : Prop} {s : State} (f : ProfileStore) (g : Safe b s) : Safe b { s with profile := f } :=
  ⟨g.trips, ⟨g.sound.claims, g.sound.once, g.sound.lanes, g.sound.lenses, g.sound.lensClaims, g.sound.marks⟩, g.funded⟩

theorem monitor_changes (s : State) (m : Monitor) : Changes [.monitor] s { s with monitor := m } := by
  constructor
  case link => exact ⟨[], by simp, .refl _⟩
  all_goals simp

theorem execPowerOnReset_safe {b : Prop} (s : State) :
    Leaves b (execPowerOnReset s) :=
  leaves_finish (startUp_safe s)

theorem execNreset_safe {b : Prop} (s : State) :
    Leaves b (execNreset s) :=
  leaves_finish (startUp_safe s)

theorem execControlFrameReceived_safe {b : Prop} {s : State} (bytes : List LineByte) (g : Safe b s) :
    Leaves b (execControlFrameReceived bytes s) :=
  leaves_finish (link_safe _ g)

theorem execUnknownRequest_safe {b : Prop} {s : State} (g : Safe b s) :
    Leaves b (execUnknownRequest s) := by
  unfold execUnknownRequest
  split
  · exact leaves_next g
  · exact leaves_ite (fun _ => leaves_next g) (fun _ => leaves_finish (reply_safe _ g))

theorem execTxFrameEnd_safe {b : Prop} {s : State} (g : Safe b s) :
    Leaves b (execTxFrameEnd s) := by
  unfold execTxFrameEnd
  split
  · exact leaves_finish (link_safe _ g)
  · exact leaves_next g

theorem execPortConfig_safe {b : Prop} {s : State} (g : Safe b s) :
    Leaves b (execPortConfig s) :=
  leaves_serve g (fun body => portConfig_safe body g)

theorem execPortPowerOn_safe {b : Prop} {s : State} (g : Safe b s) :
    Leaves b (execPortPowerOn s) :=
  leaves_portPower g (fun p => portPowerOn_safe p g)

theorem execPortPowerOff_safe {b : Prop} {s : State} (g : Safe b s) :
    Leaves b (execPortPowerOff s) :=
  leaves_portPower g (fun p => portPowerOff_safe p g)

theorem execPortPowerProbe_safe {b : Prop} {s : State} (g : Safe b s) :
    Leaves b (execPortPowerProbe s) :=
  leaves_portPower g (fun p => portPowerProbe_safe p g)

theorem execPortUnlock_safe {b : Prop} {s : State} (g : Safe b s) :
    Leaves b (execPortUnlock s) :=
  leaves_serve g (fun body => portUnlock_safe body g)

theorem execPortStatus_safe {b : Prop} {s : State} (g : Safe b s) :
    Leaves b (execPortStatus s) := by
  unfold execPortStatus
  refine leaves_serve g (fun body => ?_)
  exact status_safe body _ g

theorem execSetCapacity_safe {b : Prop} {s : State} (g : Safe b s) :
    Leaves b (execSetCapacity s) :=
  leaves_serve g (fun body => setCapacity_safe body g)

theorem execSetSupplyPolicy_safe {b : Prop} {s : State} (g : Safe b s) :
    Leaves b (execSetSupplyPolicy s) := by
  unfold execSetSupplyPolicy
  refine leaves_serve g (fun body => ?_)
  unfold State.setSupplyPolicy
  split
  · exact reply_safe _ (settings_safe g ⟨rfl, rfl⟩)
  · exact reply_safe _ g

theorem execSupplyStatus_safe {b : Prop} {s : State} (g : Safe b s) :
    Leaves b (execSupplyStatus s) := by
  unfold execSupplyStatus
  refine leaves_serve g (fun _ => ?_)
  exact answer_safe _ _ g

theorem execProbePulseStart_safe {b : Prop} {s : State} (p : Port) (g : Safe b s) :
    Leaves b (execProbePulseStart p s) :=
  leaves_due g (fun _ => setPower_minor p g (fun _ => ⟨rfl, rfl, rfl⟩))

theorem execProbePulseEnd_safe {b : Prop} {s : State} (p : Port) (milliamps : Nat) (g : Safe b s) :
    Leaves b (execProbePulseEnd p milliamps s) := by
  unfold execProbePulseEnd
  refine leaves_due g (fun due => ?_)
  rw [Bool.and_eq_true, decide_eq_true_eq] at due
  exact probeResult_safe milliamps g due.1

theorem execRampEnd_safe {b : Prop} {s : State} (p : Port) (g : Safe b s) :
    Leaves b (execRampEnd p s) := by
  unfold execRampEnd
  refine leaves_due g (fun due => ?_)
  unfold State.rampDue at due
  rw [Bool.and_eq_true, decide_eq_true_eq] at due
  split
  · exact openLoad_safe g (by rw [due.1]; rfl)
  · exact portEntersOn_safe g due.1

theorem execCurrentSample_safe {b : Prop} {s : State} (p : Port) (milliamps : Nat) (g : Safe b s) :
    Leaves b (execCurrentSample p milliamps s) :=
  leaves_due g (fun _ => sample_safe p milliamps g)

theorem execThresholdTrip_safe {b : Prop} {s : State} (p : Port) (g : Safe b s) :
    Leaves b (execThresholdTrip p s) := by
  unfold execThresholdTrip
  refine leaves_due g (fun due => ?_)
  unfold State.thresholdDue at due
  rw [Bool.and_eq_true] at due
  exact trip_safe g due.1 _ _

theorem execHardLimitTrip_safe {b : Prop} {s : State} (p : Port) (milliamps : Nat) (g : Safe b s) :
    Leaves b (execHardLimitTrip p milliamps s) := by
  unfold execHardLimitTrip
  refine leaves_due g (fun due => ?_)
  rw [Bool.and_eq_true] at due
  exact trip_safe g due.1 _ _

theorem execOpenLoad_safe {b : Prop} {s : State} (p : Port) (g : Safe b s) :
    Leaves b (execOpenLoad p s) := by
  unfold execOpenLoad
  refine leaves_due g (fun due => ?_)
  unfold State.openLoadDue at due
  rw [Bool.and_eq_true, decide_eq_true_eq] at due
  exact openLoad_safe g (by rw [due.1]; rfl)

theorem execCooldownEnd_safe {b : Prop} {s : State} (p : Port) (g : Safe b s) :
    Leaves b (execCooldownEnd p s) := by
  unfold execCooldownEnd
  refine leaves_due g (fun due => ?_)
  unfold State.cooldownDue at due
  rw [Bool.and_eq_true, decide_eq_true_eq] at due
  exact raisePowerClaim_safe g (.inr (.inr due.1))

theorem execTripDecay_safe {b : Prop} {s : State} (p : Port) (g : Safe b s) :
    Leaves b (execTripDecay p s) := by
  unfold execTripDecay
  refine leaves_due g (fun due => ?_)
  unfold State.decayDue at due
  rw [Bool.and_eq_true, bne_iff_ne] at due
  have below : s.power[p].tripCount < 5 :=
    Nat.lt_of_le_of_ne (g.trips p).1 (fun e => due.1 ((g.trips p).2.mp e))
  refine setPower_safe g rfl ⟨?_, fun e => ?_, fun e => absurd e due.1⟩ (g.sound.marks p)
  · show s.power[p].tripCount - 1 ≤ 5
    omega
  · have lower : s.power[p].tripCount - 1 = 5 := e
    omega

theorem execSupplyLow_safe {b : Prop} {s : State} (millivolts heldMicros : Nat) (g : Safe b s) :
    Leaves b (execSupplyLow millivolts heldMicros s) := by
  unfold execSupplyLow
  have measured : Safe b (s.measured millivolts) := supply_safe g rfl
  exact leaves_ite (fun _ => leaves_finish (becomeLow_safe measured)) (fun _ => leaves_finish measured)

theorem execSupplyFullShedCheck_safe {b : Prop} {s : State} (millivolts : Nat) (g : Safe b s) :
    Leaves b (execSupplyFullShedCheck millivolts s) :=
  leaves_due g (fun _ => fullCheck_safe millivolts g)

theorem execSupplyRecovered_safe {b : Prop} {s : State} (millivolts heldMicros : Nat) (g : Safe b s) :
    Leaves b (execSupplyRecovered millivolts heldMicros s) := by
  unfold execSupplyRecovered
  have measured : Safe b (s.measured millivolts) := supply_safe g rfl
  exact leaves_ite (fun _ => leaves_finish (recover_safe measured)) (fun _ => leaves_finish measured)

theorem execLaneStatus_safe {b : Prop} {s : State} (g : Safe b s) :
    Leaves b (execLaneStatus s) := by
  unfold execLaneStatus
  refine leaves_serve g (fun body => ?_)
  exact status_safe body _ g

theorem execLaneLockAcquired_safe {b : Prop} {s : State} (p : Port) (g : Safe b s) :
    Leaves b (execLaneLockAcquired p s) :=
  leaves_due g (fun training => lockReached_safe g (g.lane_on (by rw [training]; decide)))

theorem execTrainingDeadline_safe {b : Prop} {s : State} (p : Port) (g : Safe b s) :
    Leaves b (execTrainingDeadline p s) :=
  leaves_due g (fun _ => trainingFails_safe p g)

theorem execTrainingRetry_safe {b : Prop} {s : State} (p : Port) (g : Safe b s) :
    Leaves b (execTrainingRetry p s) := by
  unfold execTrainingRetry
  refine leaves_due g (fun due => startTraining_safe _ g ?_)
  simp only [State.retryDue, Bool.and_eq_true, decide_eq_true_eq] at due
  exact due.1.1.1

theorem execLockLost_safe {b : Prop} {s : State} (p : Port) (g : Safe b s) :
    Leaves b (execLockLost p s) :=
  leaves_due g (fun locked => losesLock_safe g (g.lane_on (by rw [locked]; decide)))

theorem execQuietRetrainEnd_safe {b : Prop} {s : State} (p : Port) (hasLock : Bool) (g : Safe b s) :
    Leaves b (execQuietRetrainEnd p hasLock s) := by
  unfold execQuietRetrainEnd
  refine leaves_due g (fun due => retrained_safe hasLock g (g.lane_on ?_))
  simp only [State.retrainDue, Bool.and_eq_true, decide_eq_true_eq] at due
  rw [due.1]
  decide

theorem execPacketUnknownType_safe {b : Prop} {s : State} (p : Port) (g : Safe b s) :
    Leaves b (execPacketUnknownType p s) :=
  leaves_due g (fun _ => (count_changes s p _).safe (by decide) g)

theorem execFrameStart_safe {b : Prop} {s : State} (p : Port) (tag : Byte) (width height depth : Nat) (g : Safe b s) :
    Leaves b (execFrameStart p tag width height depth s) :=
  leaves_due g (fun _ => (takeFrameStart_changes s p tag width height depth).safe (by decide) g)

theorem execLine_safe {b : Prop} {s : State} (p : Port) (number : Nat) (pixels : List Byte) (crc : BitVec 32) (g : Safe b s) :
    Leaves b (execLine p number pixels crc s) :=
  leaves_due g (fun _ => (takeLine_changes s p number pixels crc).safe (by decide) g)

theorem execFrameEnd_safe {b : Prop} {s : State} (p : Port) (tag : Byte) (lineCount : Nat) (g : Safe b s) :
    Leaves b (execFrameEnd p tag lineCount s) :=
  leaves_due g (fun _ => takeFrameEnd_safe p tag lineCount g)

theorem execReceptionDeadline_safe {b : Prop} {s : State} (p : Port) (g : Safe b s) :
    Leaves b (execReceptionDeadline p s) :=
  leaves_due g (fun _ => (checkCycle_follows _).safe ((deadlineClose_changes s p).safe (by decide) g))

theorem execExposureWindowEnd_safe {b : Prop} {s : State} (p : Port) (g : Safe b s) :
    Leaves b (execExposureWindowEnd p s) :=
  leaves_due g (fun _ => (exposureEnds_follows s p).safe g)

theorem execPlanLoad_safe {b : Prop} {s : State} (g : Safe b s) :
    Leaves b (execPlanLoad s) :=
  leaves_serveWhen g (fun body => planLoad_safe body g)

theorem execPlanArm_safe {b : Prop} {s : State} (g : Safe b s) :
    Leaves b (execPlanArm s) :=
  leaves_serve g (fun _ => planArm_safe g)

theorem execPlanStop_safe {b : Prop} {s : State} (g : Safe b s) :
    Leaves b (execPlanStop s) :=
  leaves_serve g (fun _ => planStop_safe g)

theorem execPlanAbort_safe {b : Prop} {s : State} (g : Safe b s) :
    Leaves b (execPlanAbort s) :=
  leaves_serve g (fun _ => planAbort_safe g)

theorem execPlanClear_safe {b : Prop} {s : State} (g : Safe b s) :
    Leaves b (execPlanClear s) :=
  leaves_serve g (fun _ => planClear_safe g)

theorem execPlanFire_safe {b : Prop} {s : State} (g : Safe b s) :
    Leaves b (execPlanFire s) :=
  leaves_serve g (fun _ => planFire_safe g)

theorem execPlanStatus_safe {b : Prop} {s : State} (g : Safe b s) :
    Leaves b (execPlanStatus s) := by
  unfold execPlanStatus
  refine leaves_serve g (fun _ => ?_)
  exact answer_safe _ _ g

theorem execSignalConfig_safe {b : Prop} {s : State} (g : Safe b s) :
    Leaves b (execSignalConfig s) := by
  unfold execSignalConfig
  refine leaves_serve g (fun body => ?_)
  unfold State.signalConfig
  split
  · exact reply_safe _ (settings_safe g ⟨rfl, rfl⟩)
  · exact reply_safe _ g

theorem execPeriodExpiry_safe {b : Prop} {s : State} (g : Safe b s) :
    Leaves b (execPeriodExpiry s) :=
  leaves_due g (fun _ => (takeStart_follows s .timer).safe g)

theorem execTrigInEdge_safe {b : Prop} {s : State} (edge : Edge) (g : Safe b s) :
    Leaves b (execTrigInEdge edge s) :=
  leaves_due g (fun _ => (takeStart_follows s .line).safe g)

theorem execHeldCycleStart_safe {b : Prop} {s : State} (g : Safe b s) :
    Leaves b (execHeldCycleStart s) := by
  unfold execHeldCycleStart
  refine leaves_due g (fun due => (beginCycle_follows ?_ true).safe g)
  simp only [State.heldDue, Bool.and_eq_true, decide_eq_true_eq] at due
  rw [due.1.1]
  rfl

theorem execSlotDispatch_safe {b : Prop} {s : State} (slot : Fin 4) (g : Safe b s) :
    Leaves b (execSlotDispatch slot s) := by
  unfold execSlotDispatch
  split
  · exact leaves_finish (dispatch_safe _ _ _ g)
  · exact leaves_next g

theorem execFrameHold_safe {b : Prop} {s : State} (g : Safe b s) :
    Leaves b (execFrameHold s) := by
  unfold execFrameHold
  refine leaves_serve g (fun body => ?_)
  unfold State.frameHold
  extract_lets id
  split
  · exact reply_safe _ ((setStore_changes s _).safe (by decide) g)
  · exact reply_safe _ g

theorem execFrameRelease_safe {b : Prop} {s : State} (g : Safe b s) :
    Leaves b (execFrameRelease s) := by
  unfold execFrameRelease
  refine leaves_serve g (fun body => ?_)
  unfold State.frameRelease
  extract_lets id
  split
  · split
    · exact reply_safe _ g
    · exact reply_safe _ ((setStore_changes s _).safe (by decide) g)
  · exact reply_safe _ g

theorem execStoreStatus_safe {b : Prop} {s : State} (g : Safe b s) :
    Leaves b (execStoreStatus s) := by
  unfold execStoreStatus
  refine leaves_serve g (fun body => ?_)
  unfold State.storeStatus
  split
  · exact reply_safe _ g
  · split
    · exact answer_safe _ _ g
    · split
      · exact reply_safe _ g
      · exact answer_safe _ _ g

theorem execCombineComplete_safe {b : Prop} {s : State} (g : Safe b s) :
    Leaves b (execCombineComplete s) := by
  unfold execCombineComplete
  split
  · exact leaves_finish ((completeCombine_changes _ _).safe (by decide) g)
  · exact leaves_next g

theorem execRegionRead_safe {b : Prop} {s : State} (g : Safe b s) :
    Leaves b (execRegionRead s) := by
  unfold execRegionRead
  refine leaves_serve g (fun body => ?_)
  unfold State.regionRead
  extract_lets id start mode count
  split
  · exact reply_safe _ g
  · split
    · exact reply_safe _ g
    · split
      · exact reply_safe _ g
      · split
        · exact reply_safe _ g
        · exact answer_safe _ _ ((sendChoice_changes _).safe (by decide) ((setUplink_changes s _).safe (by decide) g))

theorem execUplinkStatus_safe {b : Prop} {s : State} (g : Safe b s) :
    Leaves b (execUplinkStatus s) := by
  unfold execUplinkStatus
  refine leaves_serve g (fun _ => ?_)
  exact answer_safe _ _ g

theorem execReady_safe {b : Prop} {s : State} (grant : BitVec 16) (g : Safe b s) :
    Leaves b (execReady grant s) := by
  unfold execReady
  refine leaves_finish ((sendChoice_changes _).safe (by decide) ((linkUp_changes _ _).safe (by decide) ?_))
  split
  · exact (linkDown_changes _ _).safe (by decide) g
  · exact g

theorem execGrant_safe {b : Prop} {s : State} (grant : BitVec 16) (g : Safe b s) :
    Leaves b (execGrant grant s) := by
  unfold execGrant
  have good : Safe b s.goodWord := (setUplink_changes s _).safe (by decide) g
  refine leaves_ite (fun _ => leaves_finish ?_) (fun _ => leaves_finish ((setUplink_changes _ _).safe (by decide) good))
  exact (uplinkNext_changes _).safe (by decide) ((setUplink_changes _ _).safe (by decide) good)

theorem execIdle_safe {b : Prop} {s : State} (g : Safe b s) :
    Leaves b (execIdle s) :=
  leaves_finish ((setUplink_changes s _).safe (by decide) g)

theorem execReturnError_safe {b : Prop} {s : State} (g : Safe b s) :
    Leaves b (execReturnError s) :=
  leaves_finish ((setUplink_changes s _).safe (by decide) g)

theorem execReturnSilence_safe {b : Prop} {s : State} (g : Safe b s) :
    Leaves b (execReturnSilence s) :=
  leaves_due g (fun _ => (linkDown_changes s _).safe (by decide) g)

theorem execUplinkPacketEnd_safe {b : Prop} {s : State} (g : Safe b s) :
    Leaves b (execUplinkPacketEnd s) := by
  unfold execUplinkPacketEnd
  split
  · exact leaves_finish ((uplinkNext_changes _).safe (by decide) ((packetEnded_changes _ _).safe (by decide) g))
  · exact leaves_next g

theorem execLensMove_safe {b : Prop} {s : State} (g : Safe b s) :
    Leaves b (execLensMove s) :=
  leaves_serve g (fun body => lensMove_safe body g)

theorem execLensPreset_safe {b : Prop} {s : State} (g : Safe b s) :
    Leaves b (execLensPreset s) :=
  leaves_serve g (fun body => lensPreset_safe body g)

theorem execLensPresetSet_safe {b : Prop} {s : State} (g : Safe b s) :
    Leaves b (execLensPresetSet s) := by
  unfold execLensPresetSet
  refine leaves_serve g (fun body => ?_)
  unfold State.lensPresetSet
  split
  · exact reply_safe _ (settings_safe g ⟨rfl, rfl⟩)
  · exact reply_safe _ g

theorem execLensHome_safe {b : Prop} {s : State} (g : Safe b s) :
    Leaves b (execLensHome s) :=
  leaves_serve g (fun body => lensHome_safe body g)

theorem execLensHalt_safe {b : Prop} {s : State} (g : Safe b s) :
    Leaves b (execLensHalt s) :=
  leaves_serve g (fun body => lensHalt_safe body g)

theorem execLensStatus_safe {b : Prop} {s : State} (g : Safe b s) :
    Leaves b (execLensStatus s) := by
  unfold execLensStatus
  refine leaves_serve g (fun body => ?_)
  exact status_safe body _ g

theorem execPollSlot_safe {b : Prop} {s : State} (p : Port) (g : Safe b s) :
    Leaves b (execPollSlot p s) := by
  unfold execPollSlot
  split
  · next f h =>
    exact leaves_finish ((poll_follows s p f).safe_busy g (not_atRest_of_flight (filter_isSome h)))
  · exact leaves_next g

theorem execSidebandTransactionEnd_safe {b : Prop} {s : State} (p : Port) (outcome : BusOutcome) (g : Safe b s) :
    Leaves b (execSidebandTransactionEnd p outcome s) := by
  unfold execSidebandTransactionEnd
  split
  · next t h =>
    exact leaves_finish ((((busFree_follows s p).mono (by decide)).step (txnOutcome_follows _ p t.kind outcome)).step
      (((busPump_follows _ p).but _).mono (by decide)) |>.safe_busy g (not_atRest_of_bus (hubTxn_bus h)))
  · exact leaves_next g

theorem execSettleEnd_safe {b : Prop} {s : State} (p : Port) (g : Safe b s) :
    Leaves b (execSettleEnd p s) := by
  unfold execSettleEnd
  split
  · next f h =>
    exact leaves_finish ((moveDone_follows s p _ _).safe_busy g (not_atRest_of_flight (filter_isSome h)))
  · exact leaves_next g

theorem execMoveDeadline_safe {b : Prop} {s : State} (p : Port) (g : Safe b s) :
    Leaves b (execMoveDeadline p s) := by
  unfold execMoveDeadline
  refine leaves_due g (fun late => ?_)
  refine ((sendStop_follows s p).step (stall_follows _ p _)).safe_busy g (not_atRest_of_flight (fun h => ?_))
  unfold State.moveLate at late
  rw [h] at late
  cases late

theorem execHaltReadPoll_safe {b : Prop} {s : State} (p : Port) (g : Safe b s) :
    Leaves b (execHaltReadPoll p s) := by
  unfold execHaltReadPoll
  split
  · next f h =>
    exact leaves_finish ((haltPoll_follows s p f).safe_busy g (not_atRest_of_halt (filter_isSome h)))
  · exact leaves_next g

theorem execHaltDeadline_safe {b : Prop} {s : State} (p : Port) (g : Safe b s) :
    Leaves b (execHaltDeadline p s) := by
  unfold execHaltDeadline
  refine leaves_due g (fun late => ?_)
  refine (lensFails_follows s p _ _ _).safe_busy g (not_atRest_of_halt (fun h => ?_))
  unfold State.haltLate at late
  rw [h] at late
  cases late

theorem execBusTimeout_safe {b : Prop} {s : State} (hang : BusHang) (g : Safe b s) :
    Leaves b (execBusTimeout hang s) := by
  unfold execBusTimeout
  extract_lets bus t
  have answered : Follows lensParts (some hang.port) s t :=
    Follows.ite (fun _ => answered_follows s hang.port) (fun _ => .same _ _ s)
  have hangs := (answered.step (enterRecovery_follows t hang.port)).step (hang_follows _ hang.port bus.sendsStop)
  have finishes : bus.state ≠ .off → Leaves b (finish ((t.enterRecovery hang.port).hang hang.port bus.sendsStop)) :=
    fun h => leaves_finish (hangs.safe_busy g (not_atRest_of_bus h))
  split
  case h_1 => exact leaves_next g
  case h_2 => exact leaves_next g
  case h_3 h => exact finishes (by rw [h]; decide)
  case h_4 h => exact finishes (by rw [h]; decide)
  case h_5 h => exact finishes (by rw [h]; decide)

theorem execArbitrationLost_safe {b : Prop} {s : State} (p : Port) (g : Safe b s) :
    Leaves b (execArbitrationLost p s) := by
  unfold execArbitrationLost
  split
  · next t h => exact leaves_finish ((loseBus_follows s p t).safe_busy g (not_atRest_of_bus (hubTxn_bus h)))
  · exact leaves_next g

theorem execHeadMessage_safe {b : Prop} {s : State} (p : Port) (bytes : List Byte) (g : Safe b s) :
    Leaves b (execHeadMessage p bytes s) := by
  unfold execHeadMessage
  refine leaves_due g (fun head => ?_)
  exact ((headMessage_follows s p bytes).step (busFree_follows _ p)).step ((busPump_follows _ p).but _) |>.safe_busy g
    (not_atRest_of_bus (by rw [head]; decide))

theorem execMotionSegment_safe {b : Prop} {s : State} (g : Safe b s) :
    Leaves b (execMotionSegment s) := by
  unfold execMotionSegment
  refine leaves_serve g (fun body => ?_)
  unfold State.motionSegment
  split
  · exact reply_safe _ g
  · split
    · exact reply_safe _ g
    · exact reply_safe _ ((sweepResume_follows _).safe ((monitor_changes s _).safe (by decide) g))

theorem execEvidenceConfig_safe {b : Prop} {s : State} (g : Safe b s) :
    Leaves b (execEvidenceConfig s) := by
  unfold execEvidenceConfig
  refine leaves_serve g (fun body => ?_)
  unfold State.evidenceConfig
  split
  · exact reply_safe _ (settings_safe g ⟨rfl, rfl⟩)
  · exact reply_safe _ g

theorem execBreakList_safe {b : Prop} {s : State} (g : Safe b s) :
    Leaves b (execBreakList s) := by
  unfold execBreakList
  refine leaves_serve g (fun body => ?_)
  unfold State.breakList
  split
  · exact answer_safe _ _ g
  · exact status_safe body _ g

theorem execBreakClear_safe {b : Prop} {s : State} (g : Safe b s) :
    Leaves b (execBreakClear s) :=
  leaves_serve g (fun body => breakClear_safe body g)

theorem execEvidenceWindowClose_safe {b : Prop} {s : State} (g : Safe b s) :
    Leaves b (execEvidenceWindowClose s) :=
  leaves_due g (fun _ => (beginWindow_changes _).safe (by decide)
    ((forPorts_changes judgePort_changes _ _).safe (by decide) g))

theorem execCableSet_safe {b : Prop} {s : State} (g : Safe b s) :
    Leaves b (execCableSet s) := by
  unfold execCableSet
  refine leaves_serveWhen g (fun body => ?_)
  unfold State.cableSet
  split
  · split
    · exact reply_safe _ g
    · exact reply_safe _ (settings_safe g ⟨rfl, rfl⟩)
  · exact reply_safe _ g

theorem execSweepRequest_safe {b : Prop} {s : State} (g : Safe b s) :
    Leaves b (execSweepRequest s) :=
  leaves_serve g (fun body => sweepRequest_safe body g)

theorem execSweepCancel_safe {b : Prop} {s : State} (g : Safe b s) :
    Leaves b (execSweepCancel s) :=
  leaves_serve g (fun body => sweepCancel_safe body g)

theorem execSweepResult_safe {b : Prop} {s : State} (g : Safe b s) :
    Leaves b (execSweepResult s) := by
  unfold execSweepResult
  refine leaves_serve g (fun body => ?_)
  exact status_safe body _ g

theorem execCalibrationEnd_safe {b : Prop} {s : State} (count : Nat) (g : Safe b s) :
    Leaves b (execCalibrationEnd count s) := by
  unfold execCalibrationEnd
  split
  · exact leaves_finish ((calibrated_follows _ _ _).safe g)
  · exact leaves_next g

theorem execAcquisitionEnd_safe {b : Prop} {s : State} (deviations : List Int) (g : Safe b s) :
    Leaves b (execAcquisitionEnd deviations s) := by
  unfold execAcquisitionEnd
  split
  · exact leaves_finish (acquisitionEnds_safe _ _ g)
  · exact leaves_next g

theorem execSweepDeadline_safe {b : Prop} {s : State} (g : Safe b s) :
    Leaves b (execSweepDeadline s) := by
  unfold execSweepDeadline
  split
  · exact leaves_finish ((gatheringEnds_changes _ _).safe (by decide) g)
  · exact leaves_next g

theorem execAnalysisEnd_safe {b : Prop} {s : State} (g : Safe b s) :
    Leaves b (execAnalysisEnd s) := by
  unfold execAnalysisEnd
  split
  · exact leaves_finish ((analysed_changes _ _).safe (by decide) g)
  · exact leaves_next g

theorem execIdentify_safe {b : Prop} {s : State} (g : Safe b s) :
    Leaves b (execIdentify s) := by
  unfold execIdentify
  refine leaves_serve g (fun _ => ?_)
  exact answer_safe _ _ g

theorem execLinkStatus_safe {b : Prop} {s : State} (g : Safe b s) :
    Leaves b (execLinkStatus s) := by
  unfold execLinkStatus
  refine leaves_serve g (fun _ => ?_)
  exact answer_safe _ _ g

theorem execCellReset_safe {b : Prop} {s : State} (g : Safe b s) :
    Leaves b (execCellReset s) := by
  unfold execCellReset
  refine leaves_serve g (fun _ => ?_)
  exact reply_safe _ (cellReset_safe g)

theorem execProfileSave_safe {b : Prop} {s : State} (g : Safe b s) :
    Leaves b (execProfileSave s) := by
  unfold execProfileSave
  refine leaves_serve g (fun _ => ?_)
  unfold State.profileSave
  split
  · exact reply_safe _ g
  · exact reply_safe _ (profile_safe _ g)

theorem execProfileWriteEnd_safe {b : Prop} {s : State} (agrees : Bool) (g : Safe b s) :
    Leaves b (execProfileWriteEnd agrees s) := by
  unfold execProfileWriteEnd
  split
  · exact leaves_finish (post_safe _ _ (profile_safe _ g))
  · exact leaves_next g

theorem execProfileRestoreDefaults_safe {b : Prop} {s : State} (g : Safe b s) :
    Leaves b (execProfileRestoreDefaults s) := by
  unfold execProfileRestoreDefaults
  refine leaves_serve g (fun _ => ?_)
  split
  · next takes => exact reply_safe _ (restoreDefaults_safe g takes)
  · exact reply_safe _ g

theorem execHeadStart_safe {b : Prop} {s : State} (p : Port) (g : Safe b s) :
    Leaves b (execHeadStart p s) := by
  unfold execHeadStart
  refine leaves_due g (fun free => ?_)
  exact (lens_follows s p _ rfl).safe_busy g (not_atRest_of_bus (by rw [free]; decide))

theorem execBusRecoveryEnd_safe {b : Prop} {s : State} (p : Port) (g : Safe b s) :
    Leaves b (execBusRecoveryEnd p s) := by
  unfold execBusRecoveryEnd
  refine leaves_due g (fun recovery => ?_)
  exact ((busFree_follows s p).step ((busPump_follows _ p).but _)).safe_busy g
    (not_atRest_of_bus (by rw [recovery]; decide))

theorem execGatheredContentOverlong_safe {b : Prop} {s : State} (g : Safe b s) :
    Leaves b (execGatheredContentOverlong s) :=
  leaves_due g (fun _ => link_safe _ g)

/-- Every command keeps the invariants. -/
theorem exec_safe {b : Prop} {s : State} (i : Instr) (g : Safe b s) : Leaves b (exec i s) := by
  cases i with
  | powerOnReset => exact execPowerOnReset_safe s
  | nreset => exact execNreset_safe s
  | controlFrameReceived bytes => exact execControlFrameReceived_safe bytes g
  | unknownRequest => exact execUnknownRequest_safe g
  | txFrameEnd => exact execTxFrameEnd_safe g
  | portConfig => exact execPortConfig_safe g
  | portPowerOn => exact execPortPowerOn_safe g
  | portPowerOff => exact execPortPowerOff_safe g
  | portPowerProbe => exact execPortPowerProbe_safe g
  | portUnlock => exact execPortUnlock_safe g
  | portStatus => exact execPortStatus_safe g
  | setCapacity => exact execSetCapacity_safe g
  | setSupplyPolicy => exact execSetSupplyPolicy_safe g
  | supplyStatus => exact execSupplyStatus_safe g
  | probePulseStart p => exact execProbePulseStart_safe p g
  | probePulseEnd p milliamps => exact execProbePulseEnd_safe p milliamps g
  | rampEnd p => exact execRampEnd_safe p g
  | currentSample p milliamps => exact execCurrentSample_safe p milliamps g
  | thresholdTrip p => exact execThresholdTrip_safe p g
  | hardLimitTrip p milliamps => exact execHardLimitTrip_safe p milliamps g
  | openLoad p => exact execOpenLoad_safe p g
  | cooldownEnd p => exact execCooldownEnd_safe p g
  | tripDecay p => exact execTripDecay_safe p g
  | supplyLow millivolts heldMicros => exact execSupplyLow_safe millivolts heldMicros g
  | supplyFullShedCheck millivolts => exact execSupplyFullShedCheck_safe millivolts g
  | supplyRecovered millivolts heldMicros => exact execSupplyRecovered_safe millivolts heldMicros g
  | laneStatus => exact execLaneStatus_safe g
  | laneLockAcquired p => exact execLaneLockAcquired_safe p g
  | trainingDeadline p => exact execTrainingDeadline_safe p g
  | trainingRetry p => exact execTrainingRetry_safe p g
  | lockLost p => exact execLockLost_safe p g
  | quietRetrainEnd p hasLock => exact execQuietRetrainEnd_safe p hasLock g
  | packetUnknownType p => exact execPacketUnknownType_safe p g
  | frameStart p tag width height depth => exact execFrameStart_safe p tag width height depth g
  | line p number pixels crc => exact execLine_safe p number pixels crc g
  | frameEnd p tag lineCount => exact execFrameEnd_safe p tag lineCount g
  | receptionDeadline p => exact execReceptionDeadline_safe p g
  | exposureWindowEnd p => exact execExposureWindowEnd_safe p g
  | planLoad => exact execPlanLoad_safe g
  | planArm => exact execPlanArm_safe g
  | planStop => exact execPlanStop_safe g
  | planAbort => exact execPlanAbort_safe g
  | planClear => exact execPlanClear_safe g
  | planFire => exact execPlanFire_safe g
  | planStatus => exact execPlanStatus_safe g
  | signalConfig => exact execSignalConfig_safe g
  | periodExpiry => exact execPeriodExpiry_safe g
  | trigInEdge edge => exact execTrigInEdge_safe edge g
  | heldCycleStart => exact execHeldCycleStart_safe g
  | slotDispatch slot => exact execSlotDispatch_safe slot g
  | frameHold => exact execFrameHold_safe g
  | frameRelease => exact execFrameRelease_safe g
  | storeStatus => exact execStoreStatus_safe g
  | combineComplete => exact execCombineComplete_safe g
  | regionRead => exact execRegionRead_safe g
  | uplinkStatus => exact execUplinkStatus_safe g
  | ready grant => exact execReady_safe grant g
  | grant grant => exact execGrant_safe grant g
  | idle => exact execIdle_safe g
  | returnError => exact execReturnError_safe g
  | returnSilence => exact execReturnSilence_safe g
  | uplinkPacketEnd => exact execUplinkPacketEnd_safe g
  | lensMove => exact execLensMove_safe g
  | lensPreset => exact execLensPreset_safe g
  | lensPresetSet => exact execLensPresetSet_safe g
  | lensHome => exact execLensHome_safe g
  | lensHalt => exact execLensHalt_safe g
  | lensStatus => exact execLensStatus_safe g
  | pollSlot p => exact execPollSlot_safe p g
  | sidebandTransactionEnd p outcome => exact execSidebandTransactionEnd_safe p outcome g
  | settleEnd p => exact execSettleEnd_safe p g
  | moveDeadline p => exact execMoveDeadline_safe p g
  | haltReadPoll p => exact execHaltReadPoll_safe p g
  | haltDeadline p => exact execHaltDeadline_safe p g
  | busTimeout hang => exact execBusTimeout_safe hang g
  | arbitrationLost p => exact execArbitrationLost_safe p g
  | headMessage p bytes => exact execHeadMessage_safe p bytes g
  | motionSegment => exact execMotionSegment_safe g
  | evidenceConfig => exact execEvidenceConfig_safe g
  | breakList => exact execBreakList_safe g
  | breakClear => exact execBreakClear_safe g
  | evidenceWindowClose => exact execEvidenceWindowClose_safe g
  | cableSet => exact execCableSet_safe g
  | sweepRequest => exact execSweepRequest_safe g
  | sweepCancel => exact execSweepCancel_safe g
  | sweepResult => exact execSweepResult_safe g
  | calibrationEnd count => exact execCalibrationEnd_safe count g
  | acquisitionEnd deviations => exact execAcquisitionEnd_safe deviations g
  | sweepDeadline => exact execSweepDeadline_safe g
  | analysisEnd => exact execAnalysisEnd_safe g
  | identify => exact execIdentify_safe g
  | linkStatus => exact execLinkStatus_safe g
  | cellReset => exact execCellReset_safe g
  | profileSave => exact execProfileSave_safe g
  | profileWriteEnd agrees => exact execProfileWriteEnd_safe agrees g
  | profileRestoreDefaults => exact execProfileRestoreDefaults_safe g
  | headStart p => exact execHeadStart_safe p g
  | busRecoveryEnd p => exact execBusRecoveryEnd_safe p g
  | gatheredContentOverlong => exact execGatheredContentOverlong_safe g

theorem tick_safe {b : Prop} {s : State} (g : Safe b s) : Safe b s.tick := by
  have clocked : ∀ now, Safe b { s with clock := now } := fun now =>
    ⟨g.trips, ⟨g.sound.claims, g.sound.once, g.sound.lanes, g.sound.lenses, g.sound.lensClaims, g.sound.marks⟩, g.funded⟩
  unfold State.tick
  split
  · exact clocked _
  · exact (usedFree_changes _).safe (by decide) (clocked _)

theorem step_safe {b : Prop} {s t : State} (g : Safe b s) (h : step s = .next t) : Safe b t := by
  have queue : ∀ rest, Safe b { s with pending := rest } := fun rest =>
    ⟨g.trips, ⟨g.sound.claims, g.sound.once, g.sound.lanes, g.sound.lenses, g.sound.lensClaims, g.sound.marks⟩, g.funded⟩
  have leaves : Leaves b (step s) := by
    unfold step
    split
    · exact exec_safe _ (queue _)
    · split
      · exact exec_safe _ g
      · exact leaves_next (tick_safe g)
  exact leaves t h

/-- Settles O59: each operation of the model keeps `Safe`, which holds the power invariants; here with no budget asked. -/
theorem powerStaysSound : Obligations.PowerStaysSound := fun _ _ sound h =>
  (safe_iff.mp (step_safe (b := False) (safe_iff.mpr ⟨sound, False.elim⟩) h)).1

/-- Settles O60: each operation of the model keeps `Safe` with the budget. -/
theorem committedNeverExceedsCapacity : Obligations.CommittedNeverExceedsCapacity := fun _ _ sound needs budget h =>
  ((safe_iff.mp (step_safe (b := True) (safe_iff.mpr ⟨sound, fun _ => ⟨needs, budget⟩⟩) h)).2 trivial).symm

end Sys2Proof.Power
end

section
/-!
PROOFS. Requests: how the fields of a body are read where R174 puts them, the status requests, the requests that replace
settings, PORT_UNLOCK, PORT_CONFIG and SET_CAPACITY.
-/

namespace Sys2Proof.Power

open Sys2Proof.Machine Sys2Proof.Safety

/-! ## The fields of a body (R174) -/

theorem numAt_num1_only (n : Nat) (h : n < 256) : numAt (num1 n) 0 1 = n := by
  have := numAt_num1 n [] h
  rwa [List.append_nil] at this

theorem numAt_num2_only (n : Nat) (h : n < 65536) : numAt (num2 n) 0 2 = n := by
  have := numAt_num2 n [] h
  rwa [List.append_nil] at this

theorem numAt_num4_only (n : Nat) (h : n < 4294967296) : numAt (num4 n) 0 4 = n := by
  have := numAt_num4 n [] h
  rwa [List.append_nil] at this

theorem numAt_one_byte (b : Byte) (rest : List Byte) : numAt (b :: rest) 0 1 = b.toNat := by
  simp [numAt, bytesNum]

theorem numAt_tail (b : Byte) (rest : List Byte) (o size : Nat) : numAt (b :: rest) (o + 1) size = numAt rest o size := by
  simp [numAt]

/-! ## Status requests -/

/-- A status request about a port, where the row answers by the port's number. -/
theorem serve_port_ok {s : State} {kind tag : Byte} {p : Port} (h : Serves s kind tag (num1 p.val))
    (fields : State → Port → List Byte) :
    s.serve kind 1 (fun b s => match portAt b 0 with
      | none => s.reply .outOfRange
      | some p => s.answer .ok (fields s p)) = .next (s.answer .ok (fields s p)).transmit := by
  rw [serve_owner h (num1_length _)]
  simp only [portAt_num1_only]

theorem serve_port_none {s : State} {kind tag n : Byte} (h : Serves s kind tag [n]) (large : 7 < n.toNat)
    (fields : State → Port → List Byte) :
    s.serve kind 1 (fun b s => match portAt b 0 with
      | none => s.reply .outOfRange
      | some p => s.answer .ok (fields s p)) = .next (s.reply .outOfRange).transmit := by
  rw [serve_owner h (by rfl)]
  simp only [portAt_none n [] large]

theorem breakList_port {s : State} {tag : Byte} {p : Port} (h : Serves s 0x1E tag (num1 p.val)) :
    exec .breakList s = .next (s.answer .ok (s.breakListHead ++ s.breakListPort p)).transmit := by
  have below := p.isLt
  refine (serve_owner h (num1_length _) State.breakList).trans ?_
  rw [State.breakList, numAt_num1_only _ (by omega), if_neg (by omega), portAt_num1_only]

theorem breakList_none {s : State} {tag n : Byte} (h : Serves s 0x1E tag [n]) (large : 7 < n.toNat) (all : n ≠ 0xFF) :
    exec .breakList s = .next (s.reply .outOfRange).transmit := by
  have other : n.toNat ≠ 255 := fun e => all (BitVec.eq_of_toNat_eq e)
  refine (serve_owner h rfl State.breakList).trans ?_
  rw [State.breakList, numAt_one_byte, if_neg other, portAt_none n [] large]

theorem breakList_all {s : State} {tag : Byte} (h : Serves s 0x1E tag [0xFF]) :
    exec .breakList s = .next (s.answer .ok (s.breakListHead ++ s.breakListAll)).transmit := by
  refine (serve_owner h rfl State.breakList).trans ?_
  rw [State.breakList, numAt_one_byte, if_pos (by rfl)]

theorem storeStatus_all {s : State} {tag : Byte} (h : Serves s 0x13 tag (0 :: num4 0)) :
    exec .storeStatus s = .next (s.answer .ok s.store.statusFields).transmit :=
  (serve_owner h rfl State.storeStatus).trans (by rfl)

/-- STORE_STATUS of one frame: the row's answer by the frame that the id names. -/
theorem storeStatus_frame {s : State} {tag : Byte} {id : Nat} (h : Serves s 0x13 tag (1 :: num4 id))
    (small : id < 4294967296) : exec .storeStatus s = .next (match s.store.frame? id with
      | none => s.reply .notFound
      | some f => s.answer .ok (frameRecordBytes f s.store.buffers[f.buffer])).transmit := by
  refine (serve_owner h (by simp) State.storeStatus).trans ?_
  have present : optAt (1 :: num4 id) 0 4 = some id := by
    rw [optAt, flagAt, numAt_one_byte, if_pos (by rfl), numAt_tail, numAt_num4_only id small]
  rw [State.storeStatus, flagOkAt, numAt_one_byte, if_neg (by decide), present] <;> rfl

/-- A status request with an empty body. -/
theorem serve_fields {s : State} {kind tag : Byte} (h : Serves s kind tag []) (fields : State → List Byte) :
    s.serve kind 0 (fun _ s => s.answer .ok (fields s)) = .next (s.answer .ok (fields s)).transmit :=
  serve_owner h rfl _

/-- Settles O7: each row reads its body's port or id and replies, by the rows' own equations. -/
theorem statusRequestsOnlyReply : Obligations.StatusRequestsOnlyReply := by
  intro s tag
  refine ⟨fun p => ⟨?_, ?_, ?_, ?_, ?_⟩, fun n large => ⟨?_, ?_, ?_, ?_, ?_⟩, ?_, ?_, ?_, ?_, ?_, fun id small h => ⟨?_, ?_⟩⟩
  · exact fun h => serve_port_ok h State.portStatusFields
  · exact fun h => serve_port_ok h State.laneStatusFields
  · exact fun h => serve_port_ok h State.lensStatusFields
  · exact breakList_port
  · exact fun h => serve_port_ok h State.sweepResultFields
  · exact fun h => serve_port_none h large State.portStatusFields
  · exact fun h => serve_port_none h large State.laneStatusFields
  · exact fun h => serve_port_none h large State.lensStatusFields
  · exact fun h all => breakList_none h large all
  · exact fun h => serve_port_none h large State.sweepResultFields
  · exact breakList_all
  · exact fun h => serve_fields h State.supplyStatusFields
  · exact fun h => serve_fields h State.planStatusFields
  · exact fun h => serve_fields h State.uplinkStatusFields
  · exact storeStatus_all
  · intro absent
    rw [storeStatus_frame h small, absent]
  · intro f found
    rw [storeStatus_frame h small, found]

/-! ## The state after reset -/

theorem reset_port {α : Type} (a : α) (q : Port) : (Vector.replicate 8 a)[q] = a := by simp

theorem reset_storeSound : StoreSound State.reset := by
  refine ⟨List.nodup_nil, List.nodup_nil, ⟨by decide, fun b => ?_⟩, fun b => ?_⟩
  · fin_cases b <;> decide
  · fin_cases b <;> decide

theorem reset_safe : Safe True State.reset := by
  refine rested_safe rfl (fun q => ?_) (fun q => ?_) (fun q => ?_) (fun q => ?_) (fun q => ?_) rfl
  · show Trip (Vector.replicate 8 ({} : PortPower))[q]
    rw [reset_port]
    decide
  · show Configurable (Vector.replicate 8 ({} : PortPower))[q].state
    rw [reset_port]
    exact .inl rfl
  · show (Vector.replicate 8 ({} : PortPower))[q].shedMark = false
    rw [reset_port]
  · show (Vector.replicate 8 ({} : Lane))[q].state = .down
    rw [reset_port]
  · show Resting (Vector.replicate 8 ({} : Lens))[q]
    rw [reset_port]
    exact ⟨.inr rfl, rfl, rfl, rfl, rfl, rfl, rfl⟩

theorem reset_bins : Bins State.reset := by
  intro q
  show (Vector.replicate 8 ({} : Evidence))[q].bins.toList.sum = (Vector.replicate 8 ({} : Evidence))[q].errors
  rw [reset_port]
  decide

theorem reset_acquisitions : AcquisitionsAreQuiet State.reset := by
  refine ⟨fun a h => (by cases h), fun q h => absurd ?_ h⟩
  show (Vector.replicate 8 ({} : Lane))[q].retrainAt = none
  rw [reset_port]

/-- Settles O54: each invariant, by what the state after reset holds. -/
theorem resetMeetsInvariants : Obligations.ResetMeetsInvariants := by
  obtain ⟨sound, funded⟩ := safe_iff.mp reset_safe
  exact ⟨by decide, reset_storeSound, reset_bins, by decide, List.Pairwise.nil, by decide, by decide, by decide,
    by decide, reset_acquisitions, sound, (funded trivial).1, (funded trivial).2⟩

end Sys2Proof.Power
end

section
/-!
PROOFS. The requests of chapter 1 that replace settings or a profile, PORT_UNLOCK, and SET_CAPACITY; and the other requests
that replace settings.
-/

namespace Sys2Proof.Power

open Sys2Proof.Machine Sys2Proof.Safety

/-! ## A change of power state as one change of the switch and one notice (R2) -/

theorem upd_congr {α : Type} {n : Nat} (v : Vector α n) (i : Fin n) {f g : α → α} (h : f v[i] = g v[i]) :
    upd v i f = upd v i g := by
  unfold upd
  rw [h]

theorem setPowerState_eq (s : State) (p : Port) (new : PowerState) (r : OffReason) :
    s.setPowerState p new r = ({ s with power := upd s.power p (fun w => w.enter (s.profileOf p) s.clock new r) }).post
      (some p) (.portState .state new s.power[p].state r) := by
  unfold State.setPowerState State.portStateNotice
  rw [State.setPower_power, upd_same]
  rfl

theorem enter_off (w : PortPower) (f : PortProfile) (now : Time) (r : OffReason) : w.enter f now .off r = { w with
    state := .off
    reason := r
    overRun := none
    underRun := none
    pulseEndAt := none
    probeAt := none
    rampEndAt := none
    cooldownEndAt := none } := by
  simp [PortPower.enter, PowerState.reserved]

theorem enter_probing (w : PortPower) (f : PortProfile) (now : Time) (r : OffReason) : w.enter f now .probing r = { w with
    state := .probing
    reason := r
    presence := .unseen
    overRun := none
    underRun := none
    shedMark := if w.state = .off then false else w.shedMark
    pulseEndAt := if f.probeEnable then some (now + 2000) else none
    probeAt := if f.probeEnable then some (now + f.probePeriod * 1000) else none
    rampEndAt := none
    cooldownEndAt := none } := by
  simp [PortPower.enter, PowerState.reserved]

theorem enter_waiting (w : PortPower) (f : PortProfile) (now : Time) (r : OffReason) : w.enter f now .waiting r = { w with
    state := .waiting
    reason := r
    overRun := none
    underRun := none
    shedMark := if w.state = .off then false else w.shedMark
    pulseEndAt := none
    probeAt := none
    rampEndAt := none
    cooldownEndAt := none } := by
  simp [PortPower.enter, PowerState.reserved]

theorem enter_ramping (w : PortPower) (f : PortProfile) (now : Time) (r : OffReason) : w.enter f now .ramping r = { w with
    state := .ramping
    reason := r
    underRun := none
    shedMark := if w.state = .off then false else w.shedMark
    pulseEndAt := none
    probeAt := none
    rampEndAt := some (now + 20000)
    cooldownEndAt := none } := by
  simp [PortPower.enter, PowerState.reserved]

/-! ## PORT_UNLOCK (R17) -/

/-- Settles O16: the counts are cleared and the state set, in one change of the port's switch. -/
theorem portUnlockClearsTrips : Obligations.PortUnlockClearsTrips := by
  intro s tag p h
  have serves : exec .portUnlock s = .next (State.portUnlock (num1 p.val) s).transmit :=
    serve_owner h (num1_length _) State.portUnlock
  refine ⟨fun locked => ?_, fun other => ?_⟩
  · rw [serves, State.portUnlock, portAt_num1_only]
    simp only [if_pos locked]
    rw [setPowerState_eq, State.setPower_power, upd_same, upd_upd, locked,
      upd_congr s.power p (g := fun w => { w with
        state := .off
        tripCount := 0
        decayAt := none
        overRun := none
        underRun := none
        pulseEndAt := none
        probeAt := none
        rampEndAt := none
        cooldownEndAt := none }) (by rw [enter_off])]
    rfl
  · rw [serves, State.portUnlock, portAt_num1_only]
    simp only [if_neg other]

/-! ## SET_CAPACITY and the quantities of the supply (R9, R19, R23, R24) -/

theorem reserved_iff (st : PowerState) : st.reserved = true ↔ st = .ramping ∨ st = .on := by cases st <;> decide

theorem inService_iff (st : PlanState) : st.inService = true ↔ st = .armed ∨ st = .running ∨ st = .stopping := by
  cases st <;> decide

theorem inMotion_iff (st : LensState) : st.inMotion = true ↔ st = .moving ∨ st = .homing := by cases st <;> decide

theorem inRange_iff (low high n : Nat) : inRange low high n = true ↔ low ≤ n ∧ n ≤ high := by
  unfold inRange
  rw [Bool.and_eq_true, decide_eq_true_eq, decide_eq_true_eq]

theorem setCapacity_serves {s : State} {tag : Byte} {n : Nat} (h : Serves s 0x05 tag (num2 n)) (small : n < 65536) :
    exec .setCapacity s = .next (if !inRange 500 40000 n then s.reply .outOfRange
      else if n < s.committed then s.answer .noBudget (num2 s.committed)
      else ({ s with settings := { s.settings with capacity := n } }).walk.reply .ok).transmit := by
  refine (serve_owner h (num2_length _) State.setCapacity).trans ?_
  rw [State.setCapacity, numAt_num2_only n small]

theorem not_inRange {low high n : Nat} (h : n < low ∨ high < n) : (!inRange low high n) = true := by
  rw [Bool.not_eq_true', Bool.eq_false_iff, Ne, inRange_iff]
  omega

theorem in_inRange {low high n : Nat} (h : low ≤ n) (h' : n ≤ high) : ¬ (!inRange low high n) = true := by
  rw [Bool.not_eq_true', Bool.not_eq_false, inRange_iff]
  exact ⟨h, h'⟩

/-- Settles O18: the quantities by their definitions, and SET_CAPACITY by its checks. -/
theorem capacityCoversCommitted : Obligations.CapacityCoversCommitted := by
  refine ⟨fun s p => ⟨?_, ?_, rfl, rfl⟩, fun s tag n small h => ⟨fun out => ?_, fun low high less => ?_, fun low high covers => ?_⟩⟩
  · have base : s.basePart = (allPorts.map (fun q =>
        if s.power[q].state = .ramping ∨ s.power[q].state = .on then s.settings.ports[q].baseReservation else 0)).sum :=
      congrArg List.sum (List.map_congr_left (fun q _ => if_congr (reserved_iff _) rfl rfl))
    have strobe : s.strobePart = if s.seq.state = .armed ∨ s.seq.state = .running ∨ s.seq.state = .stopping then
        s.strobeReservation else 0 := if_congr (inService_iff _) rfl rfl
    rw [State.committed, base, strobe]
    rfl
  · exact congrArg (fun n => min 4500 (_ + n)) (if_congr (inMotion_iff s.lenses[p].state) rfl rfl)
  · rw [setCapacity_serves h small, if_pos (not_inRange out)]
  · rw [setCapacity_serves h small, if_neg (in_inRange low high), if_pos less]
  · rw [setCapacity_serves h small, if_neg (in_inRange low high), if_neg (by omega)]

end Sys2Proof.Power
end

section
/-!
PROOFS. The requests that replace settings, and PORT_CONFIG: the fields of their bodies read where R174 puts them.
-/

namespace Sys2Proof.Power

open Sys2Proof.Machine Sys2Proof.Safety

/-! ## Fields further on in a body (R174) -/

theorem optNum_length (size : Nat) (o : Option Nat) : (optNum size o).length = size + 1 := by
  cases o <;> simp [optNum, optField]

theorem flagByte_length (b : Bool) : (flagByte b).length = 1 := by cases b <;> rfl

theorem flagAt_skip (pre rest : List Byte) (o : Nat) (h : pre.length ≤ o) :
    flagAt (pre ++ rest) o = flagAt rest (o - pre.length) := by
  rw [flagAt, numAt_skip _ _ _ _ h, flagAt]

theorem flagOkAt_skip (pre rest : List Byte) (o : Nat) (h : pre.length ≤ o) :
    flagOkAt (pre ++ rest) o = flagOkAt rest (o - pre.length) := by
  rw [flagOkAt, numAt_skip _ _ _ _ h, flagOkAt]

theorem optAt_skip (pre rest : List Byte) (o size : Nat) (h : pre.length ≤ o) :
    optAt (pre ++ rest) o size = optAt rest (o - pre.length) size := by
  rw [optAt, flagAt_skip _ _ _ h, numAt_skip _ _ _ _ (by omega), optAt, Nat.sub_add_comm h]

theorem optAt_optNum {size : Nat} {o : Option Nat} (rest : List Byte) (fits : ∀ k, o = some k → k < 256 ^ size) :
    optAt (optNum size o ++ rest) 0 size = o := by
  cases o with
  | none => simp [optNum, optField, optAt, flagAt, numAt_one_byte]
  | some k =>
    simp only [optNum, optField, List.cons_append, optAt, flagAt, numAt_one_byte, numAt_tail, numAt_head size k rest (fits k rfl)]
    rfl

theorem flagOkAt_optNum (size : Nat) (o : Option Nat) (rest : List Byte) : flagOkAt (optNum size o ++ rest) 0 = true := by
  cases o <;> simp [optNum, optField, flagOkAt, numAt_one_byte]

/-! ## SET_SUPPLY_POLICY and SIGNAL_CONFIG (R28, R74) -/

theorem numAt_second {a b : Nat} (hb : b < 256) : numAt (num1 a ++ num1 b) 1 1 = b := by
  rw [numAt_skip _ _ _ _ (Nat.le_of_eq (num1_length a)), num1_length, numAt_num1_only b hb]

theorem setSupplyPolicy_serves {s : State} {tag : Byte} {a b : Nat} (h : Serves s 0x06 tag (num1 a ++ num1 b))
    (ha : a < 256) (hb : b < 256) : exec .setSupplyPolicy s = .next (if inRange 0 4 a && inRange 0 1 b then
      ({ s with settings := { s.settings with
        keepLevel := a, policy := if b = 0 then .auto else .latched } }).reply .ok
      else s.reply .outOfRange).transmit := by
  refine (serve_owner h (by simp) State.setSupplyPolicy).trans ?_
  rw [State.setSupplyPolicy, numAt_num1 a _ ha, numAt_second hb]

theorem signalConfig_serves {s : State} {tag : Byte} {a b : Nat} (h : Serves s 0x10 tag (num1 a ++ num1 b))
    (ha : a < 256) (hb : b < 256) : exec .signalConfig s = .next (if a ≤ 4 && b ≤ 4 then
      ({ s with settings := { s.settings with
        signalA := signalFunctionOf a, signalB := signalFunctionOf b } }).reply .ok
      else s.reply .outOfRange).transmit := by
  refine (serve_owner h (by simp) State.signalConfig).trans ?_
  rw [State.signalConfig, numAt_num1 a _ ha, numAt_second hb]

/-- A function of SIGNAL_CONFIG as its byte names it. -/
theorem signalFunctionOf_named {a : Nat} {f : SignalFunction}
    (h : a = 0 ∧ f = .low ∨ a = 1 ∧ f = .cycleActive ∨ a = 2 ∧ f = .exposing ∨ a = 3 ∧ f = .breakConfirmed ∨
      a = 4 ∧ f = .supplyLow) : a ≤ 4 ∧ signalFunctionOf a = f := by
  rcases h with ⟨rfl, rfl⟩ | ⟨rfl, rfl⟩ | ⟨rfl, rfl⟩ | ⟨rfl, rfl⟩ | ⟨rfl, rfl⟩ <;> exact ⟨by decide, rfl⟩

/-! ## LENS_PRESET_SET (R116) -/

/-- The body of a LENS_PRESET_SET. -/
def presetBody (a b : Nat) (e : PresetEntry) : List Byte :=
  num1 a ++ num1 b ++ num2 e.focus ++ optNum 1 e.iris ++ optNum 2 e.zoom ++ num2 e.settle

/-- Each number of a preset entry fits the bytes that carry it. -/
structure PresetFits (e : PresetEntry) : Prop where
  focus : e.focus < 65536
  iris : ∀ k, e.iris = some k → k < 256
  zoom : ∀ k, e.zoom = some k → k < 65536
  settle : e.settle < 65536

/-- A preset entry within its ranges (R116). -/
abbrev PresetInRange (e : PresetEntry) : Prop := e.focus ≤ 4095 ∧ (∀ k, e.zoom = some k → k ≤ 4095) ∧ e.settle ≤ 500

theorem presetOf_body {a b : Nat} {e : PresetEntry} (fits : PresetFits e) :
    presetOf (presetBody a b e) = if PresetInRange e then some e else none := by
  have focus : numAt (presetBody a b e) 2 2 = e.focus := by
    simp [presetBody, numAt_skip, numAt_num2 _ _ fits.focus]
  have settle : numAt (presetBody a b e) 9 2 = e.settle := by
    simp [presetBody, numAt_skip, optNum_length, numAt_num2_only _ fits.settle]
  have iris : optAt (presetBody a b e) 4 1 = e.iris := by
    simp [presetBody, optAt_skip, optAt_optNum (size := 1) _ fits.iris]
  have zoom : optAt (presetBody a b e) 6 2 = e.zoom := by
    simp [presetBody, optAt_skip, optNum_length, optAt_optNum (size := 2) _ fits.zoom]
  have flags : flagOkAt (presetBody a b e) 4 = true ∧ flagOkAt (presetBody a b e) 6 = true := by
    simp [presetBody, flagOkAt_skip, optNum_length, flagOkAt_optNum]
  have irisOk : optInRange 0 255 e.iris = true := by
    cases h : e.iris with
    | none => rfl
    | some k => exact (inRange_iff _ _ _).mpr ⟨Nat.zero_le _, Nat.le_of_lt_succ (fits.iris k h)⟩
  have zoomOk : optInRange 0 4095 e.zoom = true ↔ ∀ k, e.zoom = some k → k ≤ 4095 := by
    cases h : e.zoom with
    | none => simp [optInRange]
    | some k => simp [optInRange, inRange_iff]
  rw [presetOf, focus, settle, iris, zoom, flags.1, flags.2, irisOk]
  refine if_congr ?_ rfl rfl
  simp only [Bool.and_eq_true, decide_eq_true_eq, zoomOk, PresetInRange]
  tauto

theorem portAt_large {a : Nat} (rest : List Byte) (fits : a < 256) (h : 7 < a) : portAt (num1 a ++ rest) 0 = none := by
  rw [portAt, numAt_num1 a rest fits]
  exact dif_neg (by omega)

theorem presetBody_port (a b : Nat) (e : PresetEntry) :
    presetBody a b e = num1 a ++ (num1 b ++ (num2 e.focus ++ (optNum 1 e.iris ++ (optNum 2 e.zoom ++ num2 e.settle)))) := by
  simp only [presetBody, List.append_assoc]

theorem presetBody_index {a b : Nat} (e : PresetEntry) (hb : b < 256) : numAt (presetBody a b e) 1 1 = b := by
  rw [presetBody_port, numAt_skip _ _ _ _ (Nat.le_of_eq (num1_length a)), num1_length, numAt_num1 b _ hb]

theorem lensPresetSet_serves {s : State} {tag : Byte} {a b : Nat} {e : PresetEntry}
    (h : Serves s 0x18 tag (presetBody a b e)) :
    exec .lensPresetSet s = .next (State.lensPresetSet (presetBody a b e) s).transmit :=
  serve_owner h (by simp [presetBody, optNum_length]) State.lensPresetSet

theorem lensPresetSet_takes {s : State} {tag : Byte} {p : Port} {i : Fin 8} {e : PresetEntry}
    (h : Serves s 0x18 tag (presetBody p.val i.val e)) (fits : PresetFits e) (range : PresetInRange e) :
    exec .lensPresetSet s = .next (({ s with settings := { s.settings with
      presets := upd s.settings.presets p (fun t => upd t i (fun _ => e)) } }).reply .ok).transmit := by
  have port : portAt (presetBody p.val i.val e) 0 = some p := by rw [presetBody_port, portAt_num1]
  have index : finAt (presetBody p.val i.val e) 1 8 = some i := by
    rw [finAt, presetBody_index e (by have := i.isLt; omega)]
    exact dif_pos i.isLt
  rw [lensPresetSet_serves h, State.lensPresetSet, port, index, presetOf_body fits, if_pos range]

theorem lensPresetSet_refuses {s : State} {tag : Byte} {a b : Nat} {e : PresetEntry} (ha : a < 256) (hb : b < 256)
    (h : Serves s 0x18 tag (presetBody a b e)) (fits : PresetFits e) (out : 7 < a ∨ 7 < b ∨ ¬ PresetInRange e) :
    exec .lensPresetSet s = .next (s.reply .outOfRange).transmit := by
  rw [lensPresetSet_serves h, State.lensPresetSet]
  rcases out with large | large | range
  · rw [presetBody_port, portAt_large _ ha large]
  · have none_index : finAt (presetBody a b e) 1 8 = none := by
      rw [finAt, presetBody_index e hb]
      exact dif_neg (by omega)
    rw [none_index]
    split
    · next h _ => cases h
    · rfl
  · rw [presetOf_body fits, if_neg range]
    split
    · next h => cases h
    · rfl

/-! ## EVIDENCE_CONFIG and MOTION_SEGMENT (R136, R138) -/

theorem evidenceConfig_serves {s : State} {tag : Byte} {a b n : Nat} (h : Serves s 0x1D tag (num1 a ++ num2 n ++ num1 b))
    (ha : a < 256) (hb : b < 256) (hn : n < 65536) :
    exec .evidenceConfig s = .next (if inRange 1 60 a && inRange 1 65535 n && inRange 1 8 b then
      ({ s with settings := { s.settings with
        windowSeconds := a, suspectThreshold := n, confirmWindows := b } }).reply .ok
      else s.reply .outOfRange).transmit := by
  refine (serve_owner h (by simp) State.evidenceConfig).trans ?_
  have window : numAt (num1 a ++ num2 n ++ num1 b) 0 1 = a := by simp [numAt_num1 a _ ha]
  have threshold : numAt (num1 a ++ num2 n ++ num1 b) 1 2 = n := by simp [numAt_skip, numAt_num2 n _ hn]
  have confirm : numAt (num1 a ++ num2 n ++ num1 b) 3 1 = b := by simp [numAt_skip, numAt_num1_only b hb]
  rw [State.evidenceConfig, window, threshold, confirm]

theorem motionSegment_serves {s : State} {tag : Byte} {a : Nat} (h : Serves s 0x1C tag (num1 a)) (ha : a < 256)
    {o : Option Segment} (segment : (if a = 255 then some none else if h : a < 16 then some (some ⟨a, h⟩) else none) = o) :
    exec .motionSegment s = .next (match o with
      | none => s.reply .outOfRange
      | some g => if s.monitor.segment = g then s.reply .ok
        else ({ s with monitor := { s.monitor with segment := g } }).sweepResume.reply .ok).transmit := by
  have at_ : segmentAt (num1 a) 0 = o := by
    rw [segmentAt, finAt, numAt_num1_only a ha, ← segment]
    refine if_congr Iff.rfl rfl ?_
    split <;> rfl
  refine (serve_owner h (num1_length a) State.motionSegment).trans ?_
  rw [State.motionSegment, at_] <;> rfl

theorem motionSegment_takes {s : State} {tag : Byte} {a : Nat} (h : Serves s 0x1C tag (num1 a)) (ha : a < 256)
    {g : Segment} (names : a = 255 ∧ g = none ∨ ∃ k : Fin 16, a = k.val ∧ g = some k)
    (still : s.monitor.segment = g ∨ s.sweeps.sweep = none) :
    exec .motionSegment s = .next (({ s with monitor := { s.monitor with segment := g } }).reply .ok).transmit := by
  have segment : (if a = 255 then some none else if h : a < 16 then some (some ⟨a, h⟩) else none) = some g := by
    rcases names with ⟨rfl, rfl⟩ | ⟨k, rfl, rfl⟩
    · rfl
    · have := k.isLt
      rw [if_neg (by omega), dif_pos this]
  rw [motionSegment_serves h ha segment]
  by_cases same : s.monitor.segment = g
  · simp only [if_pos same]
    rw [← same]
  · have idle : ({ s with monitor := { s.monitor with segment := g } } : State).sweepResume =
        { s with monitor := { s.monitor with segment := g } } := by
      rw [State.sweepResume, still.resolve_left same]
    simp only [if_neg same, idle]

theorem motionSegment_refuses {s : State} {tag : Byte} {a : Nat} (h : Serves s 0x1C tag (num1 a)) (ha : a < 256)
    (large : 16 ≤ a) (some_ : a ≠ 255) : exec .motionSegment s = .next (s.reply .outOfRange).transmit :=
  motionSegment_serves (o := none) h ha (by rw [if_neg some_, dif_neg (by omega)])

/-- Settles O46: each request's fields are read from its body, and its range checks are those of the statement. -/
theorem settingsRequestsReplace : Obligations.SettingsRequestsReplace := by
  intro s tag a b n ha hb hn
  refine ⟨fun h => ⟨fun low low' => ?_, fun out => ?_⟩, fun h => ⟨fun f g hf hg => ?_, fun out => ?_⟩,
    fun e focus iris zoom settle h => ⟨?_, fun out => ?_⟩, fun h => ⟨fun h1 h2 h3 h4 h5 => ?_, fun out => ?_⟩,
    fun h => ⟨fun g names still => motionSegment_takes h ha names still, motionSegment_refuses h ha⟩⟩
  · rw [setSupplyPolicy_serves h ha hb, if_pos (by simp [inRange, low, low'])]
  · rw [setSupplyPolicy_serves h ha hb, if_neg (by simp [inRange]; omega)]
  · obtain ⟨la, rfl⟩ := signalFunctionOf_named hf
    obtain ⟨lb, rfl⟩ := signalFunctionOf_named hg
    rw [signalConfig_serves h ha hb, if_pos (by simp [la, lb])]
  · rw [signalConfig_serves h ha hb, if_neg (by simp; omega)]
  · rintro p i rfl rfl hfocus hzoom hsettle
    exact lensPresetSet_takes h ⟨focus, iris, zoom, settle⟩ ⟨hfocus, hzoom, hsettle⟩
  · refine lensPresetSet_refuses ha hb h ⟨focus, iris, zoom, settle⟩ ?_
    rcases out with large | large | hfocus | ⟨k, hk, large⟩ | hsettle
    · exact .inl large
    · exact .inr (.inl large)
    · exact .inr (.inr (fun r => by have := r.1; omega))
    · exact .inr (.inr (fun r => by have := r.2.1 k hk; omega))
    · exact .inr (.inr (fun r => by have := r.2.2; omega))
  · rw [evidenceConfig_serves h ha hb hn, if_pos (by simp [inRange]; omega)]
  · rw [evidenceConfig_serves h ha hb hn, if_neg (by simp [inRange]; omega)]

end Sys2Proof.Power
end

section
/-! PROOFS. PORT_CONFIG: its body's fields, its checks in their order, and the profile it replaces (R3). -/

namespace Sys2Proof.Power

open Sys2Proof.Machine Sys2Proof.Safety

/-- A body gives the fields of a profile where PORT_CONFIG reads them (R174). -/
structure ReadsProfile (b : List Byte) (f : PortProfile) : Prop where
  baseReservation : numAt b 1 2 = f.baseReservation
  overcurrent : numAt b 3 2 = f.overcurrent
  underload : numAt b 5 2 = f.underload
  priority : numAt b 7 1 = f.priority
  autoPower : numAt b 8 1 = f.autoPower.toNat
  probeEnable : numAt b 9 1 = f.probeEnable.toNat
  probePeriod : numAt b 10 2 = f.probePeriod
  lensSurge : numAt b 12 2 = f.lensSurge
  strobePeak : numAt b 14 2 = f.strobePeak
  width : numAt b 16 2 = f.width
  height : numAt b 18 2 = f.height
  depth : numAt b 20 1 = f.depth
  readout : numAt b 21 4 = f.readout
  ambientThreshold : numAt b 25 2 = f.ambientThreshold
  ambientLimit : numAt b 27 1 = f.ambientLimit.code
  lensKind : numAt b 28 1 = f.lensKind.code
  focusSpeed : numAt b 29 1 = f.focusSpeed
  irisSpeed : numAt b 30 1 = f.irisSpeed
  zoomSpeed : numAt b 31 1 = f.zoomSpeed
  autoHome : numAt b 32 1 = f.autoHome.toNat
  sidebandClock : numAt b 33 2 = f.sidebandClock
  autoSweep : numAt b 35 1 = f.autoSweep.toNat

theorem numAt_after1 (n : Nat) (rest : List Byte) (o size : Nat) :
    numAt (num1 n ++ rest) (o + 1) size = numAt rest o size := by
  rw [numAt_skip _ _ _ _ (by rw [num1_length]; omega), num1_length, Nat.add_sub_cancel]

theorem numAt_after2 (n : Nat) (rest : List Byte) (o size : Nat) :
    numAt (num2 n ++ rest) (o + 2) size = numAt rest o size := by
  rw [numAt_skip _ _ _ _ (by rw [num2_length]; omega), num2_length, Nat.add_sub_cancel]

theorem numAt_after4 (n : Nat) (rest : List Byte) (o size : Nat) :
    numAt (num4 n ++ rest) (o + 4) size = numAt rest o size := by
  rw [numAt_skip _ _ _ _ (by rw [num4_length]; omega), num4_length, Nat.add_sub_cancel]

theorem numAt_afterFlag (b : Bool) (rest : List Byte) (o size : Nat) :
    numAt (flagByte b ++ rest) (o + 1) size = numAt rest o size := by
  rw [numAt_skip _ _ _ _ (by rw [flagByte_length]; omega), flagByte_length, Nat.add_sub_cancel]

theorem numAt_flagByte (b : Bool) (rest : List Byte) : numAt (flagByte b ++ rest) 0 1 = b.toNat := by
  cases b <;> simp [flagByte, numAt_one_byte]

theorem numAt_flagByte_only (b : Bool) : numAt (flagByte b) 0 1 = b.toNat := by
  cases b <;> rfl

theorem flagAt_toNat {b : List Byte} {o : Nat} {v : Bool} (h : numAt b o 1 = v.toNat) : flagAt b o = v := by
  rw [flagAt, h]
  cases v <;> rfl

theorem flagOkAt_toNat {b : List Byte} {o : Nat} {v : Bool} (h : numAt b o 1 = v.toNat) : flagOkAt b o = true := by
  rw [flagOkAt, h]
  cases v <;> rfl

theorem ambientLimit_code (l : AmbientLimit) : l.code ≤ 3 ∧ ambientLimitOf l.code = l := by
  cases l <;> exact ⟨by decide, rfl⟩

theorem lensKind_code (k : LensKind) : k.code ≤ 3 ∧ lensKindOf k.code = k := by
  cases k <;> exact ⟨by decide, rfl⟩

theorem portConfigBody_reads (n : Nat) {f : PortProfile} (fits : ProfileFits f) :
    ReadsProfile (portConfigBody n f) f := by
  obtain ⟨base, threshold, underload, priority, period, surge, peak, width, height, depth, readout, ambient, focus, iris,
    zoom, clock⟩ := fits
  have limit : f.ambientLimit.code < 256 := Nat.lt_of_le_of_lt (ambientLimit_code _).1 (by decide)
  have kind : f.lensKind.code < 256 := Nat.lt_of_le_of_lt (lensKind_code _).1 (by decide)
  constructor
  all_goals
    unfold portConfigBody
    simp only [List.append_assoc, numAt_after1, numAt_after2, numAt_after4, numAt_afterFlag, numAt_flagByte,
      numAt_flagByte_only, numAt_num1, numAt_num2, numAt_num4, *]

theorem portConfigBody_length (n : Nat) (f : PortProfile) : (portConfigBody n f).length = portConfigSize := by
  unfold portConfigBody portConfigSize
  simp only [List.length_append, num1_length, num2_length, num4_length, flagByte_length]

theorem ReadsProfile.profile {b : List Byte} {f : PortProfile} (h : ReadsProfile b f) :
    portConfigProfile b = { f with configured := true } := by
  simp only [portConfigProfile, h.baseReservation, h.overcurrent, h.underload, h.priority, flagAt_toNat h.autoPower,
    flagAt_toNat h.probeEnable, h.probePeriod, h.lensSurge, h.strobePeak, h.width, h.height, h.depth, h.readout,
    h.ambientThreshold, h.ambientLimit, h.lensKind, h.focusSpeed, h.irisSpeed, h.zoomSpeed, flagAt_toNat h.autoHome,
    h.sidebandClock, flagAt_toNat h.autoSweep, (ambientLimit_code _).2, (lensKind_code _).2]

theorem ReadsProfile.inRange {b : List Byte} {f : PortProfile} (h : ReadsProfile b f) :
    portConfigInRange b = true ↔ ProfileInRange f := by
  simp only [portConfigInRange, h.baseReservation, h.overcurrent, h.underload, h.priority, flagOkAt_toNat h.autoPower,
    flagOkAt_toNat h.probeEnable, h.probePeriod, h.lensSurge, h.strobePeak, h.width, h.height, h.depth, h.readout,
    h.ambientThreshold, h.ambientLimit, h.lensKind, h.focusSpeed, h.irisSpeed, h.zoomSpeed, flagOkAt_toNat h.autoHome,
    h.sidebandClock, flagOkAt_toNat h.autoSweep, Bool.and_eq_true, Bool.or_eq_true, decide_eq_true_eq, inRange_iff,
    Nat.zero_le, true_and, and_true, (ambientLimit_code _).1, (lensKind_code _).1, and_assoc, or_assoc]

/-- The port number stands at the head of the body. -/
theorem portConfigBody_port (n : Nat) (f : PortProfile) : ∃ rest, portConfigBody n f = num1 n ++ rest := by
  unfold portConfigBody
  simp only [List.append_assoc]
  exact ⟨_, rfl⟩

theorem planHolds_iff (s : State) (p : Port) : (s.seq.state.inService && s.seq.marks p) = true ↔ PlanHolds s p := by
  rw [Bool.and_eq_true, inService_iff]

theorem configBlocked_iff (s : State) (p : Port) : s.configBlocked p = true ↔
    s.power[p].state = .waiting ∨ s.power[p].state = .ramping ∨ s.power[p].state = .on ∨ s.power[p].state = .cooldown ∨
      PlanHolds s p := by
  rw [State.configBlocked, Bool.or_eq_true, planHolds_iff]
  generalize s.power[p].state = st
  cases st <;> simp

/-- What PORT_CONFIG serves with a body of a profile's fields. -/
theorem portConfig_serves {s : State} {tag : Byte} {n : Nat} {f : PortProfile}
    (h : Serves s 0x01 tag (portConfigBody n f)) :
    exec .portConfig s = .next (State.portConfig (portConfigBody n f) s).transmit :=
  serve_owner h (portConfigBody_length n f) State.portConfig

theorem reprobe_eq (w : PortPower) (old new : PortProfile) (now : Time) : w.reprobe old new now =
    if w.state = PowerState.probing then
      if new.probeEnable then
        { w with
          probeAt := some (now + new.probePeriod * 1000)
          pulseEndAt := if old.probeEnable then w.pulseEndAt else some (now + 2000) }
      else { w with probeAt := none, pulseEndAt := none }
    else w := by
  unfold PortPower.reprobe
  split
  · split
    · split <;> simp_all
    · rfl
  · rfl

theorem takeProfile_eq (s : State) (p : Port) (f : PortProfile) : s.takeProfile p f = { s with
    settings := { s.settings with ports := upd s.settings.ports p (fun _ => f) }
    power := upd s.power p (fun (w : PortPower) =>
      if w.state = PowerState.probing then
        if f.probeEnable then
          { w with
            probeAt := some (s.clock + f.probePeriod * 1000)
            pulseEndAt := if s.settings.ports[p].probeEnable then w.pulseEndAt else some (s.clock + 2000) }
        else { w with probeAt := none, pulseEndAt := none }
      else w)
    lenses := upd s.lenses p (fun (l : Lens) =>
      if f.lensKind = LensKind.none then
        { l with
          state := .absent, pending := none, stage := .none, toBegin := false, waits := 0, lastFault := none }
      else if s.settings.ports[p].lensKind = LensKind.none then { l with state := .unknown } else l) } := by
  unfold State.takeProfile
  simp only [reprobe_eq]
  rfl

/-- Settles O12: the fields are read where R174 puts them, and the checks are made in their order. -/
theorem portConfigReplacesProfile : Obligations.PortConfigReplacesProfile := by
  intro s tag f fits
  refine ⟨fun n small h out => ?_, fun p h range => ⟨fun blocked => ?_, fun state free => ?_⟩⟩
  · have reads := portConfigBody_reads n fits
    rw [portConfig_serves h, State.portConfig]
    split
    · rfl
    · next p port =>
      have inRange_f : ¬ ProfileInRange f := by
        refine out.resolve_left (fun large => ?_)
        obtain ⟨rest, body⟩ := portConfigBody_port n f
        rw [body, portAt_large _ small large] at port
        cases port
      rw [if_pos (by rw [Bool.not_eq_true', Bool.eq_false_iff, Ne, reads.inRange]; exact inRange_f)]
  all_goals
    have reads := portConfigBody_reads p.val fits
    have port : portAt (portConfigBody p.val f) 0 = some p := by
      obtain ⟨rest, body⟩ := portConfigBody_port p.val f
      rw [body, portAt_num1]
    have taken : ¬ (!portConfigInRange (portConfigBody p.val f)) = true := by
      rw [Bool.not_eq_true', Bool.not_eq_false, reads.inRange]
      exact range
    rw [portConfig_serves h, State.portConfig, port]
    simp only [if_neg taken]
  · rw [if_pos ((configBlocked_iff s p).mpr blocked)]
  · have open_ : ¬ s.configBlocked p = true := by
      rw [configBlocked_iff]
      rcases state with e | e | e <;> rw [e] <;> simp only [reduceCtorEq, false_or] <;> exact free
    rw [if_neg open_, reads.profile, takeProfile_eq]

end Sys2Proof.Power
end

section
/-! PROOFS. The claim list and its walk (R20, R21): a walk grants the head, or changes nothing. -/

namespace Sys2Proof.Power

open Sys2Proof.Machine Sys2Proof.Safety

/-! ## A granted surge (R124) -/

theorem windowWait_changes (s : State) (p : Port) : Changes [.lenses, .freeCount] s (s.windowWait p) :=
  (setLens_changes s p _).mono (by decide)

theorem beginMove_changes (s : State) (p : Port) (m : Move) : Changes [.lenses, .freeCount] s (s.beginMove p m) := by
  unfold State.beginMove
  extract_lets estimate t
  have begun : Changes [.lenses, .freeCount] s t := (setLens_changes s p _).mono (by decide)
  exact Changes.ite (fun _ => begun.step ((usedFree_changes t).mono (by decide))) (fun _ => begun)

theorem beginOrWait_changes (s : State) (p : Port) : Changes [.lenses, .freeCount] s (s.beginOrWait p) := by
  unfold State.beginOrWait
  split
  · exact (Changes.refl s).mono (by simp)
  · exact Changes.ite (fun _ => windowWait_changes s p) (fun _ => Changes.ite (fun _ => beginMove_changes s p _)
      (fun _ => (setLens_changes s p _).mono (by decide)))

theorem lensGranted_changes (s : State) (p : Port) : Changes [.lenses, .freeCount] s (s.lensGranted p) := by
  unfold State.lensGranted
  extract_lets t
  have granted : Changes [.lenses, .freeCount] s t := (setLens_changes s p _).mono (by decide)
  split
  · exact granted
  · exact Changes.ite (fun _ => granted.step (beginOrWait_changes t p)) (fun _ => granted.step (windowWait_changes t p))

theorem setLens_claim {s : State} {p : Port} {f : Lens → Lens} (h : (f s.lenses[p]).claim = s.lenses[p].claim) :
    (s.setLens p f).lenses[p].claim = s.lenses[p].claim := by
  rw [State.setLens_lenses, upd_same]
  exact h

theorem windowWait_claim (s : State) (p : Port) : (s.windowWait p).lenses[p].claim = s.lenses[p].claim :=
  setLens_claim (by split <;> rfl)

theorem beginMove_claim (s : State) (p : Port) (m : Move) : (s.beginMove p m).lenses[p].claim = s.lenses[p].claim := by
  unfold State.beginMove
  extract_lets estimate t
  have begun : t.lenses[p].claim = s.lenses[p].claim := setLens_claim rfl
  split
  · exact begun
  · exact begun

theorem beginOrWait_claim (s : State) (p : Port) : (s.beginOrWait p).lenses[p].claim = s.lenses[p].claim := by
  unfold State.beginOrWait
  split
  · rfl
  · split
    · exact windowWait_claim s p
    · split
      · exact beginMove_claim s p _
      · exact setLens_claim rfl

theorem lensGranted_claim (s : State) (p : Port) : (s.lensGranted p).lenses[p].claim = .granted := by
  unfold State.lensGranted
  extract_lets t
  have granted : t.lenses[p].claim = .granted := by
    show (upd s.lenses p (fun l => { l with claim := .granted }))[p].claim = .granted
    rw [upd_same]
  split
  · exact granted
  · split
    · rw [beginOrWait_claim, granted]
    · rw [windowWait_claim, granted]

/-! ## One step of the walk (R21) -/

theorem grant_claims (s : State) (c : Claim) (rest : List Claim) : (s.grant c rest).supply.claims = rest := by
  unfold State.grant
  extract_lets t
  split
  · rw [(setPowerState_changes _ _ _ _).supply (by decide)]
    rfl
  · rw [(lensGranted_changes _ _).supply (by decide)]
    rfl

theorem walk_grants {s : State} {c : Claim} {rest : List Claim} (hc : s.supply.claims = c :: rest)
    (admits : s.admits c = true) : s.walk = (s.grant c rest).walk := by
  unfold State.walk
  rw [hc, grant_claims, List.length_cons, State.walkSteps, hc]
  exact if_pos admits

theorem walk_stops {s : State} {c : Claim} {rest : List Claim} (hc : s.supply.claims = c :: rest)
    (admits : s.admits c = false) : s.walk = s := by
  unfold State.walk
  rw [hc, List.length_cons, State.walkSteps, hc]
  exact if_neg (by rw [admits]; decide)

theorem admits_iff (s : State) (c : Claim) :
    s.admits c = true ↔ s.supply.low = none ∧ s.committed + c.need ≤ s.settings.capacity := by
  rw [State.admits, Bool.and_eq_true, decide_eq_true_eq, Option.isNone_iff_eq_none]

theorem not_admits {s : State} {c : Claim}
    (h : s.supply.low.isSome = true ∨ s.settings.capacity < s.committed + c.need) : s.admits c = false := by
  rw [Bool.eq_false_iff, Ne, admits_iff]
  rintro ⟨normal, fits⟩
  rw [normal] at h
  exact h.elim (fun k => by cases k) (fun k => by omega)

/-- A claim at the head that does not fit, or a LOW supply, stops the walk. -/
theorem walk_blocked {s : State} (h : s.supply.low.isSome = true ∨
    ∃ d, s.supply.claims.head? = some d ∧ s.settings.capacity < s.committed + d.need) : s.walk = s := by
  cases hc : s.supply.claims with
  | nil => exact walk_nil hc
  | cons c rest =>
    refine walk_stops hc (not_admits (h.imp id ?_))
    rintro ⟨d, hd, large⟩
    rw [hc] at hd
    cases hd
    exact large

/-- A port's ramp begins: one change of the switch and one notice (R7). -/
theorem setPowerState_ramping (s : State) (p : Port) : s.setPowerState p .ramping s.power[p].reason =
    ({ s with power := upd s.power p (fun w => { w with
        state := .ramping
        underRun := none
        shedMark := if w.state = PowerState.off then false else w.shedMark
        pulseEndAt := none
        probeAt := none
        rampEndAt := some (s.clock + 20000)
        cooldownEndAt := none }) }).post (some p)
      (.portState .state .ramping s.power[p].state s.power[p].reason) := by
  rw [setPowerState_eq, upd_congr s.power p (g := fun w => { w with
    state := .ramping
    underRun := none
    shedMark := if w.state = PowerState.off then false else w.shedMark
    pulseEndAt := none
    probeAt := none
    rampEndAt := some (s.clock + 20000)
    cooldownEndAt := none }) (by rw [enter_ramping])]

/-- A port begins to wait: one change of the switch and one notice (R6). -/
theorem setPowerState_waiting (s : State) (p : Port) : s.setPowerState p .waiting s.power[p].reason =
    ({ s with power := upd s.power p (fun w => { w with
        state := .waiting
        overRun := none
        underRun := none
        shedMark := if w.state = PowerState.off then false else w.shedMark
        pulseEndAt := none
        probeAt := none
        rampEndAt := none
        cooldownEndAt := none }) }).post (some p)
      (.portState .state .waiting s.power[p].state s.power[p].reason) := by
  rw [setPowerState_eq, upd_congr s.power p (g := fun w => { w with
    state := .waiting
    overRun := none
    underRun := none
    shedMark := if w.state = PowerState.off then false else w.shedMark
    pulseEndAt := none
    probeAt := none
    rampEndAt := none
    cooldownEndAt := none }) (by rw [enter_waiting])]

/-- The grant of a power claim, as one change of the switch and one notice (R7). -/
theorem grant_power {s : State} {c : Claim} (rest : List Claim) (power : c.kind = .power) :
    s.grant c rest = ({ s with
      supply := { s.supply with claims := rest }
      power := upd s.power c.port (fun w => { w with
        state := .ramping
        underRun := none
        shedMark := if w.state = PowerState.off then false else w.shedMark
        pulseEndAt := none
        probeAt := none
        rampEndAt := some (s.clock + 20000)
        cooldownEndAt := none }) }).post (some c.port)
        (.portState .state .ramping s.power[c.port].state s.power[c.port].reason) := by
  unfold State.grant
  extract_lets t
  rw [power]
  exact setPowerState_ramping t c.port

/-! ## The place of a claim on the list (R20) -/

theorem insertClaim_between (c : Claim) : ∀ cs : List Claim, cs.Pairwise (fun a b => b.priority ≤ a.priority) →
    ∃ before after, cs = before ++ after ∧ insertClaim c cs = before ++ c :: after ∧
      (∀ d ∈ before, c.priority ≤ d.priority) ∧ (∀ d ∈ after, d.priority < c.priority)
  | [], _ => ⟨[], [], rfl, rfl, by simp, by simp⟩
  | d :: ds, sorted => by
    obtain ⟨below, rest⟩ := List.pairwise_cons.mp sorted
    unfold insertClaim
    by_cases h : c.priority ≤ d.priority
    · obtain ⟨before, after, hds, hins, high, low⟩ := insertClaim_between c ds rest
      refine ⟨d :: before, after, by rw [hds]; rfl, by rw [if_pos h, hins]; rfl, fun e he => ?_, low⟩
      rcases List.mem_cons.mp he with rfl | he
      · exact h
      · exact high e he
    · refine ⟨[], d :: ds, rfl, by rw [if_neg h]; rfl, by simp, fun e he => ?_⟩
      rcases List.mem_cons.mp he with rfl | he
      · omega
      · have := below e he
        omega

theorem insertClaim_sorted {c : Claim} {cs : List Claim} (sorted : cs.Pairwise (fun a b => b.priority ≤ a.priority)) :
    (insertClaim c cs).Pairwise (fun a b => b.priority ≤ a.priority) := by
  obtain ⟨before, after, rfl, inserted, high, low⟩ := insertClaim_between c cs sorted
  obtain ⟨hb, ha, cross⟩ := List.pairwise_append.mp sorted
  rw [inserted, List.pairwise_append, List.pairwise_cons]
  refine ⟨hb, ⟨fun d hd => Nat.le_of_lt (low d hd), ha⟩, fun b hb' a ha' => ?_⟩
  rcases List.mem_cons.mp ha' with rfl | ha'
  · exact high b hb'
  · exact cross b hb' a ha'

/-- Settles O17: a walk is one step and the walk after it, and a claim's place splits the list. -/
theorem walkGrantsFromTheHead : Obligations.WalkGrantsFromTheHead := by
  refine ⟨fun s => ⟨walk_nil, fun c rest hc => ⟨fun blocked => walk_stops hc (not_admits blocked), fun normal fits => ?_⟩⟩,
    fun c cs sorted => ⟨insertClaim_sorted sorted, insertClaim_between c cs sorted⟩⟩
  refine ⟨s.grant c rest, walk_grants hc ((admits_iff s c).mpr ⟨normal, fits⟩), grant_claims s c rest, grant_power rest,
    fun lens => ?_⟩
  have told : s.grant c rest = (s.setClaims (fun _ => rest)).lensGranted c.port := by
    unfold State.grant
    extract_lets t
    rw [lens]
  rw [told]
  exact ⟨lensGranted_claim _ _, (lensGranted_changes _ _).power (by decide)⟩

end Sys2Proof.Power
end

section
/-!
PROOFS. A power claim raised by a request, at the end of a cooldown or by a probe pulse: granted at once where it comes to
the head and fits, or waiting in its place (R6, R15, R16, R20, R21).
-/

namespace Sys2Proof.Power

open Sys2Proof.Machine Sys2Proof.Safety

/-! ## The committed sum after a grant (R19) -/

/-- A quantity that is larger at one port alone, by `n`, has a sum larger by `n`. -/
theorem sumPorts_add {f g : Port → Nat} (p : Port) (n : Nat) (h : ∀ q, f q = g q + if q = p then n else 0) :
    sumPorts f = sumPorts g + n := by
  have one : sumPorts (fun q => if q = p then n else 0) = n := by
    unfold sumPorts allPorts
    fin_cases p <;> simp
  calc sumPorts f = sumPorts (fun q => g q + if q = p then n else 0) := sumPorts_congr h
    _ = sumPorts g + sumPorts (fun q => if q = p then n else 0) := List.sum_map_add
    _ = sumPorts g + n := by rw [one]

/-- A port that comes to be reserved adds its base reservation to the committed sum. -/
theorem setPowerState_committed {s : State} {p : Port} {new : PowerState} (r : OffReason)
    (free : s.power[p].state.reserved = false) (reserved : new.reserved = true) :
    (s.setPowerState p new r).committed = s.committed + (s.profileOf p).baseReservation := by
  have changes := setPowerState_changes s p new r
  have hports := (changes.profiles (by decide)).1
  have base : (s.setPowerState p new r).basePart = s.basePart + (s.profileOf p).baseReservation := by
    refine sumPorts_add p _ (fun q => ?_)
    simp only [State.profileOf, hports]
    by_cases e : q = p
    · have state : (s.setPowerState p new r).power[p].state = new := by rw [setPowerState_at]; rfl
      rw [e, state, if_pos reserved, free, if_neg (by decide), if_pos rfl, Nat.zero_add]
    · rw [setPowerState_other s new r e, if_neg e, Nat.add_zero]
  have surge : (s.setPowerState p new r).surgePart = s.surgePart := by
    unfold State.surgePart
    simp only [State.profileOf, hports, changes.lenses (by decide)]
  have strobe := strobePart_congr (changes.plan (by decide)).1 (changes.plan (by decide)).2 hports
  unfold State.committed
  rw [base, surge, strobe]
  omega

/-! ## A claim granted at once, and a claim that waits (R6, R21) -/

/-- The claim that a port raises. -/
abbrev claimOf (s : State) (p : Port) : Claim :=
  ⟨p, .power, s.settings.ports[p].baseReservation, s.settings.ports[p].priority, s.clock⟩

/-- The port's claim comes to the head and fits, and none behind it fits any more. -/
structure GrantedAtOnce (s : State) (p : Port) : Prop where
  head : ∀ d, s.supply.claims.head? = some d → d.priority < s.settings.ports[p].priority ∧
    s.settings.capacity < s.committed + s.settings.ports[p].baseReservation + d.need
  unclaimed : ∀ d ∈ s.supply.claims, d.port = p → d.kind ≠ .power
  normal : s.supply.low = none
  fits : s.committed + s.settings.ports[p].baseReservation ≤ s.settings.capacity

/-- The supply is LOW, or the claim at the head with the port's does not fit. -/
abbrev Blocked (s : State) (p : Port) : Prop :=
  s.supply.low.isSome = true ∨ ∃ d, (insertClaim (claimOf s p) s.supply.claims).head? = some d ∧
    s.settings.capacity < s.committed + d.need

theorem insertClaim_head {c : Claim} : ∀ {cs : List Claim}, (∀ d, cs.head? = some d → d.priority < c.priority) →
    insertClaim c cs = c :: cs
  | [], _ => rfl
  | d :: _, h => if_neg (Nat.not_le.mpr (h d rfl))

theorem raise_grants {s : State} {p : Port} (h : GrantedAtOnce s p) (free : s.power[p].state.reserved = false) :
    s.raisePowerClaim p = s.setPowerState p .ramping s.power[p].reason := by
  have joined : (s.joinClaim p .power (s.profileOf p).baseReservation).supply.claims = claimOf s p :: s.supply.claims :=
    insertClaim_head (fun d hd => (h.head d hd).1)
  have grant : (s.joinClaim p .power (s.profileOf p).baseReservation).grant (claimOf s p) s.supply.claims =
      s.setPowerState p .ramping s.power[p].reason := rfl
  have changes := setPowerState_changes s p .ramping s.power[p].reason
  have walked : raised s p = s.setPowerState p .ramping s.power[p].reason := by
    unfold raised
    rw [walk_grants joined ((admits_iff _ _).mpr ⟨h.normal, h.fits⟩), grant]
    cases hc : s.supply.claims with
    | nil => exact walk_nil ((congrArg (·.claims) (changes.supply (by decide))).trans hc)
    | cons d rest =>
      refine walk_blocked (.inr ⟨d, ?_, ?_⟩)
      · rw [changes.supply (by decide), hc]
        rfl
      · rw [setPowerState_committed _ free rfl, (changes.profiles (by decide)).2]
        exact (h.head d (by rw [hc]; rfl)).2
  have unclaimed : ¬ Claimed (raised s p) p := by
    rintro ⟨c, hc, hk, hp⟩
    rw [walked, (setPowerState_changes s p _ _).supply (by decide)] at hc
    exact h.unclaimed c hc hp hk
  rw [raisePowerClaim_granted unclaimed, walked]

theorem raise_waits {s : State} {p : Port} (h : Blocked s p) : s.raisePowerClaim p =
    ({ s with supply := { s.supply with claims := insertClaim (claimOf s p) s.supply.claims } }).setPowerState p .waiting
      s.power[p].reason := by
  have stopped : raised s p = s.joinClaim p .power (s.profileOf p).baseReservation := walk_blocked h
  have held : Claimed (raised s p) p := by
    rw [stopped]
    exact ⟨claimOf s p, mem_insertClaim.mpr (.inl rfl), rfl, rfl⟩
  rw [raisePowerClaim_waits held, stopped]
  rfl

/-! ## PORT_POWER's rows (R15, R16, section 1.6) -/

theorem portPower_out {s : State} {tag : Byte} {port value row : Nat} (h : Serves s 0x02 tag (num1 port ++ num1 value))
    (hv : value < 256) (owner : Port → State → State) (ofRow : value = row ∨ 2 < value)
    (out : 2 < value ∨ port < 256 ∧ 7 < port) :
    s.servePortPower row owner = .next (s.reply .outOfRange).transmit := by
  refine (serveWhen_owner h (by simp) ?_ _).trans ?_
  · rw [numAt_second hv]
    simpa using ofRow
  · rw [numAt_second hv]
    cases port_at : portAt (num1 port ++ num1 value) 0 with
    | none => rfl
    | some p =>
      rcases out with out | ⟨fits, large⟩
      · simp only [if_pos out]
      · rw [portAt_large _ fits large] at port_at
        cases port_at

theorem portPower_serves {s : State} {tag : Byte} {p : Port} {value : Nat}
    (h : Serves s 0x02 tag (num1 p.val ++ num1 value)) (small : value ≤ 2) (owner : Port → State → State) :
    s.servePortPower value owner = .next (owner p s).transmit := by
  refine (serveWhen_owner h (by simp) ?_ _).trans ?_
  · rw [numAt_second (by omega)]
    simp
  · rw [portAt_num1, numAt_second (by omega)]
    simp only [if_neg (Nat.not_lt.mpr small)]

/-- Settles O13: the port's state decides the row, and the list and the capacity decide the claim. -/
theorem portPowerOnRaisesClaim : Obligations.PortPowerOnRaisesClaim := by
  refine ⟨fun s tag p h => ?_, fun s tag port value hp hv h => ⟨fun large => ?_, fun large => ?_⟩⟩
  · have serves : exec .portPowerOn s = .next (State.portPowerOn p s).transmit := portPower_serves h (by decide) _
    rw [serves, State.portPowerOn]
    refine ⟨fun powered => ?_, fun locked => by rw [locked], fun idle => ⟨fun head unclaimed normal fits => ?_, fun blocked => ?_⟩⟩
    · rcases powered with e | e | e | e <;> rw [e]
    · have free : s.power[p].state.reserved = false := by rcases idle with e | e <;> rw [e] <;> rfl
      rw [← setPowerState_ramping, ← raise_grants ⟨head, unclaimed, normal, fits⟩ free]
      rcases idle with e | e <;> rw [e]
    · refine Eq.trans ?_ (congrArg (fun t : State => Host.Outcome.next (t.reply .ok).transmit)
        ((raise_waits blocked).trans (setPowerState_waiting _ p)))
      rcases idle with e | e <;> rw [e]
  · exact ⟨portPower_out h hv _ (.inr large) (.inl large), portPower_out h hv _ (.inr large) (.inl large),
      portPower_out h hv _ (.inr large) (.inl large)⟩
  · exact ⟨fun row => portPower_out h hv _ (.inl row) (.inr ⟨hp, large⟩),
      fun row => portPower_out h hv _ (.inl row) (.inr ⟨hp, large⟩),
      fun row => portPower_out h hv _ (.inl row) (.inr ⟨hp, large⟩)⟩

/-! ## The end of the cooldown, and the decay of trips (R11, R12) -/

/-- Settles O24: the claim of a port in COOLDOWN is raised as any other, and its shed mark stays. -/
theorem cooldownEndsAndTripsDecay : Obligations.CooldownEndsAndTripsDecay := by
  refine fun s p at_ passed => ⟨fun cooldown timer => ?_, fun unlocked timer => ?_⟩
  · have ends : exec (.cooldownEnd p) s = .next (s.raisePowerClaim p).transmit := by
      refine if_pos ?_
      rw [State.cooldownDue, timer, cooldown]
      simpa [due] using passed
    rw [ends]
    refine ⟨fun head unclaimed normal fits => ?_, fun blocked => ?_⟩
    · rw [raise_grants ⟨head, unclaimed, normal, fits⟩ (by rw [cooldown]; rfl), setPowerState_ramping, cooldown]
      refine congrArg (fun v => Host.Outcome.next (({ s with power := v }).post (some p)
        (.portState .state .ramping .cooldown s.power[p].reason)).transmit) (upd_congr s.power p ?_)
      rw [cooldown, if_neg (by decide)]
    · rw [raise_waits blocked]
      refine (congrArg (fun t : State => Host.Outcome.next t.transmit) (setPowerState_waiting _ p)).trans ?_
      rw [cooldown]
      refine congrArg (fun v => Host.Outcome.next (({ s with
        supply := { s.supply with claims := insertClaim (claimOf s p) s.supply.claims }, power := v }).post (some p)
        (.portState .state .waiting .cooldown s.power[p].reason)).transmit) (upd_congr s.power p ?_)
      rw [cooldown, if_neg (by decide)]
  · have decays : exec (.tripDecay p) s = .next (s.setPower p (fun w => w.decay s.clock)).transmit := by
      refine if_pos ?_
      rw [State.decayDue, timer]
      generalize s.power[p].state = st at unlocked ⊢
      simpa [due, unlocked] using passed
    rw [decays]
    refine congrArg (fun v => Host.Outcome.next (State.transmit { s with power := v })) (upd_congr s.power p ?_)
    by_cases two : 2 ≤ s.power[p].tripCount
    · rw [PortPower.decay, if_neg (by omega), if_pos two]
    · rw [PortPower.decay, if_pos (by omega), if_neg two]

/-! ## PORT_POWER(OFF) and (PROBE) away from ON (R16) -/

/-- The link with a notice posted (R176). -/
def noted (l : Link) (n : Notice) : Link :=
  if l.notices.length < 32 then { l with notices := l.notices ++ [n] }
  else { l with lost := satAdd 255 l.lost 1, counts := { l.counts with noticesLost := sat32 l.counts.noticesLost } }

theorem post_eq (s : State) (port : Option Port) (body : NoticeBody) :
    s.post port body = { s with link := noted s.link ⟨port, s.clock, body⟩ } := by
  unfold State.post noted
  split
  · rfl
  · rfl

/-- A notice is posted before or after a change that leaves the link and the clock alike. -/
theorem post_comm {f : State → State} (s : State) (port : Option Port) (body : NoticeBody)
    (link : ∀ l : Link, f { s with link := l } = { f s with link := l }) (clock : (f s).clock = s.clock) :
    f (s.post port body) = (f s).post port body := by
  have same : (f s).link = s.link := by
    have kept := congrArg State.link (link s.link)
    exact kept
  have noted_same : noted (f s).link ⟨port, (f s).clock, body⟩ = noted s.link ⟨port, s.clock, body⟩ := by
    rw [same, clock]
  rw [post_eq, post_eq, link, noted_same]

theorem setPower_post (s : State) (port : Option Port) (body : NoticeBody) (p : Port) (f : PortPower → PortPower) :
    (s.post port body).setPower p f = (s.setPower p f).post port body :=
  post_comm (f := fun s => s.setPower p f) s port body (fun _ => rfl) rfl

theorem setClaims_post (s : State) (port : Option Port) (body : NoticeBody) (f : List Claim → List Claim) :
    (s.post port body).setClaims f = (s.setClaims f).post port body :=
  post_comm (f := fun s => s.setClaims f) s port body (fun _ => rfl) rfl

/-- A port away from ON whose going leaves no claim to walk, with the list that is left. -/
abbrev GoesAlone (s : State) (p : Port) (rest : List Claim) : Prop :=
  Idle s.power[p].state ∧ rest = s.supply.claims ∨
    (s.power[p].state = .ramping ∧ s.supply.claims = [] ∧ rest = []) ∨
    (s.power[p].state = .waiting ∧ rest = [] ∧ ∀ c ∈ s.supply.claims, c.port = p ∧ c.kind = .power)

/-- The port's going is then one change of its switch, with its claim withdrawn. -/
theorem portGoes_alone {s : State} {p : Port} {new : PowerState} {rest : List Claim} (r : OffReason)
    (h : GoesAlone s p rest) (away : s.power[p].state ≠ new) (free : new = .off ∨ new = .probing) :
    s.portGoes p new r = (s.setClaims (fun _ => rest)).setPowerState p new r := by
  have supply : (s.setPowerState p new r).supply.claims = s.supply.claims :=
    congrArg (·.claims) ((setPowerState_changes s p new r).supply (by decide))
  rcases h with ⟨idle, rfl⟩ | ⟨ramping, none, rfl⟩ | ⟨waiting, rfl, own⟩
  · exact portGoes_idle r idle away
  · rw [portGoes_ramping r ramping (by rcases free with rfl | rfl <;> decide), walk_nil (supply.trans none)]
    exact congrArg (fun l => (s.setClaims (fun _ => l)).setPowerState p new r) none
  · have dropped : s.supply.claims.filter (fun c => !(c.port = p && c.kind = .power)) = [] :=
      List.filter_eq_nil_iff.mpr (fun c hc => by simp [own c hc])
    rw [portGoes_waiting r waiting (by rcases free with rfl | rfl <;> decide), walk_nil (by
      rw [State.dropClaim_supply, supply]
      exact dropped), State.dropClaim, setPowerState_eq, setPowerState_eq, setClaims_post]
    exact congrArg (fun l => ({ s.setClaims (fun _ => l) with
      power := upd s.power p (fun w => w.enter (s.profileOf p) s.clock new r) }).post (some p)
      (.portState .state new s.power[p].state r)) dropped

/-- With the shed mark cleared after it, the port's going is still one change of its switch. -/
theorem portGoes_clearShed {s : State} {p : Port} {new : PowerState} {rest : List Claim} (h : GoesAlone s p rest)
    (away : s.power[p].state ≠ new) (free : new = .off ∨ new = .probing) :
    (s.portGoes p new .host).clearShed p = ({ s with
      supply := { s.supply with claims := rest }
      power := upd s.power p (fun w => { w.enter (s.profileOf p) s.clock new .host with shedMark := false }) }).post
      (some p) (.portState .state new s.power[p].state .host) := by
  rw [portGoes_alone _ h away free, setPowerState_eq, State.clearShed, setPower_post]
  unfold State.setPower
  rw [upd_upd]
  rfl

theorem portPowerOff_owner {s : State} {p : Port} (h : s.power[p].state ≠ .locked) :
    State.portPowerOff p s = ((s.portGoes p .off .host).clearShed p).reply .ok := by
  unfold State.portPowerOff
  split
  · next locked => exact absurd locked h
  · rfl

theorem portPowerProbe_owner {s : State} {p : Port} (h : s.power[p].state ≠ .locked) (away : s.power[p].state ≠ .probing) :
    State.portPowerProbe p s = ((s.portGoes p .probing .host).clearShed p).reply .ok := by
  unfold State.portPowerProbe
  split
  · next locked => exact absurd locked h
  · next probing => exact absurd probing away
  · rfl

/-- Settles O14: by the port's state; what leaves the list is the port's own claim. -/
theorem portPowerOffAndProbeAtRest : Obligations.PortPowerOffAndProbeAtRest := by
  intro s tag p
  have off : Serves s 0x02 tag (num1 p.val ++ num1 1) → exec .portPowerOff s = .next (State.portPowerOff p s).transmit :=
    fun h => portPower_serves h (by decide) _
  have probe : Serves s 0x02 tag (num1 p.val ++ num1 2) →
      exec .portPowerProbe s = .next (State.portPowerProbe p s).transmit := fun h => portPower_serves h (by decide) _
  refine ⟨fun locked => ⟨fun h => ?_, fun h => ?_⟩, fun at_off h => ?_, fun probing h => ?_, fun rest cases h => ?_,
    fun rest cases h => ?_⟩
  · rw [off h, State.portPowerOff, locked]
  · rw [probe h, State.portPowerProbe, locked]
  · rw [off h, portPowerOff_owner (by rw [at_off]; decide), portGoes_same _ at_off, State.clearShed]
    unfold State.setPower
    rw [upd_upd]
  · rw [probe h, State.portPowerProbe, probing]
    rfl
  · have alone : GoesAlone s p rest := by tauto
    have unlocked : s.power[p].state ≠ .locked := by
      generalize s.power[p].state = st at cases
      rintro rfl
      simp at cases
    have away : s.power[p].state ≠ .off := by
      generalize s.power[p].state = st at cases
      rintro rfl
      simp at cases
    rw [off h, portPowerOff_owner unlocked, portGoes_clearShed alone away (.inl rfl)]
    simp only [enter_off]
  · have alone : GoesAlone s p rest := by tauto
    have unlocked : s.power[p].state ≠ .locked := by
      generalize s.power[p].state = st at cases
      rintro rfl
      simp at cases
    have away : s.power[p].state ≠ .probing := by
      generalize s.power[p].state = st at cases
      rintro rfl
      simp at cases
    rw [probe h, portPowerProbe_owner unlocked away, portGoes_clearShed alone away (.inr rfl)]
    simp only [enter_probing]
    rfl

end Sys2Proof.Power
end

section
/-!
PROOFS. The events of a switch: probe pulses, samples, and a trip in RAMPING (R4, R5, R9 to R14).
-/

namespace Sys2Proof.Power

open Sys2Proof.Machine Sys2Proof.Safety

/-! ## A raised claim (R6, R21) -/

/-- A port that raises its claim is RAMPING or WAITING, with its presence kept. -/
theorem raisePowerClaim_at (s : State) (p : Port) :
    ((s.raisePowerClaim p).power[p].state = .ramping ∨ (s.raisePowerClaim p).power[p].state = .waiting) ∧
      (s.raisePowerClaim p).power[p].presence = s.power[p].presence := by
  have follows := raised_follows s p
  have joined : Claimed (s.joinClaim p .power (s.profileOf p).baseReservation) p :=
    ⟨claimOf s p, mem_insertClaim.mpr (.inl rfl), rfl, rfl⟩
  have presence : (raised s p).power[p].presence = s.power[p].presence :=
    (follows.powers p).elim (fun same => congrArg (·.presence) same) (fun granted => granted.2.presence)
  by_cases held : Claimed (raised s p) p
  · rw [raisePowerClaim_waits held, setPowerState_at, enter_waiting]
    exact ⟨.inr rfl, presence⟩
  · rw [raisePowerClaim_granted held]
    exact ⟨.inl ((follows.leaves p joined).resolve_left held), presence⟩

theorem setPower_setPower (s : State) (p : Port) (f g : PortPower → PortPower) :
    (s.setPower p f).setPower p g = s.setPower p (fun w => g (f w)) := by
  unfold State.setPower
  rw [upd_upd]

/-! ## Probing (R4, R5) -/

theorem probePulseEnd_due {s : State} {p : Port} {at_ : Time} (milliamps : Nat) (probing : s.power[p].state = .probing)
    (pulse : s.power[p].pulseEndAt = some at_) (passed : at_ ≤ s.clock) :
    exec (.probePulseEnd p milliamps) s = .next (s.probeResult p milliamps).transmit := by
  refine if_pos ?_
  rw [probing, pulse]
  simpa [due] using passed

theorem probeResult_absent {s : State} {p : Port} {milliamps : Nat} (low : milliamps < 2) : s.probeResult p milliamps =
    if s.power[p].presence = .present then
      (s.setPower p (fun w => { w with pulseEndAt := none, presence := .absent })).attachNotice p .detached
    else s.setPower p (fun w => { w with pulseEndAt := none, presence := .absent }) := by
  have both : (s.setPower p (fun w => { w with pulseEndAt := none })).setPower p (fun w => { w with presence := .absent }) =
      s.setPower p (fun w => { w with pulseEndAt := none, presence := .absent }) :=
    setPower_setPower _ _ _ _
  unfold State.probeResult
  extract_lets t was u
  rw [if_pos low, show u = _ from both]

theorem probeResult_present {s : State} {p : Port} {milliamps : Nat} (low : 2 ≤ milliamps) (high : milliamps ≤ 20) :
    ∃ told, s.probeResult p milliamps = (if s.settings.ports[p].autoPower then told.raisePowerClaim p else told) ∧
      told = if s.power[p].presence = .present then
        s.setPower p (fun w => { w with pulseEndAt := none, presence := .present })
      else (s.setPower p (fun w => { w with pulseEndAt := none, presence := .present })).attachNotice p .attached := by
  have both : (s.setPower p (fun w => { w with pulseEndAt := none })).setPower p (fun w => { w with presence := .present }) =
      s.setPower p (fun w => { w with pulseEndAt := none, presence := .present }) :=
    setPower_setPower _ _ _ _
  unfold State.probeResult
  extract_lets t was _ u told
  rw [if_neg (by omega), if_pos high]
  exact ⟨told, rfl, by rw [← both]⟩

/-- Settles O19: the current at the pulse's end decides the presence. -/
theorem probePulseTellsPresence : Obligations.ProbePulseTellsPresence := by
  refine fun s p milliamps at_ probing => ⟨fun enabled probe passed => ?_, fun pulse passed => ?_⟩
  · refine if_pos ?_
    rw [State.probePulseDue, probing, State.profileOf, enabled, probe]
    simpa [due] using passed
  rw [probePulseEnd_due milliamps probing pulse passed]
  have told_reason : ∀ f : PortPower → PortPower, (f s.power[p]).reason = s.power[p].reason → ∀ event,
      (s.setPower p f).attachNotice p event =
        (s.setPower p f).post (some p) (.portState event .probing .probing s.power[p].reason) := fun f keeps event => by
    rw [State.attachNotice, State.setPower_power, upd_same, keeps]
  refine ⟨fun low present => ?_, fun low other => ?_, fun low high manual => ⟨fun present => ?_, fun other => ?_⟩,
    fun low high auto _ => ?_, fun short => ?_⟩
  · rw [probeResult_absent low, if_pos present, told_reason _ rfl]
    rfl
  · rw [probeResult_absent low, if_neg other]
    rfl
  · obtain ⟨told, result, rfl⟩ := probeResult_present (s := s) (p := p) low high
    rw [result, manual, if_neg (by decide), if_pos present]
    rfl
  · obtain ⟨told, result, rfl⟩ := probeResult_present (s := s) (p := p) low high
    rw [result, manual, if_neg (by decide), if_neg other, told_reason _ rfl]
    rfl
  · obtain ⟨told, result, htold⟩ := probeResult_present (s := s) (p := p) low high
    obtain ⟨state, presence⟩ := raisePowerClaim_at told p
    rw [result, auto, if_pos rfl]
    refine ⟨_, rfl, state, presence.trans ?_⟩
    have marked : told.power = upd s.power p (fun w => { w with pulseEndAt := none, presence := .present }) := by
      rw [htold]
      split
      · rfl
      · exact (post_changes _ _ _).power (by decide)
    rw [marked, upd_same]
  · unfold State.probeResult
    extract_lets t was u v told
    rw [if_neg (by omega), if_neg (by omega)]
    rfl

/-! ## Samples (R9, R10, R13, R14) -/

theorem upd_id {α : Type} {n : Nat} {v : Vector α n} {i : Fin n} {f : α → α} (h : f v[i] = v[i]) : upd v i f = v := by
  unfold upd
  rw [h]
  exact Vector.set_getElem_self _

/-- A run after a sample, by its three cases (R10, R13). -/
theorem run_sample {r out : Option Run} {holds : Prop} [Decidable holds] {now : Time} (ends : ¬ holds → out = none)
    (begins : holds → r = none → out = some ⟨now, now⟩)
    (carries : ∀ old, holds → r = some old → out = some ⟨old.start, now⟩) : Run.sample r (decide holds) now = out := by
  unfold Run.sample
  by_cases h : holds
  · rw [if_pos (decide_eq_true h)]
    cases r with
    | none => rw [begins h rfl]
    | some old => rw [carries old h rfl]
  · rw [if_neg (by simpa using h), ends h]

theorem sample_open {s : State} {p : Port} (milliamps : Nat) (free : s.power[p].state.reserved = false) :
    s.sample p milliamps = s.setPower p (fun w => w.takeSample 0) := by
  unfold State.sample
  extract_lets st v t run
  have hfree : st.reserved = false := free
  have hv : v = 0 := if_neg (by rw [hfree]; decide)
  rw [hfree, if_neg (by decide)]
  exact congrArg (fun n => s.setPower p (fun w => w.takeSample n)) hv

/-- The switch after a sample in RAMPING. -/
def rampSample (over_ : Option Run) (milliamps : Nat) (w : PortPower) : PortPower :=
  { w.takeSample milliamps with overRun := over_ }

theorem sample_ramping {s : State} {p : Port} {milliamps : Nat} {run : Option Run} (low : milliamps ≤ 4500)
    (ramping : s.power[p].state = .ramping)
    (over_ : Run.sample s.power[p].overRun (decide (s.effectiveThreshold p < milliamps)) s.clock = run) :
    s.sample p milliamps = s.setPower p (rampSample run milliamps) := by
  unfold State.sample
  extract_lets st v t u
  have hst : st = .ramping := ramping
  have reserved : st.reserved = true := by rw [hst]; rfl
  have hv : v = milliamps := (if_pos reserved).trans (Nat.min_eq_left low)
  have hu : u = s.setPower p (rampSample run milliamps) := by
    show (s.setPower p _).setPower p _ = _
    rw [setPower_setPower]
    refine congrArg (fun x => { s with power := x }) (upd_congr s.power p ?_)
    rw [hv, ← over_]
    rfl
  rw [if_pos reserved, if_neg (by rw [hst]; decide), hu]

/-- The switch after a sample in ON, before the overdraw check. -/
def onSample (over_ under : Option Run) (milliamps : Nat) (w : PortPower) : PortPower :=
  { rampSample over_ milliamps w with underRun := under }

theorem sample_on {s : State} {p : Port} {milliamps : Nat} {run under : Option Run} (low : milliamps ≤ 4500)
    (on : s.power[p].state = .on)
    (over_ : Run.sample s.power[p].overRun (decide (s.effectiveThreshold p < milliamps)) s.clock = run)
    (less : Run.sample s.power[p].underRun (decide ((s.power[p].takeSample milliamps).average 100 <
      s.settings.ports[p].underload)) s.clock = under) :
    s.sample p milliamps = (s.setPower p (onSample run under milliamps)).overdrawCheck p := by
  unfold State.sample
  extract_lets st v t u
  have hst : st = .on := on
  have reserved : st.reserved = true := by rw [hst]; rfl
  have hv : v = milliamps := (if_pos reserved).trans (Nat.min_eq_left low)
  rw [if_pos reserved, if_pos on]
  refine congrArg (fun x : State => x.overdrawCheck p) ?_
  show ((s.setPower p _).setPower p _).setPower p _ = _
  rw [setPower_setPower, setPower_setPower]
  refine congrArg (fun x => { s with power := x }) (upd_congr s.power p ?_)
  rw [hv, ← over_, ← less]
  rfl

/-- The overdraw flag goes back to armed below the base reservation (R14). -/
theorem overdrawCheck_sent {s : State} {p : Port} (sent : s.power[p].overdrawSent = true) :
    s.overdrawCheck p = s.setPower p (fun w => { w with
      overdrawSent := decide (s.settings.ports[p].baseReservation ≤ s.power[p].average 1000) }) := by
  unfold State.overdrawCheck
  extract_lets average base
  rw [if_pos sent]
  by_cases less : average < base
  · have flag : decide (s.settings.ports[p].baseReservation ≤ s.power[p].average 1000) = false :=
      decide_eq_false (Nat.not_le.mpr less)
    rw [if_pos less, flag]
  · have flag : decide (s.settings.ports[p].baseReservation ≤ s.power[p].average 1000) = true :=
      decide_eq_true (Nat.not_lt.mp less)
    rw [if_neg less, flag, ← sent]
    exact congrArg (fun v => { s with power := v })
      (upd_id (f := fun w : PortPower => { w with overdrawSent := s.power[p].overdrawSent }) rfl).symm

theorem overdrawCheck_armed {s : State} {p : Port} (armed : s.power[p].overdrawSent = false) :
    s.overdrawCheck p = if s.settings.ports[p].baseReservation * 5 < s.power[p].average 1000 * 4 then
      (s.setPower p (fun w => { w with overdrawSent := true })).post (some p)
        (.overdraw (s.power[p].average 1000) s.settings.ports[p].baseReservation) else s := by
  unfold State.overdrawCheck
  extract_lets average base
  rw [armed, if_neg (by decide)]
  rfl

theorem currentSample_due {s : State} {p : Port} (milliamps : Nat) (next : s.power[p].nextSampleAt ≤ s.clock) :
    exec (.currentSample p milliamps) s = .next (s.sample p milliamps).transmit := if_pos next

/-- Settles O21: by the state of the switch, and in ON by the overdraw flag. -/
theorem sampleKeepsRunsAndOverdraw : Obligations.SampleKeepsRunsAndOverdraw := by
  refine fun s p milliamps next low => ⟨fun noRamp noOn => ?_, fun run ends begins carries => ?_⟩
  · rw [currentSample_due milliamps next, sample_open milliamps ?_]
    · rfl
    · rw [Bool.eq_false_iff, Ne, reserved_iff]
      exact fun h => h.elim noRamp noOn
  have over_ := run_sample (fun h => ends (Nat.not_lt.mp h)) begins carries
  rw [currentSample_due milliamps next]
  refine ⟨fun ramping => ?_, fun on under average base begins' carries' ends' haverage hbase => ?_⟩
  · rw [sample_ramping low ramping over_]
    rfl
  have less := run_sample (r := s.power[p].underRun) (fun h => ends' (Nat.not_lt.mp h)) begins' carries'
  rw [sample_on low on over_ less]
  have kept : (s.setPower p (onSample run under milliamps)).power[p] = onSample run under milliamps s.power[p] := by
    rw [State.setPower_power, upd_same]
  have sums : (s.setPower p (onSample run under milliamps)).power[p].average 1000 = average := by
    rw [kept, haverage]
    rfl
  have same_base : (s.setPower p (onSample run under milliamps)).settings.ports[p].baseReservation = base := hbase.symm
  refine ⟨fun sent => ?_, fun armed small => ?_, fun armed large => ?_⟩
  · rw [overdrawCheck_sent (by rw [kept]; exact sent), sums, setPower_setPower, hbase]
    rfl
  · rw [overdrawCheck_armed (by rw [kept]; exact armed), sums, same_base, if_neg (by omega)]
    rfl
  · rw [overdrawCheck_armed (by rw [kept]; exact armed), sums, same_base, if_pos large,
      setPower_setPower]
    rfl

/-! ## Trips in RAMPING (R10, R11) -/

/-- A change of power state after a notice. -/
theorem setPowerState_post (s : State) (port : Option Port) (body : NoticeBody) (p : Port) (new : PowerState)
    (r : OffReason) : (s.post port body).setPowerState p new r =
      ((s.setPower p (fun w => w.enter (s.profileOf p) s.clock new r)).post port body).post (some p)
        (.portState .state new s.power[p].state r) := by
  have keeps : (s.post port body).clock = s.clock ∧ (s.post port body).settings = s.settings ∧
      (s.post port body).power = s.power := by simp
  obtain ⟨clock, settings, power⟩ := keeps
  have enters : (fun w : PortPower => w.enter ((s.post port body).profileOf p) (s.post port body).clock new r) =
      fun w => w.enter (s.profileOf p) s.clock new r := by
    rw [clock, State.profileOf, settings]
    rfl
  rw [setPowerState_eq, ← setPower_post, enters, congrArg (fun v : Vector PortPower 8 => v[p].state) power]
  rfl

theorem enter_cooldown (w : PortPower) (f : PortProfile) (now : Time) (r : OffReason) : w.enter f now .cooldown r = { w with
    state := .cooldown
    reason := r
    overRun := none
    underRun := none
    shedMark := if w.state = .off then false else w.shedMark
    pulseEndAt := none
    probeAt := none
    rampEndAt := none
    cooldownEndAt := some (now + 400000) } := by
  simp [PortPower.enter, PowerState.reserved]

theorem enter_locked (w : PortPower) (f : PortProfile) (now : Time) (r : OffReason) : w.enter f now .locked r = { w with
    state := .locked
    reason := r
    overRun := none
    underRun := none
    shedMark := if w.state = .off then false else w.shedMark
    pulseEndAt := none
    probeAt := none
    rampEndAt := none
    cooldownEndAt := none } := by
  simp [PortPower.enter, PowerState.reserved]

/-- Where a trip takes the port, and why, by the count before it (R11). -/
theorem trip_goes {s : State} {p : Port} (cause : TripCause) (current : Nat) {new : PowerState} {reason : OffReason}
    (few : s.power[p].tripCount < 5) (cools : s.power[p].tripCount < 4 → new = .cooldown ∧ reason = .trip)
    (locks : s.power[p].tripCount = 4 → new = .locked ∧ reason = .lock) : s.trip p cause current =
      ((((s.setPower p (fun w => { w with
        tripCount := w.tripCount + 1
        decayAt := if w.tripCount = 4 then none else some (s.clock + 45000000) })).post (some p)
        (.portTrip cause current (s.effectiveThreshold p) (s.power[p].tripCount + 1) new)).portGoes p new reason)).tripEvidence
        p (s.power[p].tripCount + 1) := by
  unfold State.trip
  extract_lets count new' reason' counted told
  have hcount : count = s.power[p].tripCount + 1 := Nat.min_eq_right (by omega)
  have hnew : new' = new ∧ reason' = reason := by
    by_cases fifth : s.power[p].tripCount = 4
    · obtain ⟨rfl, rfl⟩ := locks fifth
      exact ⟨if_pos (by omega), if_pos (by omega)⟩
    · obtain ⟨rfl, rfl⟩ := cools (by omega)
      exact ⟨if_neg (by omega), if_neg (by omega)⟩
  have hcounted : counted = s.setPower p (fun w => { w with
      tripCount := w.tripCount + 1, decayAt := if w.tripCount = 4 then none else some (s.clock + 45000000) }) := by
    refine congrArg (fun v => { s with power := v }) (upd_congr s.power p ?_)
    rw [hcount]
    by_cases fifth : s.power[p].tripCount = 4
    · rw [if_pos fifth, if_pos (by omega)]
    · rw [if_neg fifth, if_neg (by omega)]
  have htold : told = counted.post (some p) (.portTrip cause current (s.effectiveThreshold p) count new') := rfl
  rw [htold, hcounted, hnew.1, hnew.2, hcount]

/-- Settles O22: the count, the notices and the walk in their order, and the evidence last. -/
theorem tripInRampCountsAndCools : Obligations.TripInRampCountsAndCools := by
  intro s p milliamps run cause current new reason result ramping few cools locks hresult t other third fifth
  have away : new ≠ .ramping := by
    by_cases fifth : s.power[p].tripCount = 4
    · rw [(locks fifth).1]; decide
    · rw [(cools (by omega)).1]; decide
  have goes : ((s.setPower p (fun w => { w with
      tripCount := w.tripCount + 1
      decayAt := if w.tripCount = 4 then none else some (s.clock + 45000000) })).post (some p)
      (.portTrip cause current (s.effectiveThreshold p) (s.power[p].tripCount + 1) new)).portGoes p new reason = result := by
    have counted : (s.setPower p (fun w => { w with
        tripCount := w.tripCount + 1
        decayAt := if w.tripCount = 4 then none else some (s.clock + 45000000) })).power[p].state = .ramping := by
      rw [State.setPower_power, upd_same]
      exact ramping
    rw [portGoes_ramping reason (by rw [(post_changes _ _ _).power (by decide)]; exact counted) away, hresult,
      setPowerState_post, setPower_setPower, counted]
    refine congrArg (fun v => State.walk (((({ s with power := v } : State).post (some p)
      (.portTrip cause current (s.effectiveThreshold p) (s.power[p].tripCount + 1) new)).post (some p)
      (.portState .state new .ramping reason)))) (upd_congr s.power p ?_)
    by_cases fifth : s.power[p].tripCount = 4
    · obtain ⟨rfl, rfl⟩ := locks fifth
      rw [enter_locked]
      simp only [ramping, if_pos fifth]
      rfl
    · obtain ⟨rfl, rfl⟩ := cools (by omega)
      rw [enter_cooldown]
      simp only [ramping, if_neg fifth]
      rfl
  have trips : (s.trip p cause current).transmit = t := by
    rw [trip_goes cause current few cools locks, goes]
    unfold State.tripEvidence
    split
    · exact (third (by omega)).symm
    · split
      · exact (fifth (by omega)).symm
      · exact (other (by omega) (by omega)).symm
  refine ⟨?_, ?_⟩
  · rintro rfl rfl over_ long
    refine (if_pos ?_).trans (congrArg Host.Outcome.next trips)
    rw [State.thresholdDue, ramping, over_]
    simpa [PowerState.reserved] using long
  · rintro rfl rfl hard
    refine (if_pos ?_).trans (congrArg Host.Outcome.next trips)
    rw [ramping]
    simpa [PowerState.reserved] using hard

end Sys2Proof.Power
end

section
/-! PROOFS. The supply monitor: the sheds of a LOW supply, and its recovery (R25 to R27). -/

namespace Sys2Proof.Power

open Sys2Proof.Machine Sys2Proof.Safety

/-! ## What a port's going keeps -/

/-- A change of the parts in `F` alone, with all of the supply kept but its claims. -/
structure KeepsSupply (F : List Part) (s t : State) : Prop extends Changes F s t where
  supplyKept : t.supply = { s.supply with claims := t.supply.claims }

theorem KeepsSupply.refl (F : List Part) (s : State) : KeepsSupply F s s := ⟨(Changes.refl s).mono (by simp), rfl⟩

theorem KeepsSupply.step {F : List Part} {s t u : State} (h : KeepsSupply F s t) (g : KeepsSupply F t u) :
    KeepsSupply F s u :=
  ⟨h.toChanges.step g.toChanges, by rw [g.supplyKept, h.supplyKept]⟩

theorem Follows.keepsSupply {F G : List Part} {x : Option Port} {s t : State} (h : Follows F x s t)
    (sub : ∀ a ∈ F, a ∈ G) : KeepsSupply G s t := ⟨h.toChanges.mono sub, h.supplyKept⟩

theorem Changes.keepsSupply {F G : List Part} {s t : State} (h : Changes F s t) (sub : ∀ a ∈ F, a ∈ G)
    (away : .supply ∉ F) : KeepsSupply G s t := ⟨h.mono sub, by rw [h.supply away]⟩

theorem portGoes_keepsSupply (s : State) (p : Port) (new : PowerState) (r : OffReason) :
    KeepsSupply leftParts s (s.portGoes p new r) := by
  have enters : KeepsSupply leftParts s (s.setPowerState p new r) :=
    (setPowerState_changes s p new r).keepsSupply (by decide) (by decide)
  by_cases same : s.power[p].state = new
  · rw [portGoes_same r same]
    exact (setPower_changes s p _).keepsSupply (by decide) (by decide)
  rcases idle_or s.power[p].state with on | ramping | waiting | idle
  · rw [portGoes_on r on (fun e => same (on.trans e.symm))]
    exact enters.step (((cutOff_follows _ p).step ((leftOn_follows _ p).but _)).keepsSupply (fun _ => id))
  · rw [portGoes_ramping r ramping (fun e => same (ramping.trans e.symm))]
    exact enters.step ((walk_follows _).keepsSupply (by decide))
  · rw [portGoes_waiting r waiting (fun e => same (waiting.trans e.symm))]
    have dropped : KeepsSupply leftParts (s.setPowerState p new r) ((s.setPowerState p new r).dropClaim p .power) :=
      ⟨(supply_changes _ _).mono (by decide), rfl⟩
    exact enters.step (dropped.step ((walk_follows _).keepsSupply (by decide)))
  · rw [portGoes_idle r idle same]
    exact enters

/-! ## Sheds (R25, R26) -/

/-- While the supply is LOW a port's going changes its own switch alone. -/
theorem portGoes_power_low {s : State} {p : Port} {new : PowerState} (r : OffReason) (h : s.power[p].state ≠ new)
    (free : new.reserved = false) (low : s.supply.low.isSome = true) :
    (s.portGoes p new r).power = (s.setPowerState p new r).power := by
  obtain ⟨u, follows, power, kept, -, -⟩ := portGoes_follows r h free
  rw [follows.lowKeeps (by rw [kept]; exact low), power]

/-- A port that has been shed (R25). -/
structure HasShed (w v : PortPower) : Prop where
  state : v.state = .off
  reason : v.reason = .shed
  shedMark : v.shedMark = true
  tripCount : v.tripCount = w.tripCount

theorem shed_keepsSupply (s : State) (p : Port) : KeepsSupply leftParts s (State.shed p s) :=
  (portGoes_keepsSupply s p _ _).step ((setPower_changes _ p _).keepsSupply (by decide) (by decide))

theorem shed_at {s : State} {p : Port} (reserved : s.power[p].state.reserved = true)
    (low : s.supply.low.isSome = true) : HasShed s.power[p] (State.shed p s).power[p] := by
  have powered : s.power[p].state ≠ .off := fun e => by rw [e] at reserved; cases reserved
  have at_p : (State.shed p s).power[p] =
      { (s.power[p]).enter (s.profileOf p) s.clock .off .shed with shedMark := true } := by
    unfold State.shed
    rw [State.setPower_power, upd_same, portGoes_power_low _ powered rfl low, setPowerState_at]
  rw [at_p, enter_off]
  exact ⟨rfl, rfl, rfl, rfl⟩

theorem shed_low_other {s : State} {p q : Port} (h : q ≠ p) (low : s.supply.low.isSome = true) :
    (State.shed p s).power[q] = s.power[q] := (upd_other _ _ h).trans (portGoes_low _ rfl h low)

theorem shedAll_keepsSupply : ∀ (ps : List Port) (s : State), KeepsSupply leftParts s (State.forPorts State.shed ps s)
  | [], s => .refl _ s
  | p :: ps, s => (shed_keepsSupply s p).step (shedAll_keepsSupply ps (State.shed p s))

/-- While the supply is LOW the ports of a list are shed, and no other port's power changes. -/
theorem shedAll_power : ∀ {ps : List Port} {s : State}, ps.Nodup → s.supply.low.isSome = true →
    (∀ p ∈ ps, s.power[p].state.reserved = true) → ∀ q : Port,
      (q ∈ ps → HasShed s.power[q] (State.forPorts State.shed ps s).power[q]) ∧
        (q ∉ ps → (State.forPorts State.shed ps s).power[q] = s.power[q])
  | [], s, _, _, _, q => ⟨fun h => absurd h List.not_mem_nil, fun _ => rfl⟩
  | p :: ps, s, once, low, reserved, q => by
    obtain ⟨fresh, rest⟩ := List.nodup_cons.mp once
    have still : (State.shed p s).supply.low.isSome = true := by
      rw [(shed_keepsSupply s p).supplyKept]
      exact low
    have other : ∀ r ∈ ps, (State.shed p s).power[r] = s.power[r] := fun r hr =>
      shed_low_other (fun e => fresh (e ▸ hr)) low
    obtain ⟨shed, kept⟩ := shedAll_power rest still
      (fun r hr => by rw [other r hr]; exact reserved r (List.mem_cons_of_mem _ hr)) q
    show (_ → HasShed _ (State.forPorts State.shed ps (State.shed p s)).power[q]) ∧
      (_ → (State.forPorts State.shed ps (State.shed p s)).power[q] = _)
    refine ⟨fun hq => ?_, fun hq => ?_⟩
    · by_cases later : q ∈ ps
      · have := shed later
        rwa [other q later] at this
      · rw [kept later]
        obtain rfl : q = p := (List.mem_cons.mp hq).resolve_right later
        exact shed_at (reserved q List.mem_cons_self) low
    · rw [kept (fun h => hq (List.mem_cons_of_mem _ h))]
      exact shed_low_other (fun e => hq (by rw [e]; exact List.mem_cons_self)) low

/-- What a shed of the ports that satisfy a test comes to, while the supply is LOW. -/
theorem shedPorts_low {s : State} {f : Port → Bool} (event : SupplyEvent) (low : s.supply.low.isSome = true)
    (reserved : ∀ p, f p = true → s.power[p].state.reserved = true) :
    KeepsSupply leftParts s (s.shedPorts event (portsWhere f)) ∧ ∀ q : Port,
      (f q = true → HasShed s.power[q] (s.shedPorts event (portsWhere f)).power[q]) ∧
        (f q = false → (s.shedPorts event (portsWhere f)).power[q] = s.power[q]) := by
  have told : KeepsSupply leftParts (State.forPorts State.shed (portsWhere f) s) (s.shedPorts event (portsWhere f)) :=
    (post_changes _ _ _).keepsSupply (by simp) (by simp)
  have power : (s.shedPorts event (portsWhere f)).power = (State.forPorts State.shed (portsWhere f) s).power :=
    (post_changes _ _ _).power (by simp)
  refine ⟨(shedAll_keepsSupply _ s).step told, fun q => ?_⟩
  obtain ⟨shed, kept⟩ := shedAll_power (portsWhere_nodup f) low (fun p hp => reserved p (mem_portsWhere.mp hp)) q
  rw [power]
  exact ⟨fun h => shed (mem_portsWhere.mpr h), fun h => kept (fun m => by
    rw [mem_portsWhere.mp m] at h
    cases h)⟩

/-- The state in which the supply has become LOW. -/
def atFirst (s : State) (millivolts : Nat) : State :=
  { s with supply := { s.supply with millivolts := millivolts, low := some .first, fullCheckAt := some (s.clock + 50000) } }

/-- The ports that R25 sheds. -/
def belowKeep (s : State) (p : Port) : Bool :=
  s.power[p].state.reserved && s.settings.ports[p].priority < s.settings.keepLevel

theorem belowKeep_iff (s : State) (p : Port) : belowKeep s p = true ↔
    (s.power[p].state = .ramping ∨ s.power[p].state = .on) ∧ s.settings.ports[p].priority < s.settings.keepLevel := by
  rw [belowKeep, Bool.and_eq_true, reserved_iff, decide_eq_true_eq]

theorem supplyLow_sheds {s : State} {millivolts held : Nat} (normal : s.supply.low = none) (low : millivolts < 19000)
    (long : 1000 ≤ held) : exec (.supplyLow millivolts held) s =
      .next ((atFirst s millivolts).shedPorts .low (portsWhere (belowKeep s))).transmit :=
  if_pos (by simp [normal, low, long])

theorem supplyFullShedCheck_due {s : State} {at_ : Time} (millivolts : Nat) (timer : s.supply.fullCheckAt = some at_)
    (passed : at_ ≤ s.clock) : exec (.supplyFullShedCheck millivolts) s = .next (s.fullCheck millivolts).transmit :=
  if_pos (by simpa [timer, due] using passed)

/-- The state in which the look of R26 has been made. -/
def looked (s : State) (millivolts : Nat) : State :=
  { s with supply := { s.supply with fullCheckAt := none, millivolts := millivolts } }

/-- The state in which the supply is at stage FULL. -/
def atFull (s : State) (millivolts : Nat) : State :=
  { s with supply := { s.supply with fullCheckAt := none, millivolts := millivolts, low := some .full } }

theorem fullCheck_below {s : State} {millivolts : Nat} (below : millivolts < 19000) (low : s.supply.low.isSome = true) :
    s.fullCheck millivolts = (atFull s millivolts).shedPorts .fullShed (portsWhere (fun p => s.power[p].state.reserved)) := by
  unfold State.fullCheck
  extract_lets _ _ t
  have hlow : t.supply.low.isSome = true := low
  rw [hlow, decide_eq_true below]
  rfl

theorem fullCheck_above {s : State} {millivolts : Nat} (above : 19000 ≤ millivolts) :
    s.fullCheck millivolts = looked s millivolts := by
  unfold State.fullCheck
  extract_lets _ _ t
  rw [decide_eq_false (Nat.not_lt.mpr above)]
  rfl

/-- Settles O25: the ports shed are those of the test, and while the supply is LOW no claim is granted. -/
theorem lowSupplySheds : Obligations.LowSupplySheds := by
  refine ⟨fun s millivolts held => ⟨fun normal low long => ?_, fun quiet => ?_⟩,
    fun s millivolts at_ timer passed => ⟨fun low below => ?_, fun above => ?_⟩⟩
  · obtain ⟨keeps, shed⟩ := shedPorts_low (s := atFirst s millivolts) (f := belowKeep s) .low rfl
      (fun p hp => (reserved_iff _).mpr ((belowKeep_iff s p).mp hp).1)
    rw [supplyLow_sheds normal low long]
    generalize (atFirst s millivolts).shedPorts .low (portsWhere (belowKeep s)) = t at keeps shed ⊢
    refine ⟨_, rfl, congrArg (·.low) keeps.supplyKept, congrArg (·.fullCheckAt) keeps.supplyKept,
      congrArg (·.millivolts) keeps.supplyKept, fun p => ⟨fun h => ?_, fun h => ?_⟩, keeps.settings (by decide), keeps.clock,
      keeps.monitor (by decide), keeps.table (by decide), keeps.profile⟩
    · obtain ⟨state, reason, mark, trips⟩ := (shed p).1 ((belowKeep_iff s p).mpr h)
      exact ⟨state, reason, mark, trips⟩
    · exact (shed p).2 (Bool.eq_false_iff.mpr (fun k => h ((belowKeep_iff s p).mp k)))
  · refine if_neg ?_
    rw [Bool.and_eq_true, Bool.and_eq_true, decide_eq_true_eq, decide_eq_true_eq, Option.isNone_iff_eq_none]
    rintro ⟨⟨normal, below⟩, long⟩
    rw [normal] at quiet
    rcases quiet with low | above | short
    · cases low
    · omega
    · omega
  · obtain ⟨keeps, shed⟩ := shedPorts_low (s := atFull s millivolts) (f := fun p => s.power[p].state.reserved) .fullShed rfl
      (fun p hp => hp)
    rw [supplyFullShedCheck_due millivolts timer passed, fullCheck_below below low]
    generalize (atFull s millivolts).shedPorts .fullShed (portsWhere (fun p => s.power[p].state.reserved)) = t at keeps shed ⊢
    refine ⟨_, rfl, congrArg (·.low) keeps.supplyKept, congrArg (·.fullCheckAt) keeps.supplyKept,
      congrArg (·.millivolts) keeps.supplyKept, fun p => ⟨fun h => ?_, fun noRamp noOn => ?_⟩, keeps.settings (by decide),
      keeps.clock, keeps.monitor (by decide), keeps.table (by decide), keeps.profile⟩
    · obtain ⟨state, reason, mark, -⟩ := (shed p).1 ((reserved_iff _).mpr h)
      exact ⟨state, reason, mark⟩
    · exact (shed p).2 (Bool.eq_false_iff.mpr (fun k => ((reserved_iff _).mp k).elim noRamp noOn))
  · rw [supplyFullShedCheck_due millivolts timer passed, fullCheck_above above]
    rfl

/-! ## Recovery (R27) -/

theorem supplyRecovered_due {s : State} {millivolts held : Nat} (low : s.supply.low.isSome = true)
    (above : 20500 < millivolts) (long : 100000 ≤ held) :
    exec (.supplyRecovered millivolts held) s = .next (s.measured millivolts).recover.transmit := by
  refine if_pos ?_
  rw [low, Bool.true_and, Bool.and_eq_true, decide_eq_true_eq, decide_eq_true_eq]
  exact ⟨above, long⟩

/-- A recovery told (R27). -/
def recovered (s : State) : State :=
  ({ s with supply := { s.supply with low := none, fullCheckAt := none } }).post none
    (.supply .recovered s.supply.millivolts (allPorts.filter (fun p => s.power[p].shedMark)))

/-- The state in which the supply is NORMAL again. -/
def normalAgain (s : State) : State := { s with supply := { s.supply with low := none, fullCheckAt := none } }

theorem recovered_changes (s : State) : Changes [] (normalAgain s) (recovered s) := post_changes _ _ _

theorem recover_latched {s : State} (latched : s.settings.policy = .latched) : s.recover = (recovered s).walk := by
  unfold State.recover
  extract_lets marked _ t
  rw [latched]
  rfl

theorem recover_auto {s : State} (auto : s.settings.policy = .auto) : s.recover =
    State.forPorts State.raiseShed (s.byPriority (fun p => s.power[p].shedMark)) (recovered s).walk := by
  unfold State.recover
  extract_lets marked _ t
  rw [auto]
  rfl

theorem byPriority_none {s : State} {f : Port → Bool} (h : ∀ p, f p = false) : s.byPriority f = [] := by
  refine List.eq_nil_iff_forall_not_mem.mpr (fun p hp => ?_)
  have := mem_byPriority hp
  rw [h p] at this
  cases this

/-- A port is on the list in its priority's place. -/
theorem mem_byPriority_of {s : State} {f : Port → Bool} {p : Port} (h : f p = true) (fits : s.settings.ports[p].priority ≤ 3) :
    p ∈ s.byPriority f := by
  refine List.mem_flatMap.mpr ⟨s.settings.ports[p].priority, ?_, mem_portsWhere.mpr ?_⟩
  · simp only [List.mem_cons, List.not_mem_nil, or_false]
    omega
  · rw [h, Bool.true_and, decide_eq_true_eq]
    rfl

/-- A port that raises its claim at recovery (R27). -/
structure HasRaised (v : PortPower) : Prop where
  state : v.state = .waiting ∨ v.state = .ramping
  shedMark : v.shedMark = false

theorem raisePowerClaim_keepsSupply (s : State) (p : Port) : KeepsSupply lensParts s (s.raisePowerClaim p) := by
  have walked : KeepsSupply lensParts s (raised s p) :=
    KeepsSupply.step ⟨(joinClaim_changes s p _ _).mono (by decide), rfl⟩ ((raised_follows s p).keepsSupply (fun _ => id))
  by_cases h : Claimed (raised s p) p
  · rw [raisePowerClaim_waits h]
    exact walked.step ((setPowerState_changes _ _ _ _).keepsSupply (by decide) (by decide))
  · rw [raisePowerClaim_granted h]
    exact walked

theorem raiseShed_keepsSupply (s : State) (p : Port) : KeepsSupply lensParts s (State.raiseShed p s) :=
  ((setPower_changes s p _).keepsSupply (by decide) (by decide)).step (raisePowerClaim_keepsSupply _ p)

theorem raiseAll_keepsSupply : ∀ (ps : List Port) (s : State),
    KeepsSupply lensParts s (State.forPorts State.raiseShed ps s)
  | [], s => .refl _ s
  | p :: ps, s => (raiseShed_keepsSupply s p).step (raiseAll_keepsSupply ps (State.raiseShed p s))

/-- A grant after the claim was raised leaves a port raised. -/
theorem HasRaised.granted {w v : PortPower} (h : HasRaised w) (g : Granted w v) : HasRaised v :=
  ⟨.inr g.state, by rw [g.shedMark, h.shedMark, ite_self]⟩

theorem raisePowerClaim_unmarked {s : State} {p : Port} (clear : s.power[p].shedMark = false) :
    (s.raisePowerClaim p).power[p].shedMark = false := by
  have mark : (raised s p).power[p].shedMark = false :=
    ((raised_follows s p).powers p).elim (fun same => (congrArg (·.shedMark) same).trans clear)
      (fun granted => granted.2.shedMark.trans ((congrArg (ite _ false) clear).trans (ite_self _)))
  by_cases h : Claimed (raised s p) p
  · rw [raisePowerClaim_waits h, setPowerState_at, enter_waiting]
    simp only [mark, ite_self]
  · rw [raisePowerClaim_granted h, mark]

theorem raiseShed_at (s : State) (p : Port) : HasRaised (State.raiseShed p s).power[p] :=
  ⟨(raisePowerClaim_at _ p).1.symm, raisePowerClaim_unmarked (by rw [State.setPower_power, upd_same])⟩

/-- Every port of the list has raised its claim, as have those that had before. -/
theorem raiseAll_raised : ∀ (ps : List Port) (s : State) (p : Port), p ∈ ps ∨ HasRaised s.power[p] →
    HasRaised (State.forPorts State.raiseShed ps s).power[p]
  | [], s, p, h => h.elim (fun k => absurd k List.not_mem_nil) id
  | q :: ps, s, p, h => by
    show HasRaised (State.forPorts State.raiseShed ps (State.raiseShed q s)).power[p]
    refine raiseAll_raised ps _ p ?_
    by_cases e : p = q
    · rw [e]
      exact .inr (raiseShed_at s q)
    · refine h.imp (fun m => (List.mem_cons.mp m).resolve_left e) (fun r => ?_)
      exact (raiseShed_other e).elim (fun same => by rw [same]; exact r) (fun granted => r.granted granted.2)

/-- Settles O26: RECOVERED is told before the walk and the claims, which only post notices behind it. -/
theorem recoveryRaisesShedPorts : Obligations.RecoveryRaisesShedPorts := by
  refine fun s millivolts held => ⟨fun low above long => ⟨fun unclaimed quiet => ?_, fun auto => ?_⟩, fun stays => ?_⟩
  · rw [supplyRecovered_due low above long]
    have walked : (recovered (s.measured millivolts)).walk = recovered (s.measured millivolts) :=
      walk_nil ((congrArg (·.claims) ((recovered_changes (s.measured millivolts)).supply (by simp))).trans unclaimed)
    have stops : (s.measured millivolts).recover = recovered (s.measured millivolts) := by
      cases policy : s.settings.policy with
      | latched => rw [recover_latched (s := s.measured millivolts) policy, walked]
      | auto =>
        rw [policy] at quiet
        have unmarked : ∀ p : Port, (s.measured millivolts).power[p].shedMark = false := quiet.resolve_left (by decide)
        rw [recover_auto (s := s.measured millivolts) policy, byPriority_none (s := s.measured millivolts) unmarked, walked]
        rfl
    rw [stops]
    rfl
  · have told : KeepsSupply lensParts (normalAgain (s.measured millivolts)) (recovered (s.measured millivolts)) :=
      (recovered_changes _).keepsSupply (by simp) (by simp)
    have posted : Posted [⟨none, s.clock, .supply .recovered millivolts (allPorts.filter (fun p => s.power[p].shedMark))⟩]
      s.link (recovered (s.measured millivolts)).link :=
      post_posted (normalAgain (s.measured millivolts)) none (.supply .recovered millivolts _)
    have walked := (walk_follows (recovered (s.measured millivolts))).keepsSupply (G := lensParts) (fun _ => id)
    have raises := raiseAll_keepsSupply ((s.measured millivolts).byPriority (fun p => s.power[p].shedMark))
      (recovered (s.measured millivolts)).walk
    have raised_all := raiseAll_raised ((s.measured millivolts).byPriority (fun p => s.power[p].shedMark))
      (recovered (s.measured millivolts)).walk
    obtain ⟨more, -, link⟩ := (walked.step raises).link
    have keeps := told.step (walked.step raises)
    have all := posted.trans link
    have recovers : (s.measured millivolts).recover = State.forPorts State.raiseShed
        ((s.measured millivolts).byPriority (fun p => s.power[p].shedMark)) (recovered (s.measured millivolts)).walk :=
      recover_auto (s := s.measured millivolts) auto
    rw [supplyRecovered_due low above long, recovers]
    generalize State.forPorts State.raiseShed _ (recovered (s.measured millivolts)).walk = t at raised_all keeps all ⊢
    refine ⟨_, t.link, more, rfl, congrArg (·.low) keeps.supplyKept, congrArg (·.millivolts) keeps.supplyKept, rfl,
      all.notices, all.sending, all.requests, all.replies, fun p fits _ marked => ?_, keeps.settings (by decide), keeps.clock,
      keeps.monitor (by decide), keeps.table (by decide), keeps.store (by decide), keeps.dram (by decide),
      keeps.uplink (by decide), keeps.profile⟩
    obtain ⟨state, unmarked⟩ := raised_all p (.inl (mem_byPriority_of marked fits))
    exact ⟨state, unmarked⟩
  · refine if_neg ?_
    rw [Bool.and_eq_true, Bool.and_eq_true, decide_eq_true_eq, decide_eq_true_eq]
    rintro ⟨⟨low, above⟩, long⟩
    rcases stays with normal | low' | short
    · rw [normal] at low
      cases low
    · omega
    · omega

end Sys2Proof.Power
end

section
/-! PROOFS. A port that leaves ON: its lane, its lens and its sweep (R8, R32, R115, R162). -/

namespace Sys2Proof.Power

open Sys2Proof.Machine Sys2Proof.Safety

/-! ## What the tests of the sweep engine and the sequencer keep -/

/-- What a test of the sweep engine keeps of the sweep in progress: its copy, what its port's record says of the
acquisitions, and an acquisition under way; and of the lanes the windows. -/
structure Tested (s t : State) : Prop where
  sweep : t.sweeps.sweep = s.sweeps.sweep
  gathered : ∀ q : Port, t.sweeps.results[q].gathered = s.sweeps.results[q].gathered
  restarts : ∀ q : Port, t.sweeps.results[q].restarts = s.sweeps.results[q].restarts
  acquisition : ∀ a, s.sweeps.acquisition = some a → t.sweeps.acquisition = some a
  window : ∀ q : Port, t.lanes[q].window = s.lanes[q].window
  exposure : ∀ q : Port, t.lanes[q].exposure = s.lanes[q].exposure

theorem Tested.refl (s : State) : Tested s s := ⟨rfl, fun _ => rfl, fun _ => rfl, fun _ h => h, fun _ => rfl, fun _ => rfl⟩

theorem Tested.step {s t u : State} (h : Tested s t) (g : Tested t u) : Tested s u where
  sweep := g.sweep.trans h.sweep
  gathered q := (g.gathered q).trans (h.gathered q)
  restarts q := (g.restarts q).trans (h.restarts q)
  acquisition a k := g.acquisition a (h.acquisition a k)
  window q := (g.window q).trans (h.window q)
  exposure q := (g.exposure q).trans (h.exposure q)

theorem Tested.ite {s a b : State} {c : Prop} [Decidable c] (h : c → Tested s a) (g : ¬ c → Tested s b) :
    Tested s (if c then a else b) := by
  split
  · exact h ‹_›
  · exact g ‹_›

theorem Changes.tested {F : List Part} {s t : State} (h : Changes F s t) (sweeps : .sweeps ∉ F) (lanes : .lanes ∉ F) :
    Tested s t where
  sweep := by rw [h.sweeps sweeps]
  gathered q := by rw [h.sweeps sweeps]
  restarts q := by rw [h.sweeps sweeps]
  acquisition a k := by rw [h.sweeps sweeps]; exact k
  window q := by rw [h.lanes lanes]
  exposure q := by rw [h.lanes lanes]

/-- A change of a port's result record that leaves what it says of the acquisitions. -/
theorem setResult_tested (s : State) (p : Port) (f : SweepResult → SweepResult)
    (gathered : (f s.sweeps.results[p]).gathered = s.sweeps.results[p].gathered)
    (restarts : (f s.sweeps.results[p]).restarts = s.sweeps.results[p].restarts) : Tested s (s.setResult p f) where
  sweep := rfl
  gathered q := by
    show (upd s.sweeps.results p f)[q].gathered = _
    rw [upd_get]
    split
    · next e => rw [gathered, get_congr s.sweeps.results e]
    · rfl
  restarts q := by
    show (upd s.sweeps.results p f)[q].restarts = _
    rw [upd_get]
    split
    · next e => rw [restarts, get_congr s.sweeps.results e]
    · rfl
  acquisition _ k := k
  window _ := rfl
  exposure _ := rfl

/-- A change of a lane that leaves its windows. -/
theorem setLane_tested (s : State) (p : Port) (f : Lane → Lane) (window : (f s.lanes[p]).window = s.lanes[p].window)
    (exposure : (f s.lanes[p]).exposure = s.lanes[p].exposure) : Tested s (s.setLane p f) where
  sweep := rfl
  gathered _ := rfl
  restarts _ := rfl
  acquisition _ k := k
  window q := by
    rw [State.setLane_lanes, upd_get]
    split
    · next e => rw [window, get_congr s.lanes e]
    · rfl
  exposure q := by
    rw [State.setLane_lanes, upd_get]
    split
    · next e => rw [exposure, get_congr s.lanes e]
    · rfl

theorem askQuiet_tested (s : State) (p : Port) : Tested s (s.askQuiet p) := by
  have enters : Tested s (s.laneEnters p .quiet) := setLane_tested s p _ rfl rfl
  unfold State.askQuiet
  split
  · exact enters.step (setLane_tested _ p _ rfl rfl)
  · exact enters.step (setLane_tested _ p _ rfl rfl)
  · exact .refl s
  · exact .refl s

theorem beginAcquisition_tested {s : State} (p : Port) (free : s.sweeps.acquisition = none) :
    Tested s (s.beginAcquisition p) := by
  have takes : Tested s { s with sweeps := { s.sweeps with acquisition := some ⟨p, s.clock + 200, true⟩ } } :=
    ⟨rfl, fun _ => rfl, fun _ => rfl, fun a k => (by rw [free] at k; cases k), fun _ => rfl, fun _ => rfl⟩
  exact (takes.step (setResult_tested _ p _ rfl rfl)).step (askQuiet_tested _ p)

theorem sweepTest_tested (s : State) : Tested s s.sweepTest := by
  unfold State.sweepTest
  split
  · exact .refl s
  · refine Tested.ite (fun _ => Tested.ite (fun h => ?_) (fun _ => setResult_tested s _ _ rfl rfl))
      (fun _ => setResult_tested s _ _ rfl rfl)
    rw [Bool.and_eq_true, Option.isNone_iff_eq_none] at h
    exact beginAcquisition_tested _ h.2

theorem sweepResume_tested (s : State) : Tested s s.sweepResume := by
  unfold State.sweepResume
  split
  · exact .refl s
  · refine Tested.ite (fun h => ?_) (fun _ => .refl s)
    rw [Bool.and_eq_true, Option.isNone_iff_eq_none] at h
    exact beginAcquisition_tested _ h.2

theorem laneLeftQuiet_tested (s : State) (p : Port) : Tested s (s.laneLeftQuiet p) := by
  unfold State.laneLeftQuiet
  split
  · exact .refl s
  · exact Tested.ite (fun _ => Tested.ite (fun _ => sweepTest_tested s) (fun _ => sweepResume_tested s)) (fun _ => .refl s)

theorem waitsEnd_tested (s : State) (ps : List Port) : Tested s (s.waitsEnd ps) :=
  (waitsEnd_follows s ps).tested (by decide) (by decide)

theorem beginCycle_tested (s : State) (delayed : Bool) : Tested s (s.beginCycle delayed) := by
  unfold State.beginCycle
  split
  · exact .refl s
  · extract_lets n last next t
    have counted : Tested s (if last then s.usedFree else s) :=
      Tested.ite (fun _ => (usedFree_changes s).tested (by decide) (by decide)) (fun _ => .refl s)
    have begun : Tested s t := counted.step ((setSeq_changes _ _).tested (by decide) (by decide))
    exact (begun.step ((forPorts_follows (fun p u => postSlot_follows u p _) _ _).tested (by decide) (by decide))).step
      (sweepResume_tested _)

theorem planEnds_tested (s : State) (cause : PlanCause) : Tested s (s.planEnds cause) :=
  ((((((setSeq_changes s _).tested (by decide) (by decide)).step
    ((planNotice_changes _ s.seq.state cause).tested (by simp) (by simp))).step
    ((storePlanEnded_changes _).tested (by decide) (by decide))).step
    ((walk_follows _).tested (by decide) (by decide))).step (waitsEnd_tested _ _)).step (sweepResume_tested _)

theorem endCycle_tested (s : State) : Tested s s.endCycle := by
  unfold State.endCycle
  split
  · exact planEnds_tested _ _
  · extract_lets t next
    have armed : Tested s t := (setSeq_changes s _).tested (by decide) (by decide)
    have begun : Tested s next := by
      cases hp : s.seq.pending with
      | none => simpa only [next, hp] using armed
      | some g =>
        simp only [next, hp]
        exact Tested.ite (fun _ => armed.step ((setSeq_changes t _).tested (by decide) (by decide)))
          (fun _ => armed.step (beginCycle_tested t false))
    exact (begun.step (waitsEnd_tested _ _)).step (sweepResume_tested _)
  · exact .refl s
  · exact .refl s
  · exact .refl s

theorem checkCycle_tested (s : State) : Tested s s.checkCycle :=
  Tested.ite (fun _ => endCycle_tested s) (fun _ => sweepResume_tested s)

/-! ## The sweep of a port that leaves ON (R162) -/

/-- The state in which a port that has left ON has had its acquisitions discarded. -/
def discarded (s : State) (p : Port) : State := (cutOff s p).walk.discardAcquisitions p

theorem leftOn_tested (s : State) (p : Port) : Tested (discarded s p) (s.leftOn p) :=
  ((checkCycle_tested _).step (laneLeftQuiet_tested _ p)).step (sweepResume_tested _)

/-- The stage of a sweep that is not yet analysed. -/
abbrev NotAnalysed (st : SweepState) : Prop := st = .calibrating ∨ st = .acquiring ∨ st = .suspended

/-- The acquisitions of a port's sweep discarded (R162), as one change of the sweep engine. -/
theorem discardAcquisitions_own {s : State} {p : Port} {w : Sweep} (sweep : s.sweeps.sweep = some w) (own : w.entry.port = p)
    (stage : NotAnalysed s.sweeps.results[p].state) : s.discardAcquisitions p = { s with sweeps := { s.sweeps with
      sweep := some { w with samples := [] }
      acquisition := s.sweeps.acquisition.map (fun a => { a with live := false })
      results := upd s.sweeps.results p (fun r => { r with
        gathered := some 0, restarts := r.restarts.map sat32 }) } } := by
  have at_stage : ∀ st, s.sweepIn st = decide (s.sweeps.results[p].state = st) := fun st => by
    unfold State.sweepIn
    rw [sweep, ← own]
  have test : (decide (w.entry.port = p) && (s.sweepIn .calibrating || s.sweepIn .acquiring || s.sweepIn .suspended)) = true := by
    rw [at_stage, at_stage, at_stage, Bool.and_eq_true, Bool.or_eq_true, Bool.or_eq_true, decide_eq_true_eq,
      decide_eq_true_eq, decide_eq_true_eq, decide_eq_true_eq]
    exact ⟨own, or_assoc.mpr stage⟩
  unfold State.discardAcquisitions
  rw [sweep]
  exact if_pos test

/-- The sweep of a port that has left ON: nothing it gathered is kept, and an acquisition under way will not be
gathered. -/
theorem leftOn_sweep {s : State} {p : Port} {w : Sweep} (sweep : s.sweeps.sweep = some w) (own : w.entry.port = p)
    (stage : NotAnalysed s.sweeps.results[p].state) :
    (s.leftOn p).sweeps.sweep = some { w with samples := [] } ∧ (s.leftOn p).sweeps.results[p].gathered = some 0 ∧
      (s.leftOn p).sweeps.results[p].restarts = s.sweeps.results[p].restarts.map sat32 ∧
      (∀ a, s.sweeps.acquisition = some a → (s.leftOn p).sweeps.acquisition = some { a with live := false }) := by
  have kept : (cutOff s p).walk.sweeps = s.sweeps := by
    rw [(walk_follows _).sweeps (by decide), cutOff, (lensOff_changes _ p).sweeps (by decide),
      (laneGoesDown_follows s p).sweeps (by decide)]
  have drops : (discarded s p).sweeps = { s.sweeps with
      sweep := some { w with samples := [] }
      acquisition := s.sweeps.acquisition.map (fun a => { a with live := false })
      results := upd s.sweeps.results p (fun r => { r with gathered := some 0, restarts := r.restarts.map sat32 }) } := by
    rw [discarded, discardAcquisitions_own (by rw [kept]; exact sweep) own (by rw [kept]; exact stage), kept]
  have tests := leftOn_tested s p
  refine ⟨?_, ?_, ?_, fun a under => ?_⟩
  · rw [tests.sweep, drops]
  · rw [tests.gathered p, drops, upd_same]
  · rw [tests.restarts p, drops, upd_same]
  · exact tests.acquisition _ (by rw [drops, under]; rfl)

/-! ## The lane and the lens of a port that leaves ON (R32, R115) -/

/-- The lane of a port that has left ON is DOWN, with no window and no exposure. -/
theorem leftOn_lane (s : State) (p : Port) : LaneRests (s.leftOn p).lanes[p] := by
  obtain ⟨state, window, exposure⟩ := cutOff_lane s p
  have kept : (discarded s p).lanes = (cutOff s p).lanes := by
    rw [discarded, (discardAcquisitions_changes _ p).lanes (by decide), (walk_follows _).lanes (by decide)]
  have tests := leftOn_tested s p
  exact ⟨(leftOn_follows s p).lanesDown p state, by rw [tests.window, kept]; exact window,
    by rw [tests.exposure, kept]; exact exposure⟩

/-- Its lens is off, and holds no claim. -/
theorem leftOn_lens {s : State} {p : Port} (off : s.power[p].state ≠ .on) :
    AtRest (s.leftOn p) p ∧ (s.leftOn p).lenses[p] = s.lenses[p].off := by
  obtain ⟨rest, same⟩ := (leftOn_follows s p).rests p (by simp) (cutOff_atRest off)
  exact ⟨rest, same.trans (cutOff_lens s p)⟩

/-- A port that goes from ON, under the claims' invariant (R6, R20). -/
structure LeavesOn (s t : State) (p : Port) (new : PowerState) (r : OffReason) : Prop where
  keeps : KeepsSupply leftParts s t
  power : t.power[p] = (s.power[p]).enter (s.profileOf p) s.clock new r
  other : ∀ q ≠ p, t.power[q] = s.power[q] ∨ s.power[q].state = .waiting ∧ Granted s.power[q] t.power[q]
  lane : LaneRests t.lanes[p]
  lens : t.lenses[p] = s.lenses[p].off
  claims : ∀ d ∈ t.supply.claims, d ∈ s.supply.claims ∧ d.port ≠ p ∨ d.kind = .lens ∧ d.port ≠ p

theorem PowerClaims.waiting {s : State} (claims : PowerClaims s) {q : Port} (h : Claimed s q) :
    s.power[q].state = .waiting := by
  obtain ⟨c, hc, hk, e⟩ := h
  rw [← get_congr s.power e]
  exact claims.1 c hc hk

theorem portGoes_leavesOn {s : State} {p : Port} {new : PowerState} (r : OffReason) (claims : PowerClaims s)
    (on : s.power[p].state = .on) (free : new.reserved = false) : LeavesOn s (s.portGoes p new r) p new r := by
  have away : new ≠ .on := by rintro rfl; cases free
  have unclaimed : ¬ Claimed s p := fun c => by
    have := PowerClaims.waiting claims c
    rw [on] at this
    cases this
  have goes := portGoes_on r on away
  have gone : (s.setPowerState p new r).power[p].state ≠ .on := by
    rw [setPowerState_at]
    exact away
  obtain ⟨rest, lens⟩ := leftOn_lens gone
  refine ⟨portGoes_keepsSupply s p new r, portGoes_at r (by rw [on]; exact away.symm) free (fun _ => unclaimed), fun q h => ?_,
    ?_, ?_, fun d hd => ?_⟩
  · exact (portGoes_other r free h).imp id (fun granted => ⟨PowerClaims.waiting claims granted.1, granted.2⟩)
  · rw [goes]
    exact leftOn_lane _ p
  · rw [goes, lens, (setPowerState_changes s p new r).lenses (by decide)]
  · rw [goes] at hd
    cases kind : d.kind with
    | lens => exact .inr ⟨rfl, rest.unclaimed d hd kind⟩
    | power =>
      have before : d ∈ s.supply.claims := by
        have sub := (leftOn_follows _ p).powerClaims.trans (cutOff_follows (s.setPowerState p new r) p).powerClaims
        have := sub.subset (List.mem_filter.mpr ⟨hd, by simp [Claim.isPower, kind]⟩)
        rw [(setPowerState_changes s p new r).supply (by decide)] at this
        exact (List.mem_filter.mp this).1
      exact .inl ⟨before, fun e => unclaimed ⟨d, before, kind, e⟩⟩

theorem portGoes_sweep {s : State} {p : Port} {new : PowerState} (r : OffReason) (on : s.power[p].state = .on)
    (free : new.reserved = false) {w : Sweep} (sweep : s.sweeps.sweep = some w) (own : w.entry.port = p)
    (stage : NotAnalysed s.sweeps.results[p].state) :
    (s.portGoes p new r).sweeps.sweep = some { w with samples := [] } ∧
      (s.portGoes p new r).sweeps.results[p].gathered = some 0 ∧
      (s.portGoes p new r).sweeps.results[p].restarts = s.sweeps.results[p].restarts.map sat32 ∧
      (∀ a, s.sweeps.acquisition = some a → (s.portGoes p new r).sweeps.acquisition = some { a with live := false }) := by
  have kept := (setPowerState_changes s p new r).sweeps (by decide)
  rw [portGoes_on r on (by rintro rfl; cases free), ← kept]
  exact leftOn_sweep (by rw [kept]; exact sweep) own (by rw [kept]; exact stage)

theorem off_lens (l : Lens) : (l.off.state = .unknown ∨ l.off.state = .absent) ∧ l.off.position = {} ∧
    l.off.pending = none ∧ l.off.flight = none ∧ l.off.halt = none ∧ l.off.claim = .none :=
  ⟨(off_resting l).state, rfl, rfl, rfl, rfl, rfl⟩

/-- Settles O15: the port goes as from ON, and then only its shed mark is cleared. -/
theorem leavingOnRestsThePort : Obligations.LeavingOnRestsThePort := by
  intro s tag p c new claims on request
  have free : new.reserved = false := by rcases request with ⟨-, rfl, -⟩ | ⟨-, rfl, -⟩ <;> rfl
  have serves : exec c s = .next (((s.portGoes p new .host).clearShed p).reply .ok).transmit := by
    rcases request with ⟨rfl, rfl, h⟩ | ⟨rfl, rfl, h⟩
    · refine (portPower_serves h (by decide) State.portPowerOff).trans ?_
      rw [portPowerOff_owner (by rw [on]; decide)]
    · refine (portPower_serves h (by decide) State.portPowerProbe).trans ?_
      rw [portPowerProbe_owner (by rw [on]; decide) (by rw [on]; decide)]
  obtain ⟨keeps, power, other, lane, lens, listed⟩ := portGoes_leavesOn .host claims on free
  have sweeps : ∀ w, s.sweeps.sweep = some w → w.entry.port = p → _ := fun w h own => portGoes_sweep .host on free h own
  rw [serves]
  generalize s.portGoes p new .host = g at keeps power other lane lens listed sweeps ⊢
  have cleared : (((g.clearShed p).reply .ok).transmit).power[p] =
      { (s.power[p]).enter (s.profileOf p) s.clock new .host with shedMark := false } := by
    show (upd g.power p _)[p] = _
    rw [upd_same, power]
  obtain ⟨unpowered, position, pending, flight, halt, claim⟩ := off_lens s.lenses[p]
  refine ⟨_, rfl, by rw [cleared]; rfl, by rw [cleared]; rfl, by rw [cleared], by rw [cleared]; rfl, ?_, ?_, lane.state,
    lane.window, lane.exposure, ?_, ?_, ?_, ?_, ?_, ?_, listed, sweeps, fun q h => ?_, keeps.settings (by decide), keeps.clock,
    keeps.monitor (by decide), keeps.table (by decide), keeps.profile, keeps.pending⟩
  · rintro rfl
    rw [cleared, enter_off]
    exact ⟨rfl, rfl, rfl⟩
  · rintro rfl
    rw [cleared, enter_probing]
    exact ⟨rfl, rfl, rfl⟩
  · exact (congrArg (fun l : Lens => l.state = .unknown ∨ l.state = .absent) lens).mpr unpowered
  · exact (congrArg (·.position) lens).trans position
  · exact (congrArg (·.pending) lens).trans pending
  · exact (congrArg (·.flight) lens).trans flight
  · exact (congrArg (·.halt) lens).trans halt
  · exact (congrArg (·.claim) lens).trans claim
  · have kept : (((g.clearShed p).reply .ok).transmit).power[q] = g.power[q] := upd_other _ _ h
    rw [kept]
    exact (other q h).imp (fun same => by rw [same]) (fun granted => ⟨granted.1, granted.2.state⟩)

/-! ## A trip or an open load in ON (R8, R11, R13) -/

/-- The state in which a trip has been counted and told. -/
def tripTold (s : State) (p : Port) (cause : TripCause) (current : Nat) (new : PowerState) : State :=
  (s.setPower p (fun w => { w with
    tripCount := w.tripCount + 1
    decayAt := if w.tripCount = 4 then none else some (s.clock + 45000000) })).post (some p)
    (.portTrip cause current (s.effectiveThreshold p) (s.power[p].tripCount + 1) new)

theorem tripTold_changes (s : State) (p : Port) (cause : TripCause) (current : Nat) (new : PowerState) :
    Changes [.power] s (tripTold s p cause current new) :=
  (setPower_changes s p _).step ((post_changes _ _ _).mono (by simp))

theorem tripTold_at (s : State) (p : Port) (cause : TripCause) (current : Nat) (new : PowerState) :
    (tripTold s p cause current new).power[p] = { s.power[p] with
      tripCount := s.power[p].tripCount + 1
      decayAt := if s.power[p].tripCount = 4 then none else some (s.clock + 45000000) } := by
  unfold tripTold
  rw [(post_changes _ _ _).power (by decide), State.setPower_power, upd_same]

theorem tripTold_other (s : State) {p q : Port} (cause : TripCause) (current : Nat) (new : PowerState) (h : q ≠ p) :
    (tripTold s p cause current new).power[q] = s.power[q] := by
  unfold tripTold
  rw [(post_changes _ _ _).power (by decide), State.setPower_power, upd_other _ _ h]

theorem PowerClaims.congr {s t : State} (claims : PowerClaims s) (supply : t.supply = s.supply)
    (states : ∀ q : Port, t.power[q].state = s.power[q].state) : PowerClaims t := by
  unfold PowerClaims
  rw [supply]
  exact ⟨fun c hc hk => (states c.port).trans (claims.1 c hc hk), claims.2⟩

/-- What a port's going out of ON keeps of the other ports. -/
theorem LeavesOn.others {s t : State} {p q : Port} {new : PowerState} {r : OffReason} (h : LeavesOn s t p new r)
    (ne : q ≠ p) : t.power[q].tripCount = s.power[q].tripCount ∧ (t.power[q].state = s.power[q].state ∨
      (s.power[q].state = .waiting ∧ t.power[q].state = .ramping)) :=
  (h.other q ne).elim (fun same => by rw [same]; exact ⟨rfl, .inl rfl⟩)
    (fun granted => ⟨granted.2.tripCount, .inr ⟨granted.1, granted.2.state⟩⟩)

/-- A trip of a port in ON. -/
theorem trip_leavesOn {s : State} {p : Port} (cause : TripCause) (current : Nat) {new : PowerState} {reason : OffReason}
    (claims : PowerClaims s) (on : s.power[p].state = .on) (few : s.power[p].tripCount < 5)
    (cools : s.power[p].tripCount < 4 → new = .cooldown ∧ reason = .trip)
    (locks : s.power[p].tripCount = 4 → new = .locked ∧ reason = .lock) :
    ∃ t, s.trip p cause current = t.tripEvidence p (s.power[p].tripCount + 1) ∧
      LeavesOn (tripTold s p cause current new) t p new reason := by
  have free : new.reserved = false := by
    by_cases fifth : s.power[p].tripCount = 4
    · rw [(locks fifth).1]; rfl
    · rw [(cools (by omega)).1]; rfl
  have states : ∀ q : Port, (tripTold s p cause current new).power[q].state = s.power[q].state := fun q => by
    by_cases h : q = p
    · rw [h, tripTold_at]
    · rw [tripTold_other s cause current new h]
  exact ⟨_, trip_goes cause current few cools locks, portGoes_leavesOn reason
    (PowerClaims.congr claims ((tripTold_changes s p cause current new).supply (by decide)) states) (by rw [states, on]) free⟩

/-- Where the trip of a port goes, by its count. -/
theorem trip_goal (count : Nat) : ∃ (new : PowerState) (reason : OffReason),
    (count < 4 → new = .cooldown ∧ reason = .trip) ∧ (count = 4 → new = .locked ∧ reason = .lock) := by
  by_cases fifth : count = 4
  · exact ⟨.locked, .lock, fun h => by omega, fun _ => ⟨rfl, rfl⟩⟩
  · exact ⟨.cooldown, .trip, fun _ => ⟨rfl, rfl⟩, fun h => absurd h fifth⟩

theorem trip_or_limit {s : State} {p : Port} {milliamps : Nat} {run : Run} {c : Instr} (on : s.power[p].state = .on)
    (h : (c = .thresholdTrip p ∧ s.power[p].overRun = some run ∧ run.start + 2000 ≤ run.last) ∨
      (c = .hardLimitTrip p milliamps ∧ 4500 ≤ milliamps)) :
    ∃ cause current, exec c s = .next (s.trip p cause current).transmit := by
  rcases h with ⟨rfl, over_, long⟩ | ⟨rfl, hard⟩
  · refine ⟨_, _, if_pos ?_⟩
    rw [State.thresholdDue, on, over_]
    simpa [PowerState.reserved] using long
  · refine ⟨_, _, if_pos ?_⟩
    rw [on]
    simpa [PowerState.reserved] using hard

/-! ## POWER_OPEN evidence (R145) -/

/-- Evidence joins the standing record of its kind, or finds room in a table of fewer than 32 records. -/
theorem submitEvidence_stands {s : State} (p : Port) (k : BreakKind) (room : s.table.records.length < 32) :
    ∃ r ∈ (s.submitEvidence p k .suspect).1.table.records, r.port = p ∧ r.kind = k ∧ r.state ≠ .cleared := by
  unfold State.submitEvidence
  split
  · next i standing =>
    obtain ⟨small, found, -⟩ := List.findIdx?_eq_some_iff_getElem.mp standing
    rw [Bool.and_eq_true, Bool.and_eq_true, decide_eq_true_eq, decide_eq_true_eq, bne_iff_ne] at found
    obtain ⟨⟨port, kind⟩, state⟩ := found
    refine ⟨{ s.table.records[i] with
      occurrences := satAdd 65535 s.table.records[i].occurrences 1, lastSeen := s.clock }, ?_, port, kind, state⟩
    show _ ∈ s.table.records.modify i _
    refine List.mem_iff_getElem.mpr ⟨i, by rw [List.length_modify]; exact small, ?_⟩
    rw [List.getElem_modify_eq]
  · unfold State.createBreak BreakTable.room
    rw [if_pos room]
    simp only [(post_changes _ _ _).table (F := []) (by simp)]
    exact ⟨_, List.mem_append_right _ List.mem_cons_self, rfl, rfl, fun e => (by cases e)⟩

theorem powerOpen_stands {s : State} (p : Port) (room : s.table.records.length < 32) :
    ∃ r ∈ (s.powerOpen p).table.records, r.port = p ∧ r.kind = .powerOpen ∧ r.state ≠ .cleared := by
  have kept : (s.powerOpen p).table = (s.submitEvidence p .powerOpen .suspect).1.table := by
    unfold State.powerOpen
    extract_lets t
    split
    · exact (autoSweep_changes t p none).table (by decide)
    · rfl
  rw [kept]
  exact submitEvidence_stands p .powerOpen room

/-- Settles O23: the port goes as from ON, with its trip counted before and the evidence posted after. -/
theorem tripOrOpenLoadLeavesOn : Obligations.TripOrOpenLoadLeavesOn := by
  intro s p milliamps run claims on few
  refine ⟨fun c h => ?_, fun under long => ?_⟩
  · obtain ⟨cause, current, execs⟩ := trip_or_limit on h
    obtain ⟨new, reason, cools, locks⟩ := trip_goal s.power[p].tripCount
    obtain ⟨g, trips, leaves⟩ := trip_leavesOn cause current claims on few cools locks
    have told := tripTold_changes s p cause current new
    have evidence := tripEvidence_changes g p (s.power[p].tripCount + 1)
    have at_p := leaves.power
    rw [tripTold_at] at at_p
    rw [execs, trips]
    generalize g.tripEvidence p (s.power[p].tripCount + 1) = u at evidence ⊢
    have power : u.power = g.power := evidence.power (by decide)
    have hu : u.transmit.power[p] = g.power[p] := congrArg (fun v : Vector PortPower 8 => v[p]) power
    refine ⟨_, rfl, ?_, fun below => ?_, fun fifth => ?_, ?_, ?_, fun q h => ?_, ?_, ?_, ?_, ?_⟩
    · rw [hu, at_p]
      rfl
    · obtain ⟨rfl, rfl⟩ := cools below
      rw [hu, at_p, enter_cooldown, if_neg (by omega), told.clock]
      exact ⟨rfl, rfl, rfl, rfl⟩
    · obtain ⟨rfl, rfl⟩ := locks fifth
      rw [hu, at_p, enter_locked, if_pos fifth]
      exact ⟨rfl, rfl, rfl⟩
    · exact (congrArg (fun v : Vector Lane 8 => v[p].state) (evidence.lanes (by decide))).trans leaves.lane.state
    · have lens : u.transmit.lenses[p] = s.lenses[p].off := by
        refine (congrArg (fun v : Vector Lens 8 => v[p]) (evidence.lenses (by decide))).trans (leaves.lens.trans ?_)
        rw [told.lenses (by decide)]
      rw [lens]
      exact (off_lens _).1
    · have other := leaves.others h
      rw [tripTold_other s cause current new h, ← power] at other
      exact other
    · exact (evidence.settings (by decide)).trans ((leaves.keeps.settings (by decide)).trans (told.settings (by decide)))
    · exact evidence.clock.trans (leaves.keeps.clock.trans told.clock)
    · exact (evidence.monitor (by decide)).trans ((leaves.keeps.monitor (by decide)).trans (told.monitor (by decide)))
    · exact evidence.profile.trans (leaves.keeps.profile.trans told.profile)
  · have execs : exec (.openLoad p) s = .next (s.openLoad p).transmit := by
      refine if_pos ?_
      rw [State.openLoadDue, on, under]
      simpa using long
    have leaves := portGoes_leavesOn .openLoad claims on (new := .probing) rfl
    have stands := powerOpen_stands (s := s.portGoes p .probing .openLoad) p
    have evidence := powerOpen_changes (s.portGoes p .probing .openLoad) p
    rw [execs, State.openLoad]
    generalize s.portGoes p .probing .openLoad = g at leaves stands evidence ⊢
    generalize g.powerOpen p = u at stands evidence ⊢
    have power : u.power = g.power := evidence.power (by decide)
    have hu : u.transmit.power[p] = (s.power[p]).enter (s.profileOf p) s.clock .probing .openLoad :=
      (congrArg (fun v : Vector PortPower 8 => v[p]) power).trans leaves.power
    rw [enter_probing] at hu
    refine ⟨_, rfl, by rw [hu], by rw [hu], by rw [hu], by rw [hu], ?_, ?_, fun room => ?_, fun q h => ?_, ?_, ?_, ?_, ?_⟩
    · exact (congrArg (fun v : Vector Lane 8 => v[p].state) (evidence.lanes (by decide))).trans leaves.lane.state
    · have lens : u.transmit.lenses[p] = s.lenses[p].off :=
        (congrArg (fun v : Vector Lens 8 => v[p]) (evidence.lenses (by decide))).trans leaves.lens
      rw [lens]
      exact (off_lens _).1
    · exact stands (by rw [leaves.keeps.table (by decide)]; exact room)
    · have other := leaves.others h
      rw [← power] at other
      exact other
    · exact (evidence.settings (by decide)).trans (leaves.keeps.settings (by decide))
    · exact evidence.clock.trans leaves.keeps.clock
    · exact (evidence.monitor (by decide)).trans (leaves.keeps.monitor (by decide))
    · exact evidence.profile.trans leaves.keeps.profile

end Sys2Proof.Power
end

section
/-! PROOFS. The requests of chapter 3 by plan state, and the end of a cycle (R50, R55 to R58, R65). -/

namespace Sys2Proof.Power

open Sys2Proof.Machine Sys2Proof.Safety

/-! ## The groups at the end of the plan (R87) -/

theorem move_groups (t : Store) (id : Nat) (st : BufferState) : (t.move id st).groups = t.groups := by
  unfold Store.move
  split <;> rfl

theorem beginSend_groups (t : Store) (id : Nat) (rest : List Nat) (f : FrameRecord) :
    (t.beginSend id rest f).groups = t.groups := by
  have moved : (({ t with outputQueue := rest } : Store).move id .sending).groups = t.groups := move_groups _ _ _
  unfold Store.beginSend
  extract_lets u
  split
  · split
    · exact moved
    · exact moved
  · exact moved

theorem sendChoice_groups (s : State) : s.sendChoice.store.groups = s.store.groups := by
  unfold State.sendChoice
  split
  · rfl
  · split
    · rw [(beginPacket_changes _).store (by decide)]
      rfl
    · split
      · rfl
      · split
        · rfl
        · rw [(beginPacket_changes _).store (by decide)]
          exact beginSend_groups _ _ _ _

theorem joinOutput_groups (id : Nat) (s : State) : (s.joinOutput id).store.groups = s.store.groups := by
  unfold State.joinOutput
  rw [sendChoice_groups]
  exact move_groups _ _ _

theorem sendUncombined_groups : ∀ (ids : List Nat) (s : State),
    (State.sendUncombined ids s).store.groups = s.store.groups
  | [], _ => rfl
  | id :: ids, s => by
    rw [State.sendUncombined, sendUncombined_groups ids, joinOutput_groups]
    rfl

theorem abandon_groups (s : State) (g : Group) : (s.abandon g).store.groups = s.store.groups :=
  sendUncombined_groups _ _

/-- Whether a group is none of those of a list of slots and ports. -/
def noneOf (gs : List (Fin 4 × Port)) (g : Group) : Bool := gs.all (fun k => !(g.slot = k.1 && g.port = k.2))

theorem endGroups_groups : ∀ (gs : List (Fin 4 × Port)) (s : State),
    (State.endGroups gs s).store.groups = s.store.groups.filter (noneOf gs)
  | [], s => by
    exact (List.filter_eq_self.mpr (fun _ _ => rfl)).symm
  | (k, p) :: rest, s => by
    have both : noneOf ((k, p) :: rest) = fun g => noneOf rest g && !(g.slot = k && g.port = p) := by
      funext g
      simp only [noneOf, List.all_cons, Bool.and_comm]
    unfold State.endGroups
    rw [endGroups_groups rest, both, ← List.filter_filter]
    refine congrArg (List.filter (noneOf rest)) ?_
    split
    · next none =>
      rw [Store.group?, List.find?_eq_none] at none
      exact (List.filter_eq_self.mpr (fun g hg => by simpa [imp_iff_not_or] using none g hg)).symm
    · next g _ =>
      extract_lets t
      split
      · rfl
      · rw [abandon_groups]
        rfl

theorem mem_slotPorts (k : Fin 4) (p : Port) : (k, p) ∈ slotPorts := by
  unfold slotPorts
  exact List.mem_flatMap.mpr ⟨k, by fin_cases k <;> decide, List.mem_map_of_mem (mem_allPorts p)⟩

theorem noneOf_slotPorts (g : Group) : noneOf slotPorts g = false := by
  rw [noneOf, List.all_eq_false]
  exact ⟨_, mem_slotPorts g.slot g.port, by simp⟩

theorem storePlanEnded_groups (s : State) : s.storePlanEnded.store.groups = [] := by
  have ended := endGroups_groups slotPorts s
  unfold State.storePlanEnded
  generalize State.endGroups slotPorts s = t at ended ⊢
  rw [State.setStore_store, ended, List.filter_eq_nil_iff]
  intro g _
  rw [noneOf_slotPorts]
  decide

/-! ## The end of the plan (R50) -/

/-- With no sweep in progress the sweep engine has nothing to test. -/
theorem sweepResume_idle {s : State} (idle : s.sweeps.sweep = none) : s.sweepResume = s := by
  unfold State.sweepResume
  rw [idle]

/-- The state in which the plan has left its service, its store told and the claims walked, before the sweep engine's test. -/
def planLeft (s : State) (cause : PlanCause) : State :=
  ((s.setSeq (fun q => { q with state := .loaded, current := none, pending := none, nextExpiry := none })).planNotice
    s.seq.state cause).storePlanEnded.walk.waitsEnd s.waitingPorts

theorem planEnds_eq (s : State) (cause : PlanCause) : s.planEnds cause = (planLeft s cause).sweepResume := rfl

/-- The parts of the state that the end of the plan changes besides the sequencer's. -/
abbrev endParts : List Part := .store :: .uplink :: lensParts

theorem planLeft_changes (s : State) (cause : PlanCause) : Changes endParts
    (s.setSeq (fun q => { q with state := .loaded, current := none, pending := none, nextExpiry := none }))
    (planLeft s cause) :=
  ((((planNotice_changes _ s.seq.state cause).mono (by simp)).step ((storePlanEnded_changes _).mono (by decide))).step
    ((walk_follows _).mono (by decide)).toChanges).step ((waitsEnd_follows _ _).mono (by decide)).toChanges

theorem planLeft_groups (s : State) (cause : PlanCause) : (planLeft s cause).store.groups = [] := by
  rw [planLeft, (waitsEnd_follows _ _).store (by decide), (walk_follows _).store (by decide)]
  exact storePlanEnded_groups _

theorem planEnds_seq (s : State) (cause : PlanCause) : (s.planEnds cause).seq =
    { s.seq with state := .loaded, current := none, pending := none, nextExpiry := none } := by
  rw [planEnds_eq, (sweepResume_follows _).seq (by decide), (planLeft_changes s cause).seq (by decide)]
  rfl

theorem planEnds_groups (s : State) (cause : PlanCause) : (s.planEnds cause).store.groups = [] := by
  rw [planEnds_eq, (sweepResume_follows _).store (by decide), planLeft_groups]

/-- With no sweep in progress the end of the plan leaves the lanes. -/
theorem planEnds_idle {s : State} (cause : PlanCause) (idle : s.sweeps.sweep = none) :
    s.planEnds cause = planLeft s cause := by
  rw [planEnds_eq, sweepResume_idle]
  rw [(planLeft_changes s cause).sweeps (by decide)]
  exact idle

/-! ## PLAN_ARM, PLAN_STOP and PLAN_CLEAR (R55, R56, R58) -/

/-- The notice of the plan's arming tells the reservation that it takes. -/
theorem strobePart_inService {s : State} (h : s.seq.state.inService = true) : s.strobePart = s.strobeReservation := if_pos h

theorem strobePart_outOfService {s : State} (h : s.seq.state.inService = false) : s.strobePart = 0 :=
  if_neg (by rw [h]; decide)

/-- The counts that arming clears. -/
def armedSeq (q : Sequencer) : Sequencer :=
  { q with
    state := .armed
    cycleCounter := 0
    begun := 0
    delayed := 0
    overruns := 0
    ignored := 0
    missed := Vector.replicate 4 (Vector.replicate 8 0)
    exceed := Vector.replicate 8 0 }

/-- The state in which the plan is armed and told so. -/
def armedState (s : State) : State :=
  ({ s with seq := armedSeq s.seq }).post none (.planState .armed .loaded .arm 0 s.strobeReservation)

theorem armPlan_eq (s : State) : s.armPlan =
    if s.seq.freeRun then ((armedState s).takeStart .timer).1 else (armedState s).sweepResume := by
  have told : (s.setSeq armedSeq).planNotice .loaded .arm = armedState s := rfl
  have kept : (armedState s).seq.freeRun = s.seq.freeRun := by
    rw [armedState, (post_changes _ _ _).seq (by simp)]
    rfl
  rw [← kept]
  rfl

theorem planArm_serves {s : State} {tag : Byte} (h : Serves s 0x0A tag []) :
    exec .planArm s = .next s.planArm.transmit := serve_owner h rfl (fun _ s => s.planArm)

theorem planStop_serves {s : State} {tag : Byte} (h : Serves s 0x0B tag []) :
    exec .planStop s = .next s.planStop.transmit := serve_owner h rfl (fun _ s => s.planStop)

theorem planClear_serves {s : State} {tag : Byte} (h : Serves s 0x0D tag []) :
    exec .planClear s = .next s.planClear.transmit := serve_owner h rfl (fun _ s => s.planClear)

theorem planAbort_serves {s : State} {tag : Byte} (h : Serves s 0x0C tag []) :
    exec .planAbort s = .next s.planAbort.transmit := serve_owner h rfl (fun _ s => s.planAbort)

theorem planQuiet_iff (s : State) : s.planQuiet = true ↔ PlanQuiet s := by
  unfold State.planQuiet
  simp only [List.any_eq_true, Bool.and_eq_true, decide_eq_true_eq]
  exact ⟨fun ⟨p, _, h⟩ => ⟨p, h⟩, fun ⟨p, h⟩ => ⟨p, mem_allPorts p, h⟩⟩

theorem planArm_loaded {s : State} {q : Plan} (loaded : s.seq.state = .loaded) (plan : s.seq.plan = some q) :
    s.planArm = (match s.planFails q with
      | some f => s.refusePlan f
      | none =>
        if s.supply.low.isSome || s.settings.capacity < s.committed + s.strobeReservation then
          s.answer .noBudget (num2 s.strobeReservation ++ num2 s.committed)
        else s.armPlan.answer .ok (num2 s.strobeReservation)) := by
  unfold State.planArm
  rw [loaded, plan] <;> rfl

theorem planArm_refused {s : State} (away : s.seq.state ≠ .loaded) : s.planArm = s.reply .wrongState := by
  unfold State.planArm
  split
  · next loaded _ => exact absurd loaded away
  · rfl

/-- An arm that passes its checks and fits the capacity. -/
theorem planArm_fits {s : State} {q : Plan} (loaded : s.seq.state = .loaded) (plan : s.seq.plan = some q)
    (passes : s.planFails q = none) (normal : s.supply.low = none)
    (fits : s.committed + s.strobeReservation ≤ s.settings.capacity) :
    s.planArm = s.armPlan.answer .ok (num2 s.strobeReservation) := by
  rw [planArm_loaded loaded plan, passes]
  refine if_neg ?_
  rw [normal, Option.isSome_none, Bool.false_or, decide_eq_true_eq]
  omega

/-- Where no slot names a preset, a cycle's start posts none. -/
theorem firstPreset_none {q : Sequencer} (unset : ∀ k ∈ q.slots, k.preset = none) (p : Port) : q.firstPreset p = none := by
  have empty : (q.slotsOf p).filter (fun k => k.2.preset.isSome) = [] := by
    rw [List.filter_eq_nil_iff]
    intro k hk
    have numbered := (List.mem_filter.mp hk).1
    obtain ⟨n, -, hn⟩ := List.mem_filterMap.mp numbered
    obtain ⟨slot, hslot, rfl⟩ := Option.map_eq_some_iff.mp hn
    rw [unset slot (List.mem_of_getElem? hslot)]
    decide
  rw [Sequencer.firstPreset, empty]
  rfl

theorem forPorts_same {f : Port → State → State} {t : State} (same : ∀ p, f p t = t) :
    ∀ ps : List Port, State.forPorts f ps t = t
  | [] => rfl
  | p :: ps => by
    show State.forPorts f ps (f p t) = t
    rw [same p]
    exact forPorts_same same ps

/-- A cycle that begins with no preset to post and no sweep in progress is one change of the sequencer (R63). -/
theorem beginCycle_plain {s : State} {plan : Plan} (hplan : s.seq.plan = some plan)
    (unset : ∀ k ∈ s.seq.slots, k.preset = none) (idle : s.sweeps.sweep = none)
    (small : s.seq.cycleCounter < 18446744073709551615) : s.beginCycle false = s.setSeq (fun q => { q with
      state := .running
      cycleCounter := q.cycleCounter + 1
      current := some ⟨q.cycleCounter, q.cycleCounter % plan.length, s.clock, false, [], []⟩
      pending := none
      nextExpiry := plan.period.map (s.clock + ·)
      begun := sat32 q.begun }) := by
  unfold State.beginCycle
  split
  case h_1 none =>
    rw [hplan] at none
    cases none
  case h_2 found =>
    rw [hplan] at found
    cases found
    extract_lets n last next t
    have more : ¬ last := Nat.ne_of_lt small
    have hnext : next = s.seq.cycleCounter + 1 := if_neg more
    have begun : t = s.setSeq (fun q => { q with
        state := .running
        cycleCounter := q.cycleCounter + 1
        current := some ⟨q.cycleCounter, q.cycleCounter % plan.length, s.clock, false, [], []⟩
        pending := none
        nextExpiry := plan.period.map (s.clock + ·)
        begun := sat32 q.begun }) := by
      simp only [t, if_neg more, hnext]
      rfl
    have slots : t.seq.slots = s.seq.slots := by
      rw [begun]
      rfl
    have posts : State.forPorts (fun p v => v.postSlot p (v.seq.firstPreset p)) allPorts t = t :=
      forPorts_same (fun p => by rw [firstPreset_none (by rw [slots]; exact unset)]; rfl) _
    rw [posts, sweepResume_idle (by rw [begun]; exact idle), begun]

theorem setSeq_post (s : State) (port : Option Port) (body : NoticeBody) (f : Sequencer → Sequencer) :
    (s.post port body).setSeq f = (s.setSeq f).post port body :=
  post_comm (f := fun s => s.setSeq f) s port body (fun _ => rfl) rfl

theorem setStore_post (s : State) (port : Option Port) (body : NoticeBody) (f : Store → Store) :
    (s.post port body).setStore f = (s.setStore f).post port body :=
  post_comm (f := fun s => s.setStore f) s port body (fun _ => rfl) rfl

theorem armedState_changes (s : State) : Changes [] ({ s with seq := armedSeq s.seq } : State) (armedState s) :=
  post_changes _ _ _

theorem freeRun_eq {r : Sequencer} {q : Plan} (plan : r.plan = some q) : r.freeRun = decide (q.mode = .freeRun) := by
  unfold Sequencer.freeRun
  rw [plan]

/-- The start of a plan in LINE_TRIGGER at its arming. -/
theorem armPlan_line {s : State} {q : Plan} (plan : s.seq.plan = some q) (line : q.mode = .lineTrigger)
    (idle : s.sweeps.sweep = none) : s.armPlan = armedState s := by
  have no : s.seq.freeRun = false := by
    rw [freeRun_eq plan, line]
    rfl
  rw [armPlan_eq, no, if_neg (by decide), sweepResume_idle]
  rw [(armedState_changes s).sweeps (by simp)]
  exact idle

/-- The start of a plan in FREE_RUN at its arming: cycle 0 begins, or is held while a port of the plan is in QUIET. -/
theorem armPlan_free {s : State} {q : Plan} (plan : s.seq.plan = some q) (free : q.mode = .freeRun)
    (idle : s.sweeps.sweep = none) (clear : s.seq.pending = none) :
    (PlanQuiet s → s.armPlan = (armedState s).setSeq (fun q => { q with pending := some ⟨.timer, s.clock, true⟩ })) ∧
    (¬ PlanQuiet s → (∀ k ∈ s.seq.slots, k.preset = none) → s.armPlan = (armedState s).setSeq (fun r => { r with
      state := .running
      cycleCounter := 1
      current := some ⟨0, 0, s.clock, false, [], []⟩
      pending := none
      nextExpiry := q.period.map (s.clock + ·)
      begun := 1 })) := by
  have runs : s.seq.freeRun = true := by
    rw [freeRun_eq plan, free]
    rfl
  have seq : (armedState s).seq = armedSeq s.seq := (armedState_changes s).seq (by simp)
  have quiet : (armedState s).planQuiet = s.planQuiet := by
    unfold State.planQuiet
    rw [seq, (armedState_changes s).lanes (by simp)]
    rfl
  have takes : ((armedState s).takeStart .timer).1 = if s.planQuiet then
      (armedState s).setSeq (fun q => { q with pending := some ⟨.timer, s.clock, true⟩ })
      else (armedState s).beginCycle false := by
    unfold State.takeStart
    rw [seq]
    simp only [armedSeq, clear, quiet, (armedState_changes s).clock, Option.isSome_none]
    cases s.planQuiet <;> rfl
  rw [armPlan_eq, runs, if_pos rfl, takes]
  refine ⟨fun h => if_pos ((planQuiet_iff s).mpr h), fun h unset => (if_neg (fun k => h ((planQuiet_iff s).mp k))).trans ?_⟩
  rw [beginCycle_plain (plan := q) (by rw [seq]; exact plan) (by rw [seq]; exact unset)
    (by rw [(armedState_changes s).sweeps (by simp)]; exact idle) (by rw [seq]; exact (by decide : 0 < 18446744073709551615)),
    (armedState_changes s).clock]
  unfold State.setSeq
  rw [seq]
  simp only [armedSeq, Nat.zero_mod]
  rfl

/-! ## PLAN_ABORT (R57) -/

theorem setLane_other (s : State) {p q : Port} (f : Lane → Lane) (h : q ≠ p) : (s.setLane p f).lanes[q] = s.lanes[q] :=
  upd_other _ _ h

theorem closeWindow_other (s : State) {p q : Port} (h : q ≠ p) : (s.closeWindow p).lanes[q] = s.lanes[q] := by
  unfold State.closeWindow
  split
  · rfl
  · exact setLane_other _ _ h

theorem closeFrame_other (s : State) {p q : Port} (f : RxFrame) (cut : FrameFlags → FrameFlags) (h : q ≠ p) :
    (s.closeFrame p f cut).lanes[q] = s.lanes[q] := by
  unfold State.closeFrame
  extract_lets _ flags filled counted checked
  rw [setLane_other _ _ h, (handOver_changes _ _).lanes (by decide)]
  show checked.1.lanes[q] = _
  rw [(ambientCheck_changes counted p f flags f.mean).lanes (by decide)]
  exact setLane_other filled _ h

theorem cutWindow_other (s : State) {p q : Port} (cut : FrameFlags → FrameFlags) (h : q ≠ p) :
    (s.cutWindow p cut).lanes[q] = s.lanes[q] := by
  unfold State.cutWindow
  split
  · rfl
  · rw [closeWindow_other _ h]
    split
    · rw [(reportAbsence_changes _ _ _ _ _).lanes (by decide)]
    · rfl
    · split
      · rfl
      · exact closeFrame_other s _ _ h

/-- A lane with no window and no exposure. -/
abbrev WindowsClosed (l : Lane) : Prop := l.window = none ∧ l.exposure = none

theorem abortLane_at (s : State) (p : Port) : WindowsClosed (State.abortLane p s).lanes[p] := by
  unfold State.abortLane State.closeExposure
  rw [State.setLane_lanes, upd_same]
  exact ⟨cutWindow_closes s p cutAborted, rfl⟩

theorem abortLane_other (s : State) {p q : Port} (h : q ≠ p) : (State.abortLane p s).lanes[q] = s.lanes[q] :=
  (setLane_other _ _ h).trans (cutWindow_other s cutAborted h)

theorem abortLanes_at : ∀ (ps : List Port) (s : State) (q : Port), q ∈ ps ∨ WindowsClosed s.lanes[q] →
    WindowsClosed (State.forPorts State.abortLane ps s).lanes[q]
  | [], _, _, h => h.elim (fun k => absurd k List.not_mem_nil) id
  | p :: ps, s, q, h => by
    show WindowsClosed (State.forPorts State.abortLane ps (State.abortLane p s)).lanes[q]
    refine abortLanes_at ps _ q ?_
    by_cases e : q = p
    · rw [e]
      exact .inr (abortLane_at s p)
    · rw [abortLane_other s e]
      exact h.imp (fun m => (List.mem_cons.mp m).resolve_left e) id

theorem abortLanes_other : ∀ (ps : List Port) (s : State) (q : Port), q ∉ ps →
    (State.forPorts State.abortLane ps s).lanes[q] = s.lanes[q]
  | [], _, _, _ => rfl
  | p :: ps, s, q, h => by
    obtain ⟨ne, rest⟩ := not_or.mp (fun k => h (List.mem_cons.mpr k))
    show (State.forPorts State.abortLane ps (State.abortLane p s)).lanes[q] = _
    rw [abortLanes_other ps _ q rest, abortLane_other s ne]

/-- The state in which the lanes of the plan's ports have cut their windows. -/
def lanesCut (s : State) : State := State.forPorts State.abortLane (portsWhere s.seq.marks) s

theorem lanesCut_changes (s : State) : Changes windowParts s (lanesCut s) := forPorts_changes abortLane_changes _ s

theorem abortPlan_changes (s : State) : Changes lensParts ((lanesCut s).planEnds .abort) s.abortPlan :=
  (busPumps_follows _ _).toChanges

/-- What an abort keeps: all but the sequencer, the lanes, the store and what follows on the walk. -/
theorem abortPlan_keeps (s : State) : KeepsSupply leftParts s s.abortPlan :=
  ((lanesCut_changes s).keepsSupply (by decide) (by decide)).step
    (((planEnds_follows _ .abort).keepsSupply (by decide)).step ((busPumps_follows _ _).keepsSupply (by decide)))

/-- The windows of the lanes after an abort. -/
theorem abortPlan_windows (s : State) (p : Port) :
    (s.abortPlan.lanes[p].window = (lanesCut s).lanes[p].window ∧ s.abortPlan.lanes[p].exposure = (lanesCut s).lanes[p].exposure) := by
  rw [(abortPlan_changes s).lanes (by decide)]
  exact ⟨(planEnds_tested _ _).window p, (planEnds_tested _ _).exposure p⟩

theorem abortPlan_seq (s : State) : s.abortPlan.seq =
    { (lanesCut s).seq with state := .loaded, current := none, pending := none, nextExpiry := none } := by
  rw [(abortPlan_changes s).seq (by decide), planEnds_seq]

theorem planAbort_service {s : State} (service : s.seq.state = .armed ∨ s.seq.state = .running ∨ s.seq.state = .stopping) :
    s.planAbort = s.abortPlan.reply .ok := if_pos ((inService_iff _).mpr service)

theorem planAbort_refused {s : State} (idle : s.seq.state = .empty ∨ s.seq.state = .loaded) :
    s.planAbort = s.reply .wrongState :=
  if_neg (by rcases idle with h | h <;> rw [h] <;> decide)

/-- The windows after an abort, port by port. -/
theorem abortPlan_lanes (s : State) (p : Port) :
    (s.seq.marks p = true → WindowsClosed s.abortPlan.lanes[p]) ∧
      (s.seq.marks p = false → s.abortPlan.lanes[p].window = s.lanes[p].window ∧
        s.abortPlan.lanes[p].exposure = s.lanes[p].exposure) := by
  obtain ⟨window, exposure⟩ := abortPlan_windows s p
  rw [window, exposure]
  refine ⟨fun marked => ?_, fun unmarked => ?_⟩
  · rw [WindowsClosed, window, exposure]
    exact abortLanes_at _ s p (.inl (mem_portsWhere.mpr marked))
  · have same : (lanesCut s).lanes[p] = s.lanes[p] := abortLanes_other _ s p (fun m => by
      rw [mem_portsWhere.mp m] at unmarked
      cases unmarked)
    rw [same]
    exact ⟨rfl, rfl⟩

/-! ## The end of a cycle (R65) -/

/-- The close of the last window that a cycle holds. -/
theorem closeWindow_last {s : State} {p : Port} {w : RxWindow} {c : Cycle} (current : s.seq.current = some c)
    (window : s.lanes[p].window = some w) (cycle : w.cycle = c.number) (last : c.windows = [(w.slot, p)]) :
    s.closeWindow p = { s with
      lanes := upd s.lanes p (fun l => { l with window := none })
      seq := { s.seq with current := some { c with windows := [] } } } := by
  have emptied : c.windows.filter (fun o => o ≠ (w.slot, p)) = [] := by
    rw [last]
    simp
  unfold State.closeWindow
  split
  case h_1 closed =>
    rw [window] at closed
    cases closed
  case h_2 v found =>
    rw [window] at found
    cases found
    extract_lets t
    have hc : t.seq.current = some c := current
    rw [hc, Option.map_some, if_pos cycle.symm, emptied]
    rfl

/-- A dropped window that its deadline closes (R44). -/
theorem receptionDeadline_dropped {s : State} {p : Port} {w : RxWindow} (window : s.lanes[p].window = some w)
    (dropped : w.rx = .dropped) (due : w.deadline ≤ s.clock) :
    exec (.receptionDeadline p) s = .next ((s.closeWindow p).checkCycle).transmit := by
  have closes : s.deadlineClose p = s.closeWindow p := by
    unfold State.deadlineClose
    split
    case h_1 closed =>
      rw [window] at closed
      cases closed
    case h_2 v found =>
      rw [window] at found
      cases found
      rw [dropped]
  rw [← closes]
  refine if_pos ?_
  unfold State.deadlineDue
  split
  case h_1 closed =>
    rw [window] at closed
    cases closed
  case h_2 v found =>
    rw [window] at found
    cases found
    exact decide_eq_true due

/-- A cycle whose slots are all dispatched and whose windows are closed is over. -/
theorem cycleOver_of {r : Sequencer} {c : Cycle} (current : r.current = some c) (closed : c.windows = [])
    (dispatched : ∀ k : Fin 4, r.slots[k.val]? ≠ none → k ∈ c.dispatched) : r.cycleOver = true := by
  unfold Sequencer.cycleOver
  split
  case h_1 none =>
    rw [current] at none
    cases none
  case h_2 found =>
    rw [current] at found
    cases found
    rw [closed, List.isEmpty_nil, Bool.and_true, List.all_eq_true]
    intro k hk
    obtain ⟨n, -, hn⟩ := List.mem_filterMap.mp hk
    obtain ⟨slot, hslot, rfl⟩ := Option.map_eq_some_iff.mp hn
    refine List.contains_iff_mem.mpr (dispatched n ?_)
    rw [show r.slots[n.val]? = some slot from hslot]
    exact fun e => (by cases e)

/-- With no lens in a window wait, no wait ends with a cycle. -/
theorem waitingPorts_none {s : State} (unwaiting : ∀ o : Port, s.lenses[o].stage ≠ .windowWait) : s.waitingPorts = [] := by
  refine List.eq_nil_iff_forall_not_mem.mpr (fun p hp => ?_)
  have waits := mem_portsWhere.mp hp
  rw [Lens.waitsWindow, Bool.and_eq_true, decide_eq_true_eq] at waits
  exact unwaiting p waits.1

/-- The end of a RUNNING cycle with no wait and no sweep (R65). -/
theorem endCycle_running {s : State} (running : s.seq.state = .running)
    (unwaiting : ∀ o : Port, s.lenses[o].stage ≠ .windowWait) {next : State}
    (ends : s.seq.pending = none → next = s.setSeq (fun q => { q with state := .armed, current := none }))
    (holds : ∀ g, s.seq.pending = some g → s.planQuiet = true → next = s.setSeq (fun q => { q with
      state := .armed, current := none, pending := some { g with held := true } }))
    (begins : ∀ g, s.seq.pending = some g → s.planQuiet = false → next =
      (s.setSeq (fun q => { q with state := .armed, current := none })).beginCycle false)
    (kept : next.sweeps.sweep = none) : s.endCycle = next := by
  unfold State.endCycle
  rw [running, waitingPorts_none unwaiting]
  extract_lets t u
  have same : u = next := by
    cases pending : s.seq.pending with
    | none =>
      simp only [u, pending]
      exact (ends pending).symm
    | some g =>
      simp only [u, pending]
      split
      · next quiet => exact (holds g pending quiet).symm
      · next loud => exact (begins g pending (Bool.eq_false_iff.mpr loud)).symm
  show State.sweepResume u = next
  rw [same, sweepResume_idle kept]

theorem endGroups_none : ∀ (gs : List (Fin 4 × Port)) {s : State}, s.store.groups = [] → State.endGroups gs s = s
  | [], _, _ => rfl
  | (k, p) :: rest, s, empty => by
    have no : s.store.group? k p = none := by
      rw [Store.group?, empty]
      rfl
    unfold State.endGroups
    rw [no]
    exact endGroups_none rest empty

/-- The end of the plan with no group, claim, wait or sweep: one change and one notice (R50, R65). -/
theorem planEnds_plain {s : State} (cause : PlanCause) (groups : s.store.groups = []) (claims : s.supply.claims = [])
    (unwaiting : ∀ o : Port, s.lenses[o].stage ≠ .windowWait) (idle : s.sweeps.sweep = none) :
    s.planEnds cause = ({ s with
      seq := { s.seq with state := .loaded, current := none, pending := none, nextExpiry := none }
      store := { s.store with notified := Vector.replicate 8 none } }).post none
      (.planState .loaded s.seq.state cause s.seq.cycleCounter 0) := by
  rw [planEnds_idle cause idle, planLeft, waitingPorts_none unwaiting]
  have told : (s.setSeq (fun q => { q with
      state := .loaded, current := none, pending := none, nextExpiry := none })).planNotice s.seq.state cause =
      (s.setSeq (fun q => { q with state := .loaded, current := none, pending := none, nextExpiry := none })).post none
        (.planState .loaded s.seq.state cause s.seq.cycleCounter 0) := by
    unfold State.planNotice
    rw [strobePart_outOfService (by rfl)]
    rfl
  rw [told, State.storePlanEnded, endGroups_none _ (by rw [(post_changes _ _ _).store (by simp)]; exact groups), setStore_post]
  show State.walk _ = _
  rw [walk_nil (by rw [(post_changes _ _ _).supply (by simp)]; exact claims)]
  rfl

/-- The end of a cycle in STOPPING is the end of the plan. -/
theorem endCycle_stopping {s : State} (stopping : s.seq.state = .stopping) : s.endCycle = s.planEnds .stopped := by
  unfold State.endCycle
  rw [stopping]

theorem stopRunning_idle {s : State} (idle : s.sweeps.sweep = none) : s.stopRunning =
    ({ s with seq := { s.seq with state := .stopping, pending := none, nextExpiry := none } }).post none
      (.planState .stopping .running .stop s.seq.cycleCounter s.strobeReservation) := by
  unfold State.stopRunning State.planNotice
  rw [strobePart_inService (by rfl), sweepResume_idle (by rw [(post_changes _ _ _).sweeps (by simp)]; exact idle)]
  rfl

theorem planClear_loaded {s : State} (loaded : s.seq.state = .loaded) (idle : s.sweeps.sweep = none) : s.planClear =
    (({ s with seq := { s.seq with state := .empty, plan := none } }).post none
      (.planState .empty .loaded .clear s.seq.cycleCounter 0)).reply .ok := by
  unfold State.planClear State.planNotice
  rw [loaded, strobePart_outOfService (by rfl)]
  simp only
  rw [sweepResume_idle (by rw [(post_changes _ _ _).sweeps (by simp)]; exact idle)]
  rfl

/-- The state in which the last window of a cycle has closed. -/
def lastClosed (s : State) (p : Port) (c : Cycle) : State :=
  { s with
    lanes := upd s.lanes p (fun l => { l with window := none })
    seq := { s.seq with current := some { c with windows := [] } } }

/-- A deadline that closes the last window of a cycle ends it. -/
theorem receptionDeadline_ends {s : State} {p : Port} {w : RxWindow} {c : Cycle} (current : s.seq.current = some c)
    (window : s.lanes[p].window = some w) (dropped : w.rx = .dropped) (due : w.deadline ≤ s.clock)
    (cycle : w.cycle = c.number) (last : c.windows = [(w.slot, p)])
    (dispatched : ∀ k : Fin 4, s.seq.slots[k.val]? ≠ none → k ∈ c.dispatched) :
    exec (.receptionDeadline p) s = .next (lastClosed s p c).endCycle.transmit := by
  rw [receptionDeadline_dropped window dropped due, closeWindow_last current window cycle last]
  have over_ : (lastClosed s p c).seq.cycleOver = true :=
    cycleOver_of (c := { c with windows := [] }) rfl rfl dispatched
  have ends : (lastClosed s p c).checkCycle = (lastClosed s p c).endCycle := if_pos over_
  rw [← ends]
  rfl

theorem lastClosed_planQuiet (s : State) (p : Port) (c : Cycle) : (lastClosed s p c).planQuiet = s.planQuiet := by
  have states : ∀ q : Port, (lastClosed s p c).lanes[q].state = s.lanes[q].state := fun q => by
    show (upd s.lanes p _)[q].state = _
    rw [upd_get]
    split
    · next e => rw [get_congr s.lanes e]
    · rfl
  unfold State.planQuiet
  simp only [states]
  rfl

/-- Settles O32: the requests by the plan's state, and the end of a cycle through the close of its last window. -/
theorem planRequestsByState : Obligations.PlanRequestsByState := by
  refine ⟨fun s tag q => ⟨fun h => ⟨fun away => ?_, fun loaded plan => ⟨fun f fails => ?_, fun passes => ⟨fun blocked => ?_,
    fun normal fits line idle => ?_, fun first normal fits free idle clear quiet starts => ?_⟩⟩⟩,
    fun h => ⟨fun unarmed => ?_, fun stopping => ?_, fun running idle => ?_, fun armed idle => ?_⟩,
    fun h => ⟨fun empty => ?_, fun service => ?_, fun loaded idle => ?_⟩⟩,
    fun s tag h => ⟨fun unarmed => ?_, fun service => ?_⟩,
    fun s u p w c q plan current window dropped due cycle last dispatched idle unwaiting hu => ?_⟩
  · rw [planArm_serves h, planArm_refused away]
  · rw [planArm_serves h, planArm_loaded loaded plan, fails]
    rfl
  · rw [planArm_serves h, planArm_loaded loaded plan, passes]
    refine congrArg (fun t : State => Host.Outcome.next t.transmit) (if_pos ?_)
    rw [Bool.or_eq_true, decide_eq_true_eq]
    exact blocked
  · rw [planArm_serves h, planArm_fits loaded plan passes normal fits, armPlan_line plan line idle]
    rfl
  · rw [planArm_serves h, planArm_fits loaded plan passes normal fits]
    obtain ⟨held, begun⟩ := armPlan_free plan free idle clear
    by_cases q : PlanQuiet s
    · rw [held q, quiet q, armedState, setSeq_post]
      rfl
    · obtain ⟨unset, rfl⟩ := starts q
      rw [begun q unset, armedState, setSeq_post]
      simp only [State.setSeq, armedSeq, clear]
  · rw [planStop_serves h, State.planStop]
    rcases unarmed with e | e <;> rw [e]
  · rw [planStop_serves h, State.planStop, stopping]
  · rw [planStop_serves h, State.planStop, running]
    simp only [stopRunning_idle idle]
  · have stops : s.planStop = (planLeft s .stop).reply .ok := by
      rw [State.planStop, armed]
      simp only [planEnds_idle .stop idle]
    have left := planLeft_changes s .stop
    rw [planStop_serves h, stops]
    exact ⟨_, rfl, left.seq (by decide), planLeft_groups s .stop, left.lanes (by decide), left.dram (by decide),
      left.settings (by decide), left.clock, left.monitor (by decide), left.table (by decide), left.profile⟩
  · rw [planClear_serves h, State.planClear, empty]
  · rw [planClear_serves h, State.planClear]
    rcases service with e | e | e <;> rw [e]
  · rw [planClear_serves h, planClear_loaded loaded idle]
  · rw [planAbort_serves h, planAbort_refused unarmed]
  · have seq := abortPlan_seq s
    have keeps := abortPlan_keeps s
    have plan := ((lanesCut_changes s).plan (by decide)).1
    have groups : s.abortPlan.store.groups = [] := by
      rw [(abortPlan_changes s).store (by decide), planEnds_groups]
    have lanes := abortPlan_lanes s
    rw [planAbort_serves h, planAbort_service service]
    generalize s.abortPlan = t at seq keeps groups lanes ⊢
    exact ⟨_, rfl, congrArg (·.state) seq, (congrArg (·.plan) seq).trans plan, congrArg (·.current) seq,
      congrArg (·.pending) seq, congrArg (·.nextExpiry) seq, groups, fun p => (lanes p).1, fun p => (lanes p).2,
      keeps.settings (by decide), keeps.clock, keeps.monitor (by decide), keeps.table (by decide), keeps.profile⟩
  · rw [receptionDeadline_ends current window dropped due cycle last dispatched, hu]
    refine ⟨fun running => ⟨fun clear => ?_, fun g pending quiet => ?_, fun g pending loud small unset => ?_⟩,
      fun stopping groups claims => ?_⟩
    · rw [endCycle_running (s := lastClosed s p c) running unwaiting (fun _ => rfl)
        (fun g pending => (by rw [show s.seq.pending = some g from pending] at clear; cases clear))
        (fun g pending => (by rw [show s.seq.pending = some g from pending] at clear; cases clear)) idle]
      rfl
    · have held : (lastClosed s p c).planQuiet = true := by
        rw [lastClosed_planQuiet]
        exact (planQuiet_iff s).mpr quiet
      rw [endCycle_running (s := lastClosed s p c) (next := (lastClosed s p c).setSeq (fun q => { q with
          state := .armed, current := none, pending := some { g with held := true } })) running unwaiting
        (fun clear => (by rw [show s.seq.pending = none from clear] at pending; cases pending))
        (fun g' found _ => (by rw [show s.seq.pending = some g' from found] at pending; cases pending; rfl))
        (fun g' _ loud => (by rw [held] at loud; cases loud)) idle]
      rfl
    · have loud' : ¬ (lastClosed s p c).planQuiet = true := by
        rw [lastClosed_planQuiet, planQuiet_iff]
        exact loud
      have begun := beginCycle_plain (s := (lastClosed s p c).setSeq (fun q => { q with state := .armed, current := none }))
        plan unset idle small
      rw [endCycle_running (s := lastClosed s p c) (next := ((lastClosed s p c).setSeq (fun q => { q with
          state := .armed, current := none })).beginCycle false) running unwaiting
        (fun clear => (by rw [show s.seq.pending = none from clear] at pending; cases pending))
        (fun g' _ quiet => absurd quiet loud') (fun _ _ _ => rfl) (by rw [begun]; exact idle), begun]
      simp only [lastClosed, State.setSeq, running]
    · rw [endCycle_stopping (by exact stopping), planEnds_plain .stopped (by exact groups) (by exact claims)
        (by exact unwaiting) (by exact idle), show (lastClosed s p c).seq.state = .stopping from stopping]
      rfl

end Sys2Proof.Power
end

section
/-! PROOFS. The end of the ramp, and the end of an acquisition that is not gathered (R7, R8, R32, R35, R160 to R162). -/

namespace Sys2Proof.Power

open Sys2Proof.Machine Sys2Proof.Safety

/-! ## The discard of acquisitions as a change of the sweep engine (R162) -/

theorem discardAcquisitions_other {s : State} {p : Port} (h : ∀ w, s.sweeps.sweep = some w → w.entry.port = p →
    s.sweeps.results[p].state = .analysing) : s.discardAcquisitions p = s := by
  unfold State.discardAcquisitions
  split
  case h_1 => rfl
  case h_2 w sweep =>
    refine if_neg ?_
    rw [Bool.and_eq_true, decide_eq_true_eq]
    rintro ⟨own, stage⟩
    have at_stage : ∀ st, s.sweepIn st = decide (s.sweeps.results[p].state = st) := fun st => by
      unfold State.sweepIn
      rw [sweep, ← own]
    rw [at_stage, at_stage, at_stage, h w sweep own] at stage
    exact absurd stage (by decide)

/-- The sweep engine as the discard leaves it. -/
theorem discardAcquisitions_kept {s : State} {p : Port} {kept : SweepEngine}
    (own : ∀ w, s.sweeps.sweep = some w → w.entry.port = p → NotAnalysed s.sweeps.results[p].state → kept = { s.sweeps with
      sweep := some { w with samples := [] }
      acquisition := s.sweeps.acquisition.map (fun a => { a with live := false })
      results := upd s.sweeps.results p (fun r => { r with gathered := some 0, restarts := r.restarts.map sat32 }) })
    (other : (∀ w, s.sweeps.sweep = some w → w.entry.port = p → s.sweeps.results[p].state = .analysing) → kept = s.sweeps)
    (stages : ∀ w, s.sweeps.sweep = some w → w.entry.port = p →
      NotAnalysed s.sweeps.results[p].state ∨ s.sweeps.results[p].state = .analysing) :
    s.discardAcquisitions p = { s with sweeps := kept } := by
  by_cases h : ∀ w, s.sweeps.sweep = some w → w.entry.port = p → s.sweeps.results[p].state = .analysing
  · rw [discardAcquisitions_other h, other h]
  · push Not at h
    obtain ⟨w, sweep, mine, away⟩ := h
    have stage := (stages w sweep mine).resolve_right away
    rw [discardAcquisitions_own sweep mine stage, own w sweep mine stage]

/-! ## The sweep engine's test after a change of the lanes (R160, R161) -/

/-- The conditions of an acquisition read the windows of the lane, the sequencer, the clock and the segment. -/
theorem gapOpen_congr {s t : State} {e : SweepEntry} (window : t.lanes[e.port].window = s.lanes[e.port].window)
    (clock : t.clock = s.clock) (seq : t.seq = s.seq) (monitor : t.monitor = s.monitor) : t.gapOpen e = s.gapOpen e := by
  unfold State.gapOpen State.nextExposure State.triggerPending
  rw [window, clock, seq, monitor]

theorem sweepResume_stands {s : State} (h : ∀ w, s.sweeps.sweep = some w →
    s.sweeps.results[w.entry.port].state = .suspended → s.sweeps.acquisition.isSome = true ∨ s.gapOpen w.entry = false) :
    s.sweepResume = s := by
  unfold State.sweepResume
  split
  case h_1 => rfl
  case h_2 w sweep =>
    refine if_neg ?_
    rw [Bool.and_eq_true, Bool.and_eq_true, Bool.and_eq_true, decide_eq_true_eq, Option.isNone_iff_eq_none]
    rintro ⟨⟨⟨stage, gap⟩, -⟩, free⟩
    rcases h w sweep stage with taken | closed
    · rw [free] at taken
      cases taken
    · rw [closed] at gap
      cases gap

theorem sweepResume_begins {s : State} {w : Sweep} {p : Port} (sweep : s.sweeps.sweep = some w) (own : w.entry.port = p)
    (stage : s.sweeps.results[p].state = .suspended) (gap : s.gapOpen w.entry = true) (loud : s.lanes[p].state ≠ .quiet)
    (free : s.sweeps.acquisition = none) : s.sweepResume = s.beginAcquisition p := by
  unfold State.sweepResume
  rw [sweep]
  subst own
  refine if_pos ?_
  rw [Bool.and_eq_true, Bool.and_eq_true, Bool.and_eq_true, decide_eq_true_eq, Option.isNone_iff_eq_none, bne_iff_ne]
  exact ⟨⟨⟨stage, gap⟩, loud⟩, free⟩

/-- An acquisition that begins on a lane in TRAINING takes it to QUIET (R35, R160). -/
theorem beginAcquisition_training {s : State} {p : Port} (training : s.lanes[p].state = .training) :
    s.beginAcquisition p = { s with
      lanes := upd s.lanes p (fun l => { l with state := .quiet, since := s.clock, deadlineAt := none })
      sweeps := { s.sweeps with
        acquisition := some ⟨p, s.clock + 200, true⟩
        results := upd s.sweeps.results p (fun r => { r with state := .acquiring }) } } := by
  unfold State.beginAcquisition State.askQuiet
  split
  case h_2 =>
    unfold State.laneEnters State.setLane
    rw [upd_upd]
    rfl
  case h_1 h =>
    rw [show s.lanes[p].state = .locked from h] at training
    cases training
  case h_3 h =>
    rw [show s.lanes[p].state = .down from h] at training
    cases training
  case h_4 h =>
    rw [show s.lanes[p].state = .quiet from h] at training
    cases training

/-- The same for a lane that began its training at this moment. -/
theorem beginAcquisition_fresh {s : State} {v : Vector Lane 8} {p : Port} {l : Lane} (lanes : s.lanes = upd v p (fun _ => l))
    (training : l.state = .training) (since : l.since = s.clock) : s.beginAcquisition p = { s with
      lanes := upd v p (fun _ => { l with state := .quiet, deadlineAt := none })
      sweeps := { s.sweeps with
        acquisition := some ⟨p, s.clock + 200, true⟩
        results := upd s.sweeps.results p (fun r => { r with state := .acquiring }) } } := by
  have quiets : upd s.lanes p (fun l => { l with state := .quiet, since := s.clock, deadlineAt := none }) =
      upd v p (fun _ => { l with state := .quiet, deadlineAt := none }) := by
    rw [lanes, upd_upd]
    refine upd_congr v p ?_
    simp only [← since]
  rw [beginAcquisition_training (by rw [lanes, upd_same]; exact training), quiets]

/-! ## A port that enters ON (R8, R32) -/

theorem enter_on (w : PortPower) (f : PortProfile) (now : Time) (r : OffReason) (ramping : w.state = .ramping) :
    w.enter f now .on r = { w with
      state := .on
      reason := r
      underRun := none
      overdrawSent := false
      pulseEndAt := none
      probeAt := none
      rampEndAt := none
      cooldownEndAt := none } := by
  simp [PortPower.enter, PowerState.reserved, ramping]

/-- The state in which a port has entered ON and told so. -/
def poweredOn (s : State) (p : Port) : State :=
  { s with
    power := upd s.power p (fun w => { w with
      state := .on
      underRun := none
      overdrawSent := false
      pulseEndAt := none
      probeAt := none
      rampEndAt := none
      cooldownEndAt := none })
    link := noted s.link ⟨some p, s.clock, .portState .state .on .ramping s.power[p].reason⟩ }

theorem setPowerState_on {s : State} {p : Port} (ramping : s.power[p].state = .ramping) :
    s.setPowerState p .on s.power[p].reason = poweredOn s p := by
  rw [setPowerState_eq, upd_congr s.power p (g := fun w => { w with
    state := .on
    underRun := none
    overdrawSent := false
    pulseEndAt := none
    probeAt := none
    rampEndAt := none
    cooldownEndAt := none }) (by rw [enter_on _ _ _ _ ramping]), post_eq, ramping]
  rfl

/-- The state in which the port's lane has seen it enter ON. -/
def onLane (s : State) (p : Port) (l : Lane) (link : Link) : State :=
  { poweredOn s p with lanes := upd s.lanes p (fun _ => l), link := link }

/-- The state in which the lens and the sweep engine have seen it too. -/
def onState (s : State) (p : Port) (l : Lane) (link : Link) (e : SweepEngine) : State :=
  { onLane s p l link with lenses := upd s.lenses p (fun l => { l with bus := ⟨.free, none, []⟩ }), sweeps := e }

theorem acquiringOn_true {s : State} {p : Port} {a : Acquisition} (under : s.sweeps.acquisition = some a)
    (own : a.port = p) : s.acquiringOn p = true := by
  unfold State.acquiringOn
  rw [under]
  exact decide_eq_true own

theorem acquiringOn_false {s : State} {p : Port} (free : ∀ a, s.sweeps.acquisition = some a → a.port ≠ p) :
    s.acquiringOn p = false := by
  unfold State.acquiringOn
  split
  · next a under => exact decide_eq_false (free a under)
  · rfl

/-- A lane that begins its first attempt as its port enters ON. -/
def firstTraining (s : State) (p : Port) : Lane :=
  { s.lanes[p] with
    state := .training
    since := s.clock
    deadlineAt := some (s.clock + 50000)
    retryAt := none
    retrainAt := none
    failedRun := 0
    counts := { s.lanes[p].counts with attempts := sat32 s.lanes[p].counts.attempts } }

/-- The first attempt of a lane, as one change and one notice (R32, R33). -/
theorem laneFirstTraining_eq (s : State) (p : Port) : s.laneFirstTraining p = { s with
    lanes := upd s.lanes p (fun _ => firstTraining s p)
    link := noted s.link ⟨some p, s.clock, .laneState .training s.lanes[p].state .portOn 0⟩ } := by
  unfold State.laneFirstTraining State.laneNotice
  have lanes : ((s.setLane p (fun l => { l with failedRun := 0 })).startTraining p s.clock) =
      s.setLane p (fun _ => firstTraining s p) := by
    unfold State.startTraining State.setLane
    rw [upd_upd]
    exact congrArg (fun v => { s with lanes := v }) (upd_congr s.lanes p rfl)
  rw [lanes, post_eq, State.setLane_lanes, upd_same]
  rfl

theorem onLane_kept {s : State} {p : Port} {a : Acquisition} (under : s.sweeps.acquisition = some a) (own : a.port = p) :
    (poweredOn s p).laneEntersOn p = onLane s p { s.lanes[p] with failedRun := 0 } (poweredOn s p).link := by
  unfold State.laneEntersOn
  rw [acquiringOn_true (s := poweredOn s p) under own, if_pos rfl]
  exact congrArg (fun v => { poweredOn s p with lanes := v }) (upd_congr s.lanes p rfl)

theorem onLane_trains {s : State} {p : Port} (free : ∀ a, s.sweeps.acquisition = some a → a.port ≠ p) :
    (poweredOn s p).laneEntersOn p = onLane s p (firstTraining s p) (noted (poweredOn s p).link
      ⟨some p, s.clock, .laneState .training s.lanes[p].state .portOn 0⟩) := by
  unfold State.laneEntersOn
  rw [acquiringOn_false (s := poweredOn s p) free, if_neg (by decide), laneFirstTraining_eq]
  rfl

/-- With no pending move and no auto-home a lens whose port enters ON has its bus freed alone (R115, R119). -/
theorem lensOn_plain {s : State} {p : Port} (pending : s.lenses[p].pending = none)
    (manual : s.settings.ports[p].autoHome = false) :
    s.lensOn p = s.setLens p (fun l => { l with bus := ⟨.free, none, []⟩ }) := by
  unfold State.lensOn
  extract_lets t homePending
  have settled : (t.profileOf p).autoHome = false := manual
  have unmoved : t.startPending p = t := by
    refine if_neg ?_
    have none_pending : t.lenses[p].pending = none := by
      show (upd s.lenses p _)[p].pending = none
      rw [upd_same]
      exact pending
    rw [State.startable]
    simp only [none_pending, Option.isSome_none, Bool.false_and]
    decide
  rw [settled, Bool.false_and, Bool.false_and, if_neg (by decide), unmoved]

/-- A port that enters ON, by what its lane does and what the discard leaves of the sweep engine. -/
theorem portEntersOn_eq {s : State} {p : Port} {l : Lane} {link : Link} {kept : SweepEngine}
    (ramping : s.power[p].state = .ramping) (pending : s.lenses[p].pending = none)
    (manual : s.settings.ports[p].autoHome = false) (lane : (poweredOn s p).laneEntersOn p = onLane s p l link)
    (discard : ∀ t : State, t.sweeps = s.sweeps → t.discardAcquisitions p = { t with sweeps := kept }) :
    s.portEntersOn p = (onState s p l link kept).sweepResume := by
  unfold State.portEntersOn
  rw [setPowerState_on ramping, lane, lensOn_plain (by exact pending) (by exact manual),
    discard ((onLane s p l link).setLens p _) rfl]
  rfl

/-- An acquisition that begins on the lane that trains: the lane is then in QUIET. -/
theorem onState_begins {s : State} {p : Port} {l : Lane} {link : Link} {e : SweepEngine} (training : l.state = .training)
    (since : l.since = s.clock) : (onState s p l link e).beginAcquisition p =
      onState s p { l with state := .quiet, deadlineAt := none } link { e with
        acquisition := some ⟨p, s.clock + 200, true⟩
        results := upd e.results p (fun r => { r with state := .acquiring }) } :=
  beginAcquisition_fresh (s := onState s p l link e) (v := s.lanes) rfl training since

/-! ## The end of an acquisition that is not gathered (R32, R35, R160, R161) -/

/-- The state in which the lane of a port has begun its first attempt from DOWN. -/
def trainedState (s : State) (p : Port) (l : Lane) (e : SweepEngine) : State :=
  { s with
    lanes := upd s.lanes p (fun _ => l)
    sweeps := e
    link := noted s.link ⟨some p, s.clock, .laneState .training .down .portOn 0⟩ }

theorem trainedState_begins {s : State} {p : Port} {l : Lane} {e : SweepEngine} (training : l.state = .training)
    (since : l.since = s.clock) : (trainedState s p l e).beginAcquisition p =
      trainedState s p { l with state := .quiet, deadlineAt := none } { e with
        acquisition := some ⟨p, s.clock + 200, true⟩
        results := upd e.results p (fun r => { r with state := .acquiring }) } :=
  beginAcquisition_fresh (s := trainedState s p l e) (v := s.lanes) rfl training since

/-- The state in which the acquisition has ended and the lane kept DOWN has begun its first attempt. -/
def keptDown (s : State) (p : Port) : State := trainedState s p (firstTraining s p) { s.sweeps with acquisition := none }

/-- The end of an acquisition that is not gathered, on a lane kept DOWN at its port's entry to ON. -/
theorem acquisitionEnd_dropped {s : State} {p : Port} {at_ : Time} (deviations : List Int)
    (under : s.sweeps.acquisition = some ⟨p, at_, false⟩) (due : at_ ≤ s.clock) (on : s.power[p].state = .on)
    (down : s.lanes[p].state = .down) (fresh : s.lanes[p].retryAt = none) :
    exec (.acquisitionEnd deviations) s = .next ((keptDown s p).sweepAfterAcquisition p).transmit := by
  have found : s.acquisitionDue = some ⟨p, at_, false⟩ := by
    unfold State.acquisitionDue
    rw [under]
    exact Option.filter_some_pos (decide_eq_true due)
  have trains : ({ s with sweeps := { s.sweeps with acquisition := none } } : State).laneAfterAcquisition ⟨p, at_, false⟩ =
      keptDown s p := by
    have idle : ({ s with sweeps := { s.sweeps with acquisition := none } } : State).retryDue p = false := by
      unfold State.retryDue
      simp only [fresh, Machine.due, Bool.and_false, Bool.false_and]
    unfold State.laneAfterAcquisition
    simp only [down, idle, on, fresh]
    rw [if_neg (by decide), if_pos (by decide), laneFirstTraining_eq]
    simp only [down]
    rfl
  have step : exec (.acquisitionEnd deviations) s = .next (s.acquisitionEnds ⟨p, at_, false⟩ deviations).transmit := by
    show (match s.acquisitionDue with
      | some a => finish (s.acquisitionEnds a deviations)
      | none => .next s) = _
    rw [found] <;> rfl
  rw [step, ← trains]
  rfl

theorem sweepAfterAcquisition_idle {s : State} (p : Port) (idle : s.sweeps.sweep = none) (queue : s.sweeps.queue = []) :
    s.sweepAfterAcquisition p = s := by
  have nothing : State.takeEntries [] s = s :=
    congrArg (fun q => { s with sweeps := { s.sweeps with queue := q } }) queue.symm
  unfold State.sweepAfterAcquisition State.takeNextSweep
  rw [idle, queue]
  simp only [nothing, ite_self]

theorem sweepIn_eq {s : State} {w : Sweep} {p : Port} (sweep : s.sweeps.sweep = some w) (own : w.entry.port = p)
    (st : SweepState) : s.sweepIn st = decide (s.sweeps.results[p].state = st) := by
  unfold State.sweepIn
  rw [sweep, ← own]

/-- At the end of an acquisition a sweep in ACQUIRING that is not complete is tested. -/
theorem sweepAfterAcquisition_tests {s : State} {w : Sweep} {p : Port} (sweep : s.sweeps.sweep = some w)
    (own : w.entry.port = p) (stage : s.sweeps.results[p].state = .acquiring)
    (few : w.samples.length < w.entry.acquisitions) (loud : s.lanes[p].state ≠ .quiet) (free : s.sweeps.acquisition = none) :
    s.sweepAfterAcquisition p = s.sweepTest := by
  unfold State.sweepAfterAcquisition State.laneLeftQuiet
  rw [sweep]
  simp only [sweepIn_eq sweep own, stage, free, own, Option.isNone_none]
  rw [if_neg (by simpa using few), if_neg loud]
  rfl

/-- At the end of an acquisition a sweep in another stage may resume. -/
theorem sweepAfterAcquisition_resumes {s : State} {w : Sweep} {p : Port} (sweep : s.sweeps.sweep = some w)
    (own : w.entry.port = p) (stage : s.sweeps.results[p].state ≠ .acquiring) (loud : s.lanes[p].state ≠ .quiet) :
    s.sweepAfterAcquisition p = s.sweepResume := by
  unfold State.sweepAfterAcquisition State.laneLeftQuiet
  rw [sweep]
  simp only [sweepIn_eq sweep own, decide_eq_false stage, own, Bool.false_and]
  rw [if_neg (by decide), if_neg loud]
  rfl

theorem sweepTest_begins {s : State} {w : Sweep} {p : Port} (sweep : s.sweeps.sweep = some w) (own : w.entry.port = p)
    (gap : s.gapOpen w.entry = true) (loud : s.lanes[p].state ≠ .quiet) (free : s.sweeps.acquisition = none) :
    s.sweepTest = s.beginAcquisition p := by
  unfold State.sweepTest
  rw [sweep]
  subst own
  refine (if_pos gap).trans (if_pos ?_)
  rw [Bool.and_eq_true, bne_iff_ne, Option.isNone_iff_eq_none]
  exact ⟨loud, free⟩

theorem sweepTest_suspends {s : State} {w : Sweep} {p : Port} (sweep : s.sweeps.sweep = some w) (own : w.entry.port = p)
    (closed : s.gapOpen w.entry = false) : s.sweepTest =
      s.setResult p (fun r => { r with state := .suspended, suspensions := r.suspensions.map sat32 }) := by
  unfold State.sweepTest
  rw [sweep]
  subst own
  exact if_neg (by rw [closed]; decide)

/-! ## The end of the ramp (R7, R8) -/

theorem rampEnd_due {s : State} {p : Port} {at_ : Time} (ramping : s.power[p].state = .ramping)
    (timer : s.power[p].rampEndAt = some at_) (passed : at_ ≤ s.clock) : exec (.rampEnd p) s =
      .next (if s.power[p].samples.headD 0 < s.settings.ports[p].underload then s.openLoad p
        else s.portEntersOn p).transmit := by
  refine if_pos ?_
  rw [State.rampDue, ramping, timer]
  simpa [due] using passed

theorem powerOpen_plain {s : State} {p : Port} (manual : s.settings.ports[p].autoSweep = false) :
    s.powerOpen p = (s.submitEvidence p .powerOpen .suspect).1 := by
  unfold State.powerOpen
  extract_lets t
  have settings : t.settings = s.settings := (submitEvidence_changes s p .powerOpen .suspect).settings (by decide)
  refine if_neg ?_
  rw [State.profileOf, settings, manual]
  decide

/-- An open load at the end of the ramp with no claim to walk and no auto-sweep. -/
theorem openLoad_ramping {s : State} {p : Port} (ramping : s.power[p].state = .ramping) (unclaimed : s.supply.claims = [])
    (manual : s.settings.ports[p].autoSweep = false) :
    s.openLoad p = ((s.setPowerState p .probing .openLoad).submitEvidence p .powerOpen .suspect).1 := by
  have changes := setPowerState_changes s p .probing .openLoad
  have goes : s.portGoes p .probing .openLoad = s.setPowerState p .probing .openLoad := by
    rw [portGoes_ramping _ ramping (by decide), walk_nil]
    rw [changes.supply (by decide)]
    exact unclaimed
  rw [State.openLoad, goes, powerOpen_plain]
  rw [changes.settings (by decide)]
  exact manual

/-- What the discard leaves of the sweep engine: the stages, the entry, and whether an acquisition is under way. -/
structure KeptStages (e kept : SweepEngine) : Prop where
  acquisition : kept.acquisition.isSome = e.acquisition.isSome
  state : ∀ q : Port, kept.results[q].state = e.results[q].state
  sweep : ∀ v, kept.sweep = some v → ∃ w, e.sweep = some w ∧ v.entry = w.entry

theorem discardAcquisitions_stages (s : State) (p : Port) : KeptStages s.sweeps (s.discardAcquisitions p).sweeps := by
  have same : KeptStages s.sweeps s.sweeps := ⟨rfl, fun _ => rfl, fun v h => ⟨v, h, rfl⟩⟩
  unfold State.discardAcquisitions
  split
  case h_1 => exact same
  case h_2 w sweep =>
    split
    · refine ⟨Option.isSome_map, fun q => ?_, fun v h => ⟨w, sweep, by cases h; rfl⟩⟩
      show (upd s.sweeps.results p _)[q].state = _
      rw [upd_get]
      split
      · next e => rw [get_congr s.sweeps.results e]
      · rfl
    · exact same

theorem onState_gapOpen {s : State} {p : Port} {l : Lane} (link : Link) (kept : SweepEngine) (e : SweepEntry)
    (window : l.window = s.lanes[p].window) : (onState s p l link kept).gapOpen e = s.gapOpen e := by
  refine gapOpen_congr ?_ rfl rfl rfl
  show (upd s.lanes p (fun _ => l))[e.port].window = _
  rw [upd_get]
  split
  · next h => rw [window, get_congr s.lanes h]
  · rfl

/-- After a port's entry to ON the test of the sweep engine changes nothing, where an acquisition is under way or the
suspended sweep's conditions do not hold. -/
theorem onState_stands {s : State} {p : Port} {l : Lane} {link : Link} {kept : SweepEngine}
    (stages : KeptStages s.sweeps kept) (window : l.window = s.lanes[p].window)
    (h : ∀ w, s.sweeps.sweep = some w → s.sweeps.results[w.entry.port].state = .suspended →
      s.sweeps.acquisition.isSome = true ∨ s.gapOpen w.entry = false) :
    (onState s p l link kept).sweepResume = onState s p l link kept := by
  refine sweepResume_stands (fun v found stage => ?_)
  obtain ⟨w, sweep, entry⟩ := stages.sweep v found
  have suspended : s.sweeps.results[w.entry.port].state = .suspended := by
    rw [← get_congr s.sweeps.results (congrArg SweepEntry.port entry), ← stages.state]
    exact stage
  refine (h w sweep suspended).imp (fun under => ?_) (fun closed => ?_)
  · show kept.acquisition.isSome = true
    rw [stages.acquisition]
    exact under
  · rw [onState_gapOpen link kept v.entry window, entry]
    exact closed

theorem keptDown_gapOpen (s : State) (p : Port) (e : SweepEntry) : (keptDown s p).gapOpen e = s.gapOpen e := by
  refine gapOpen_congr ?_ rfl rfl rfl
  show (upd s.lanes p (fun _ => firstTraining s p))[e.port].window = _
  rw [upd_get]
  split
  · next h => rw [get_congr s.lanes h]; rfl
  · rfl

theorem keptDown_loud (s : State) (p : Port) : (keptDown s p).lanes[p].state ≠ .quiet := by
  have lane : (keptDown s p).lanes[p] = firstTraining s p := upd_same s.lanes p (fun _ => firstTraining s p)
  rw [lane]
  exact fun e => (by cases e)

theorem keptDown_begins (s : State) (p : Port) : (keptDown s p).beginAcquisition p =
    trainedState s p { firstTraining s p with state := .quiet, deadlineAt := none } { s.sweeps with
      acquisition := some ⟨p, s.clock + 200, true⟩
      results := upd s.sweeps.results p (fun r => { r with state := .acquiring }) } :=
  trainedState_begins rfl rfl

/-- At the end of the acquisition the port's sweep takes its next one, where its conditions hold. -/
theorem keptDown_takes {s : State} {p : Port} {w : Sweep} (sweep : s.sweeps.sweep = some w) (mine : w.entry.port = p)
    (stage : s.sweeps.results[p].state = .suspended ∨
      s.sweeps.results[p].state = .acquiring ∧ w.samples.length < w.entry.acquisitions)
    (gap : s.gapOpen w.entry = true) : (keptDown s p).sweepAfterAcquisition p = (keptDown s p).beginAcquisition p := by
  have open_ := (keptDown_gapOpen s p w.entry).trans gap
  rcases stage with suspended | ⟨acquiring, few⟩
  · rw [sweepAfterAcquisition_resumes (s := keptDown s p) sweep mine
      (fun e => by rw [show s.sweeps.results[p].state = .acquiring from e] at suspended; cases suspended)
      (keptDown_loud s p)]
    exact sweepResume_begins sweep mine suspended open_ (keptDown_loud s p) rfl
  · rw [sweepAfterAcquisition_tests (s := keptDown s p) sweep mine acquiring few (keptDown_loud s p) rfl]
    exact sweepTest_begins sweep mine open_ (keptDown_loud s p) rfl

/-- Where they do not hold, it is suspended. -/
theorem keptDown_suspends {s : State} {p : Port} {w : Sweep} (sweep : s.sweeps.sweep = some w) (mine : w.entry.port = p)
    (stage : s.sweeps.results[p].state = .suspended ∨
      s.sweeps.results[p].state = .acquiring ∧ w.samples.length < w.entry.acquisitions)
    (closed : s.gapOpen w.entry = false) : (keptDown s p).sweepAfterAcquisition p =
      trainedState s p (firstTraining s p) { s.sweeps with
        acquisition := none
        results := upd s.sweeps.results p (fun r => { r with
          state := .suspended
          suspensions := if r.state = .acquiring then r.suspensions.map sat32 else r.suspensions }) } := by
  have shut := (keptDown_gapOpen s p w.entry).trans closed
  rcases stage with suspended | ⟨acquiring, few⟩
  · have same : upd s.sweeps.results p (fun r => { r with
        state := .suspended
        suspensions := if r.state = .acquiring then r.suspensions.map sat32 else r.suspensions }) = s.sweeps.results :=
      upd_id (by
        generalize s.sweeps.results[p] = r at suspended ⊢
        cases r
        cases suspended
        rfl)
    rw [sweepAfterAcquisition_resumes (s := keptDown s p) sweep mine
      (fun e => by rw [show s.sweeps.results[p].state = .acquiring from e] at suspended; cases suspended)
      (keptDown_loud s p), same]
    refine sweepResume_stands (fun v found _ => .inr ?_)
    rw [show s.sweeps.sweep = some v from found] at sweep
    cases sweep
    exact shut
  · rw [sweepAfterAcquisition_tests (s := keptDown s p) sweep mine acquiring few (keptDown_loud s p) rfl,
      sweepTest_suspends (s := keptDown s p) sweep mine shut]
    refine congrArg (fun v => trainedState s p (firstTraining s p) { s.sweeps with acquisition := none, results := v })
      (upd_congr s.sweeps.results p ?_)
    rw [if_pos acquiring]

theorem notAnalysed_or {st : SweepState} (h : st = .calibrating ∨ st = .acquiring ∨ st = .suspended ∨ st = .analysing) :
    NotAnalysed st ∨ st = .analysing := by
  tauto

/-- Settles O20: what the lane and the discard come to at the end of the ramp, and the same at the acquisition's end. -/
theorem rampEndsOnOrOpen : Obligations.RampEndsOnOrOpen := by
  refine ⟨fun s p at_ ramping timer passed => ⟨fun high pending manual on trained kept hon htrained own other => ?_,
    fun low unclaimed manual => ?_⟩, ?_⟩
  · have execs : exec (.rampEnd p) s = .next (s.portEntersOn p).transmit := by
      rw [rampEnd_due ramping timer passed, if_neg (Nat.not_lt.mpr high)]
    have discard : (∀ w, s.sweeps.sweep = some w → w.entry.port = p → NotAnalysed s.sweeps.results[p].state ∨
        s.sweeps.results[p].state = .analysing) → ∀ t : State, t.sweeps = s.sweeps →
          t.discardAcquisitions p = { t with sweeps := kept } := fun stages t ht =>
      discardAcquisitions_kept (by rw [ht]; exact own) (by rw [ht]; exact other) (by rw [ht]; exact stages)
    have on_eq : ∀ l e, on l e = onState s p l (poweredOn s p).link e := fun l e => (hon l e).trans (post_eq _ _ _)
    have told : ∀ l e, (on l e).post (some p) (.laneState .training s.lanes[p].state .portOn 0) =
        onState s p l (noted (poweredOn s p).link ⟨some p, s.clock, .laneState .training s.lanes[p].state .portOn 0⟩) e :=
      fun l e => by
        rw [on_eq, post_eq]
        rfl
    have hfirst : trained = firstTraining s p := htrained
    refine ⟨fun a under mine stages => ?_, fun free stages => ?_, fun w free sweep mine stage gap => ?_⟩
    · have discards := discard (fun w h k => notAnalysed_or (stages w h k))
      have keeps : KeptStages s.sweeps kept := by
        have := discardAcquisitions_stages s p
        rwa [discards s rfl] at this
      rw [execs, portEntersOn_eq ramping pending manual (onLane_kept under mine) discards,
        onState_stands (l := { s.lanes[p] with failedRun := 0 }) keeps rfl (fun _ _ _ => .inl (by rw [under]; rfl)), on_eq]
    · have discards := discard (fun w h k => notAnalysed_or ((stages w h).1 k))
      have keeps : KeptStages s.sweeps kept := by
        have := discardAcquisitions_stages s p
        rwa [discards s rfl] at this
      rw [execs, portEntersOn_eq ramping pending manual (onLane_trains free) discards,
        onState_stands (l := firstTraining s p) keeps rfl (fun w h => (stages w h).2), hfirst, told]
    · have discards := discard (fun _ _ _ => .inl (.inr (.inr stage)))
      have hkept := own w sweep mine (.inr (.inr stage))
      have unheld : ∀ a, s.sweeps.acquisition = some a → a.port ≠ p := fun a under => (by rw [free] at under; cases under)
      have results : kept.results[p].state = .suspended := by
        rw [hkept]
        show (upd s.sweeps.results p _)[p].state = _
        rw [upd_same]
        exact stage
      have lane : (onState s p (firstTraining s p) (noted (poweredOn s p).link
          ⟨some p, s.clock, .laneState .training s.lanes[p].state .portOn 0⟩) kept).lanes[p].state = .training := by
        show (upd s.lanes p (fun _ => firstTraining s p))[p].state = _
        rw [upd_same]
        rfl
      have gap' := onState_gapOpen (noted (poweredOn s p).link
        ⟨some p, s.clock, .laneState .training s.lanes[p].state .portOn 0⟩) kept w.entry
        (l := firstTraining s p) (s := s) (p := p) rfl
      rw [execs, portEntersOn_eq ramping pending manual (onLane_trains unheld) discards,
        sweepResume_begins (w := { w with samples := [] }) (p := p) (by rw [onState, hkept]) mine results
          (gap'.trans gap) (by rw [lane]; decide) (by rw [onState, hkept, free]; rfl),
        onState_begins rfl rfl, hfirst, told]
  · rw [rampEnd_due ramping timer passed, if_pos low, openLoad_ramping ramping unclaimed manual, setPowerState_eq, ramping,
      upd_congr s.power p (g := fun w => { w with
        state := .probing
        reason := .openLoad
        presence := .unseen
        overRun := none
        underRun := none
        pulseEndAt := if s.settings.ports[p].probeEnable then some (s.clock + 2000) else none
        probeAt := if s.settings.ports[p].probeEnable then some (s.clock + s.settings.ports[p].probePeriod * 1000) else none
        rampEndAt := none
        cooldownEndAt := none }) (by rw [enter_probing, ramping]; rfl)]
  · intro s p at_ deviations under due on down fresh ended trained hended htrained
    have hfirst : trained = firstTraining s p := by
      rw [htrained, firstTraining]
      simp only [fresh]
    have ended_eq : ∀ l e, ended l e = trainedState s p l e := fun l e => (hended l e).trans (post_eq _ _ _)
    have execs := acquisitionEnd_dropped deviations under due on down fresh
    refine ⟨fun idle queue => ?_, fun w sweep mine => ⟨fun stage => ?_, fun stage => ⟨fun gap => ?_, fun closed => ?_⟩⟩⟩
    · rw [execs, sweepAfterAcquisition_idle (s := keptDown s p) p idle queue, ended_eq, hfirst]
      rfl
    · rw [execs, sweepAfterAcquisition_resumes (s := keptDown s p) sweep mine
        (fun e => by rw [show s.sweeps.results[p].state = .acquiring from e] at stage; cases stage) (keptDown_loud s p),
        sweepResume_stands, ended_eq, hfirst]
      · rfl
      · intro v found suspended
        rw [show s.sweeps.sweep = some v from found] at sweep
        cases sweep
        have own_stage : s.sweeps.results[w.entry.port].state = .calibrating :=
          (congrArg (·.state) (get_congr s.sweeps.results mine)).trans stage
        exact absurd (own_stage.symm.trans suspended) (fun e => (by cases e))
    · rw [execs, keptDown_takes sweep mine stage gap, keptDown_begins, ended_eq, hfirst]
    · rw [execs, keptDown_suspends sweep mine stage closed, ended_eq, hfirst]

end Sys2Proof.Power
end

section
/-!
PROOFS. CELL_RESET rests every block of the cell and keeps the settings, the break table and the clock (O11).
-/

namespace Sys2Proof.Power

open Sys2Proof.Machine Sys2Proof.Safety

/-! ## Ports, lenses, sweeps and the monitor -/

theorem portReset_locked {w : PortPower} (f : PortProfile) (now : Time) (locked : w.state = .locked) :
    w.cellReset f now = { w with presence := .unseen, shedMark := false, overdrawSent := false } := by
  unfold PortPower.cellReset
  rw [if_pos locked]

theorem portReset_off {w : PortPower} (f : PortProfile) (now : Time) (unlocked : w.state ≠ .locked) :
    w.cellReset f now = { w with
      state := .off
      reason := .reset
      presence := .unseen
      overRun := none
      underRun := none
      shedMark := false
      overdrawSent := false
      pulseEndAt := none
      probeAt := none
      rampEndAt := none
      cooldownEndAt := none } := by
  unfold PortPower.cellReset
  rw [if_neg unlocked]
  rfl

theorem sweepDone_sweeps (s : State) (p : Port) : (s.sweepDone p).sweeps = s.sweeps :=
  (sweepDone_changes s p).sweeps (by decide)

/-- The sweep engine at rest, its result records given. -/
def sweepsAtRest (x : SweepEngine) (results : Vector SweepResult 8) : SweepEngine :=
  { x with queue := [], acquisition := none, sweep := none, results := results }

theorem resetSweeps_idle {s : State} (idle : s.sweeps.sweep = none) :
    s.resetSweeps.sweeps = sweepsAtRest s.sweeps s.sweeps.results := by
  unfold State.resetSweeps
  rw [idle]
  rfl

theorem resetSweeps_cancels {s : State} {w : Sweep} (sweep : s.sweeps.sweep = some w) :
    s.resetSweeps.sweeps = sweepsAtRest s.sweeps
      (upd s.sweeps.results w.entry.port (fun r => { r with state := .cancelled, endAt := some s.clock })) := by
  unfold State.resetSweeps
  rw [sweep]
  exact sweepDone_sweeps _ _

theorem cellReset_sweeps (s : State) : s.cellReset.sweeps = s.resetSweeps.sweeps := by
  rw [(cellReset_changes s).sweeps (by decide), portsRested, (resetPorts_changes _).sweeps (by decide)]
  exact (resetPlan_changes _).sweeps (by decide)

/-- The parts that the cell reset of the plan, the sweeps and the ports leave are those that the whole leaves. -/
theorem portsRested_changes (s : State) :
    Changes [.sweeps, .seq, .plan, .power, .lanes, .laneStates, .lenses, .supply] s (portsRested s) :=
  (portsRested_before s).trans (resetPorts_changes _)

theorem cellReset_total (s : State) : Changes [.sweeps, .seq, .plan, .power, .lanes, .laneStates, .lenses, .supply,
    .uplink, .store, .monitor] s s.cellReset :=
  ((portsRested_changes s).trans (cellReset_changes s)).mono (by decide)

/-- The state in which the cell reset has rested every block, before the transmitter looks for what to send. -/
def blocksRested (s : State) : State :=
  ((((portsRested s).setClaims (fun _ => [])).resetUplink).setStore (·.cellReset)).resetMonitor

theorem cellReset_eq (s : State) : s.cellReset = (blocksRested s).uplinkNext := rfl

theorem claimsDropped_changes (s : State) : Changes [.supply] s (s.setClaims (fun _ => [])) := supply_changes _ _

theorem cellReset_monitor (s : State) : s.cellReset.monitor = { s.monitor with
    segment := none, ports := Vector.replicate 8 {}, windowStart := s.clock
    windowEnd := s.clock + s.settings.windowSeconds * 1000000 } := by
  rw [cellReset_eq, (uplinkNext_changes _).monitor (by decide)]
  have before : Changes _ s ((((portsRested s).setClaims (fun _ => [])).resetUplink).setStore (·.cellReset)) :=
    (((portsRested_changes s).trans (claimsDropped_changes _)).trans (resetUplink_changes _)).trans
      (setStore_changes _ (·.cellReset))
  have monitor := before.monitor (by decide)
  have settings := before.settings (by decide)
  have clock := before.clock
  unfold blocksRested
  generalize (((portsRested s).setClaims (fun _ => [])).resetUplink).setStore (·.cellReset) = t at monitor settings clock ⊢
  show ({ t.monitor with
    segment := none, ports := Vector.replicate 8 {}, windowStart := t.clock
    windowEnd := t.clock + t.settings.windowSeconds * 1000000 } : Monitor) = _
  rw [monitor, settings, clock]

/-! ## The transmitter (R114) -/

theorem beginPacket_taken {s : State} (taken : s.uplink.packet.isSome = true) : s.beginPacket = s := by
  unfold State.beginPacket
  rw [taken, Bool.or_true, if_pos rfl]

/-- A wait for a credit that stands goes on. -/
theorem beginPacket_waits {s : State} {t : PendingTrailer} (trailer : s.uplink.trailer = some t)
    (credits : s.uplink.credits = 0) (waiting : s.uplink.waiting = true) : s.beginPacket = s := by
  have waits : s.creditWait = s := by
    unfold State.creditWait
    rw [if_pos waiting]
  unfold State.beginPacket
  rw [trailer]
  exact (ite_congr rfl (fun _ => rfl) (fun _ => (if_pos credits).trans waits)).trans (ite_self s)

theorem sendChoice_nothing {s : State} (regions : s.uplink.regions = []) (queue : s.store.outputQueue = []) :
    s.sendChoice = s := by
  unfold State.sendChoice
  rw [regions, queue]
  split <;> rfl

/-- What beginning a packet keeps where no item is in flight. -/
theorem beginPacket_itemless {s : State} (item : s.uplink.item = none) :
    s.beginPacket.uplink.up = s.uplink.up ∧ s.beginPacket.uplink.item = none ∧
      s.beginPacket.uplink.regions = s.uplink.regions ∧
      s.beginPacket.uplink.regionCounter = s.uplink.regionCounter := by
  have waits : s.creditWait.uplink.up = s.uplink.up ∧ s.creditWait.uplink.item = none ∧
      s.creditWait.uplink.regions = s.uplink.regions ∧ s.creditWait.uplink.regionCounter = s.uplink.regionCounter := by
    unfold State.creditWait
    split
    · exact ⟨rfl, item, rfl, rfl⟩
    · exact ⟨rfl, item, rfl, rfl⟩
  unfold State.beginPacket
  split
  · exact ⟨rfl, item, rfl, rfl⟩
  · split
    · split
      · exact waits
      · exact ⟨rfl, item, rfl, rfl⟩
    · rw [item]
      exact ⟨rfl, item, rfl, rfl⟩

/-- The transmitter of a cell at rest: no item, no region entry and no frame to send. -/
structure NothingToSend (s : State) : Prop where
  item : s.uplink.item = none
  regions : s.uplink.regions = []
  queue : s.store.outputQueue = []

theorem uplinkNext_itemless {s : State} (h : NothingToSend s) : s.uplinkNext.uplink.up = s.uplink.up ∧
    s.uplinkNext.uplink.item = none ∧ s.uplinkNext.uplink.regions = s.uplink.regions ∧
      s.uplinkNext.uplink.regionCounter = s.uplink.regionCounter := by
  unfold State.uplinkNext
  split
  · exact beginPacket_itemless h.item
  · rw [sendChoice_nothing h.regions h.queue]
    exact ⟨rfl, h.item, rfl, rfl⟩

theorem uplinkNext_store {s : State} (h : NothingToSend s) : s.uplinkNext.store = s.store := by
  unfold State.uplinkNext
  split
  · exact (beginPacket_changes s).store (by decide)
  · rw [sendChoice_nothing h.regions h.queue]

/-- With nothing to send the transmitter stands, unless a pending trailer can begin. -/
theorem uplinkNext_stands {s : State} (h : NothingToSend s)
    (held : s.uplink.trailer = none ∨ s.uplink.packet.isSome = true ∨
      (∃ t, s.uplink.trailer = some t) ∧ s.uplink.credits = 0 ∧ s.uplink.waiting = true) : s.uplinkNext = s := by
  unfold State.uplinkNext
  obtain none | taken | ⟨⟨t, trailer⟩, credits, waiting⟩ := held
  · rw [h.item, none, if_neg (by decide)]
    exact sendChoice_nothing h.regions h.queue
  · rw [beginPacket_taken taken, sendChoice_nothing h.regions h.queue, ite_self]
  · rw [beginPacket_waits trailer credits waiting, sendChoice_nothing h.regions h.queue, ite_self]

/-- The link and its credits as a cell reset keeps them, its counts at 0. -/
def linkKept (u : Uplink) : Uplink := { u with item := none, regions := [], regionCounter := 0, counts := {} }

/-- What a cell reset makes of the transmitter, before it looks for what to send. -/
def uplinkReset (s : State) : Uplink :=
  match s.uplink.item with
  | none => linkKept s.uplink
  | some i => { linkKept s.uplink with
    trailer := s.trailerOf i, packet := s.uplink.packet.map (fun p => { p with kind := .orphan }) }

theorem uplinkReset_idle {s : State} (item : s.uplink.item = none) : uplinkReset s = linkKept s.uplink := by
  unfold uplinkReset
  rw [item]

theorem uplinkReset_flight {s : State} {i : Item} (item : s.uplink.item = some i) :
    uplinkReset s = { linkKept s.uplink with
      trailer := s.trailerOf i, packet := s.uplink.packet.map (fun p => { p with kind := .orphan }) } := by
  unfold uplinkReset
  rw [item]

theorem resetUplink_uplink (s : State) : s.resetUplink.uplink = uplinkReset s := by
  unfold State.resetUplink
  split
  · next item =>
    rw [uplinkReset_idle item, linkKept, ← item]
    rfl
  · next i item =>
    rw [uplinkReset_flight item]
    rfl

theorem uplinkReset_congr {s t : State} (uplink : t.uplink = s.uplink) (store : t.store = s.store) :
    uplinkReset t = uplinkReset s := by
  unfold uplinkReset State.trailerOf
  rw [uplink, store]

theorem uplinkReset_kept (s : State) : (uplinkReset s).up = s.uplink.up ∧ (uplinkReset s).item = none ∧
    (uplinkReset s).regions = [] ∧ (uplinkReset s).regionCounter = 0 := by
  unfold uplinkReset
  split <;> exact ⟨rfl, rfl, rfl, rfl⟩

theorem blocksRested_uplink (s : State) : (blocksRested s).uplink = uplinkReset s := by
  have before := (portsRested_changes s).trans (claimsDropped_changes _)
  rw [blocksRested, (resetMonitor_changes _).uplink (by decide), (setStore_changes _ _).uplink (by decide),
    resetUplink_uplink]
  exact uplinkReset_congr (before.uplink (by decide)) (before.store (by decide))

theorem blocksRested_store (s : State) : (blocksRested s).store = { idCounter := s.store.idCounter } := by
  have before := ((portsRested_changes s).trans (claimsDropped_changes _)).trans (resetUplink_changes _)
  rw [blocksRested, (resetMonitor_changes _).store (by decide)]
  show Store.cellReset ((portsRested s).setClaims (fun _ => [])).resetUplink.store = _
  rw [before.store (by decide)]
  rfl

theorem blocksRested_silent (s : State) : NothingToSend (blocksRested s) := by
  obtain ⟨-, item, regions, -⟩ := uplinkReset_kept s
  constructor
  · rw [blocksRested_uplink, item]
  · rw [blocksRested_uplink, regions]
  · rw [blocksRested_store]

theorem cellReset_store (s : State) : s.cellReset.store = { idCounter := s.store.idCounter } := by
  rw [cellReset_eq, uplinkNext_store (blocksRested_silent s), blocksRested_store]

theorem cellReset_uplink_kept (s : State) : s.cellReset.uplink.up = s.uplink.up ∧ s.cellReset.uplink.item = none ∧
    s.cellReset.uplink.regions = [] ∧ s.cellReset.uplink.regionCounter = 0 := by
  obtain ⟨up, item, regions, counter⟩ := uplinkNext_itemless (blocksRested_silent s)
  obtain ⟨reset_up, -, reset_regions, reset_counter⟩ := uplinkReset_kept s
  rw [blocksRested_uplink] at up regions counter
  rw [cellReset_eq]
  exact ⟨up.trans reset_up, item, regions.trans reset_regions, counter.trans reset_counter⟩

theorem cellReset_uplink {s : State} (held : (uplinkReset s).trailer = none ∨ (uplinkReset s).packet.isSome = true ∨
    (∃ t, (uplinkReset s).trailer = some t) ∧ (uplinkReset s).credits = 0 ∧ (uplinkReset s).waiting = true) :
    s.cellReset.uplink = uplinkReset s := by
  rw [← blocksRested_uplink] at held ⊢
  rw [cellReset_eq, uplinkNext_stands (blocksRested_silent s) held]

/-- The pixels of a LINE packet are read back from its bytes. -/
theorem linePixels_packet (id number : Nat) (pixels : List Byte) :
    linePixels (withCrc16 (0xC2 :: (num4 id ++ num2 number ++ pixels))) = pixels := by
  generalize e : (crc16 (0xC2 :: (num4 id ++ num2 number ++ pixels))).toNat = check
  have bytes : withCrc16 (0xC2 :: (num4 id ++ num2 number ++ pixels)) =
      (0xC2 :: (num4 id ++ num2 number)) ++ (pixels ++ num2 check) := by
    rw [withCrc16, e]
    simp
  have head : (0xC2 :: (num4 id ++ num2 number) : List Byte).length = 7 := by simp
  have pixelCount : ((0xC2 :: (num4 id ++ num2 number)) ++ (pixels ++ num2 check) : List Byte).length - 9 =
      pixels.length := by
    rw [List.length_append, head, List.length_append, num2_length]
    omega
  rw [linePixels, bytes, pixelCount, List.drop_left' head, List.take_left' rfl]

theorem withPacket_line {i : Item} {packet : Packet} {number : Nat} {pixels : List Byte} (line : packet.kind = .line)
    (bytes : packet.bytes = withCrc16 (0xC2 :: (num4 i.frame ++ num2 number ++ pixels))) :
    i.withPacket (some packet) = { i with sent := i.sent + 1, crc := crc32Feed i.crc pixels } := by
  rw [← linePixels_packet i.frame number pixels, ← bytes]
  obtain ⟨kind, held⟩ := packet
  cases line
  rfl

theorem withPacket_header {i : Item} {packet : Packet} (header : packet.kind = .header) :
    i.withPacket (some packet) = i := by
  obtain ⟨kind, held⟩ := packet
  cases header
  rfl

/-- What the cell reset leaves of a result record. -/
theorem cellReset_results (s : State) (p : Port) :
    (∀ w, s.sweeps.sweep = some w → w.entry.port = p → s.cellReset.sweeps.results[p] =
      { s.sweeps.results[p] with state := .cancelled, endAt := some s.clock }) ∧
    ((∀ w, s.sweeps.sweep = some w → w.entry.port ≠ p) → s.cellReset.sweeps.results[p] = s.sweeps.results[p]) := by
  rw [cellReset_sweeps]
  refine ⟨?_, fun others => ?_⟩
  · rintro w sweep rfl
    rw [resetSweeps_cancels sweep]
    exact upd_same _ _ _
  · cases sweep : s.sweeps.sweep with
    | none => rw [resetSweeps_idle sweep, sweepsAtRest]
    | some w =>
      rw [resetSweeps_cancels sweep]
      exact upd_other _ _ (others w sweep).symm

theorem cellReset_sweepEngine (s : State) : s.cellReset.sweeps.queue = [] ∧ s.cellReset.sweeps.sweep = none ∧
    s.cellReset.sweeps.acquisition = none ∧ s.cellReset.sweeps.counter = s.sweeps.counter := by
  rw [cellReset_sweeps]
  cases sweep : s.sweeps.sweep with
  | none => rw [resetSweeps_idle sweep]; exact ⟨rfl, rfl, rfl, rfl⟩
  | some w => rw [resetSweeps_cancels sweep]; exact ⟨rfl, rfl, rfl, rfl⟩

/-- The link of a state that only posted notices, once the request in service is answered OK. -/
theorem answered_posted {s t : State} {F : List Part} {kind tag : Byte} {body : List Byte}
    (h : Serves s kind tag body) (changes : Changes F s t) :
    ∃ posted : List Notice, (t.reply .ok).link.requests = s.link.requests ∧ (t.reply .ok).link.answered = true ∧
      (t.reply .ok).link.sending = s.link.sending ∧
      (t.reply .ok).link.replies = s.link.replies ++ [⟨false, kind, tag, .ok, []⟩] ∧
      (∀ n ∈ posted, n.time = s.clock) ∧
      (t.reply .ok).link.notices = s.link.notices ++ posted.take (32 - s.link.notices.length) ∧
      (t.reply .ok).link.counts.served = sat32 s.link.counts.served := by
  obtain ⟨-, rest, requests⟩ := Serves.head h
  obtain ⟨posted, now, link⟩ := changes.link
  have queued : t.link.requests = ⟨kind, tag, body⟩ :: rest := link.requests.trans requests
  show ∃ posted : List Notice, (t.link.answer .ok []).requests = _ ∧ (t.link.answer .ok []).answered = true ∧
    (t.link.answer .ok []).sending = _ ∧ (t.link.answer .ok []).replies = _ ∧ (∀ n ∈ posted, n.time = s.clock) ∧
    (t.link.answer .ok []).notices = _ ∧ (t.link.answer .ok []).counts.served = _
  unfold Link.answer
  split
  · next empty =>
    rw [empty] at queued
    cases queued
  · next found =>
    rw [queued] at found
    cases found
    exact ⟨posted, link.requests, rfl, link.sending, congrArg (· ++ _) link.replies, now, link.notices,
      congrArg sat32 link.served⟩

theorem cellReset_uplink_idle {s : State} (idle : s.uplink.item = none) (trailer : s.uplink.trailer = none) :
    s.cellReset.uplink = linkKept s.uplink := by
  have reset := uplinkReset_idle idle
  exact (cellReset_uplink (.inl (by rw [reset]; exact trailer))).trans reset

/-- With an item in flight and no packet under way, the transmitter keeps the wait for a credit, its trailer pending. -/
theorem cellReset_uplink_unsent {s : State} {i : Item} (item : s.uplink.item = some i) (packet : s.uplink.packet = none)
    (waiting : s.uplink.waiting = true) (credits : s.uplink.credits = 0) :
    s.cellReset.uplink = { linkKept s.uplink with
      trailer := some ⟨i.frame, s.store.abortedFlags i.frame, i.sent, i.crc⟩ } := by
  have reset : uplinkReset s = { linkKept s.uplink with
      trailer := some ⟨i.frame, s.store.abortedFlags i.frame, i.sent, i.crc⟩ } := by
    rw [uplinkReset_flight item, State.trailerOf, packet, linkKept, packet]
    rfl
  rw [cellReset_uplink, reset]
  rw [reset]
  exact .inr (.inr ⟨⟨_, rfl⟩, credits, waiting⟩)

/-- With an item in flight and its packet under way, the packet is then no item's. -/
theorem cellReset_uplink_sending {s : State} {i : Item} {packet : Packet} (item : s.uplink.item = some i)
    (under : s.uplink.packet = some packet) : s.cellReset.uplink = { linkKept s.uplink with
      packet := some { packet with kind := .orphan }, trailer := s.trailerOf i } := by
  have reset : uplinkReset s = { linkKept s.uplink with
      packet := some { packet with kind := .orphan }, trailer := s.trailerOf i } := by
    rw [uplinkReset_flight item, under]
    rfl
  rw [cellReset_uplink, reset]
  rw [reset]
  exact .inr (.inl rfl)

theorem abortedFlags_found {t : Store} {id : Nat} {f : FrameRecord} (found : t.frame? id = some f) :
    t.abortedFlags id = { f.flags with aborted := true } := by
  unfold Store.abortedFlags
  rw [found]

/-- The trailer that a cell reset leaves pending for an item, unless the packet under way is its TRAILER. -/
theorem trailerOf_sending {s : State} {i : Item} {packet : Packet} (under : s.uplink.packet = some packet)
    (other : packet.kind ≠ .trailer) : s.trailerOf i = some ⟨i.frame, s.store.abortedFlags i.frame,
      (i.withPacket (some packet)).sent, (i.withPacket (some packet)).crc⟩ := by
  unfold State.trailerOf
  rw [under, if_neg (by simpa using other)]

theorem trailerOf_trailer {s : State} (i : Item) {packet : Packet} (under : s.uplink.packet = some packet)
    (kind : packet.kind = .trailer) : s.trailerOf i = none := by
  unfold State.trailerOf
  rw [under, if_pos (by simpa using kind)]

/-! ## The obligation -/

/-- Settles O11: each block by its own reset, and the transmitter by what it is left with. -/
theorem cellResetRestsTheCell : Obligations.CellResetRestsTheCell := by
  intro s tag h
  have exec_eq : exec .cellReset s = .next (s.cellReset.reply .ok).transmit :=
    serve_owner h rfl (fun _ s => s.cellReset.reply .ok)
  have total := cellReset_total s
  have power := cellReset_power s
  have lanes := cellReset_lanes s
  have lenses := cellReset_lenses s
  have supply := cellReset_supply s
  have seq := cellReset_seq s
  have store := cellReset_store s
  have monitor := cellReset_monitor s
  have results := cellReset_results s
  obtain ⟨up, item, regions, counter⟩ := cellReset_uplink_kept s
  obtain ⟨queue, sweep, acquisition, sweepCounter⟩ := cellReset_sweepEngine s
  have idle := cellReset_uplink_idle (s := s)
  have unsent := @cellReset_uplink_unsent s
  have sending := @cellReset_uplink_sending s
  generalize s.cellReset = t at *
  obtain ⟨posted, link⟩ := answered_posted h total
  refine ⟨(t.reply .ok).transmit, exec_eq, fun p => ⟨fun locked => ?_, fun unlocked => ?_,
    lanes p, lenses p, ?_⟩, supply, seq, store,
    congrArg (·.segment) monitor, congrArg (·.windowStart) monitor, congrArg (·.windowEnd) monitor, queue, sweep,
    acquisition, sweepCounter, results, ⟨(t.reply .ok).link, posted, rfl, link⟩, up, item, regions,
    counter, ?_, total.settings (by decide), total.clock, total.table (by decide), total.dram (by decide),
    total.profile, total.pending⟩
  · exact (power p).trans (portReset_locked _ _ locked)
  · exact (power p).trans (portReset_off _ _ unlocked)
  · show t.monitor.ports[p] = _
    rw [monitor]
    simp
  · rintro kept flags rfl
    refine ⟨idle, fun i f flight found aborted => ?_⟩
    · rw [← abortedFlags_found found] at aborted
      subst aborted
      refine ⟨unsent flight, fun packet under => ?_⟩
      have sending := sending flight under
      refine ⟨fun header => ?_, fun number pixels line bytes => ?_, fun trailer => ?_⟩
      · rw [trailerOf_sending under (by rw [header]; decide)] at sending
        rw [withPacket_header header] at sending
        exact sending
      · rw [trailerOf_sending under (by rw [line]; decide)] at sending
        rw [withPacket_line line bytes] at sending
        exact sending
      · rw [trailerOf_trailer i under trailer] at sending
        exact sending

end Sys2Proof.Power
end

section
/-!
PROOFS. NRESET and POWER_ON_RESET put every block at its reset values and start the part (O10).
-/

namespace Sys2Proof.Power

open Sys2Proof.Machine Sys2Proof.Safety

/-! ## The claims raised at start-up (R29, R183 step 2) -/

/-- A part just booted: nothing is powered, claimed or posted, and the clock stands at 0. -/
structure AtBoot (b : State) : Prop where
  clock : b.clock = 0
  supply : b.supply = {}
  link : b.link = {}
  power : ∀ q : Port, b.power[q] = {}
  committed : b.committed = 0

/-- The PORT_STATE notice of a port that enters a power state at start-up. -/
abbrev startNotice (new : PowerState) (p : Port) : Notice := ⟨some p, 0, .portState .state new .off .reset⟩

abbrev rampAtStart : PortPower := { ({} : PortPower) with state := .ramping, rampEndAt := some 20000 }

abbrev waitAtStart : PortPower := { ({} : PortPower) with state := .waiting }

/-- The claim of a port raised at start-up. -/
abbrev startClaim (b : State) (p : Port) : Claim :=
  ⟨p, .power, b.settings.ports[p].baseReservation, b.settings.ports[p].priority, 0⟩

/-- The sum of the base reservations of some ports. -/
abbrev basesOf (b : State) (ps : List Port) : Nat := (ps.map (fun p => b.settings.ports[p].baseReservation)).sum

/-- The state `t` reached from the booted `b` when the claims of the ports `granted` were granted and those of `waiting`
wait. -/
structure Started (b t : State) (granted waiting : List Port) : Prop where
  changes : Changes [.power, .supply] b t
  link : t.link = { b.link with notices := granted.map (startNotice .ramping) ++ waiting.map (startNotice .waiting) }
  supply : t.supply = { b.supply with claims := waiting.map (startClaim b) }
  ramping : ∀ q ∈ granted, t.power[q] = rampAtStart
  held : ∀ q ∈ waiting, t.power[q] = waitAtStart
  others : ∀ q, q ∉ granted → q ∉ waiting → t.power[q] = {}
  committed : t.committed = basesOf b granted
  fits : basesOf b granted ≤ b.settings.capacity
  full : ∀ p rest, waiting = p :: rest → b.settings.capacity < basesOf b granted + b.settings.ports[p].baseReservation

theorem AtBoot.started {b : State} (boot : AtBoot b) : Started b b [] [] where
  changes := (Changes.refl b).mono (by simp)
  link := by rw [boot.link]; rfl
  supply := by rw [boot.supply]; rfl
  ramping q h := absurd h List.not_mem_nil
  held q h := absurd h List.not_mem_nil
  others q _ _ := boot.power q
  committed := boot.committed
  fits := Nat.zero_le _
  full p rest h := by cases h

/-- A port that enters a power state from the reset values posts its notice. -/
theorem setPowerState_link {s : State} {p : Port} (new : PowerState) (rest : s.power[p] = {}) (clock : s.clock = 0)
    (room : s.link.notices.length < 32) : (s.setPowerState p new .reset).link =
      { s.link with notices := s.link.notices ++ [startNotice new p] } := by
  rw [setPowerState_eq, post_eq, rest]
  show noted s.link ⟨some p, s.clock, .portState .state new .off .reset⟩ = _
  rw [clock, noted, if_pos room]

theorem Started.settings {b t : State} {granted waiting : List Port} (h : Started b t granted waiting) :
    t.settings = b.settings := h.changes.settings (by decide)

/-- The next claim is granted while it fits and none waits. -/
theorem Started.grant {b t : State} {granted : List Port} {p : Port} (boot : AtBoot b) (h : Started b t granted [])
    (fresh : p ∉ granted) (few : granted.length < 32)
    (fits : basesOf b granted + b.settings.ports[p].baseReservation ≤ b.settings.capacity) :
    Started b (t.raisePowerClaim p) (granted ++ [p]) [] := by
  have rest : t.power[p] = {} := h.others p fresh List.not_mem_nil
  have claims : t.supply.claims = [] := congrArg (·.claims) h.supply
  have clock : t.clock = 0 := h.changes.clock.trans boot.clock
  have normal : t.supply.low = none := by rw [h.supply, boot.supply]
  have atOnce : GrantedAtOnce t p := by
    refine ⟨fun d hd => ?_, fun d hd => ?_, normal, ?_⟩
    · rw [claims] at hd; cases hd
    · rw [claims] at hd; cases hd
    · rw [h.committed, h.settings]; exact fits
  have raised : t.raisePowerClaim p = t.setPowerState p .ramping .reset := by
    rw [raise_grants atOnce (by rw [rest]; rfl), rest]
  have changes := setPowerState_changes t p .ramping .reset
  have entered : (t.setPowerState p .ramping .reset).power[p] = rampAtStart := by
    rw [setPowerState_at, rest, clock]
    rfl
  have sum : basesOf b (granted ++ [p]) = basesOf b granted + b.settings.ports[p].baseReservation := by
    rw [basesOf, List.map_append, List.sum_append]
    rfl
  rw [raised]
  constructor
  case changes => exact h.changes.step (changes.mono (by decide))
  case link =>
    rw [setPowerState_link .ramping rest clock (by rw [h.link]; simpa using few), h.link]
    simp
  case supply => rw [changes.supply (by decide), h.supply]
  case ramping =>
    intro q hq
    by_cases e : q = p
    · rw [e, entered]
    · rw [setPowerState_other t _ _ e]
      exact h.ramping q ((List.mem_append.mp hq).resolve_right (by simpa using e))
  case held => exact fun q hq => absurd hq List.not_mem_nil
  case others =>
    intro q hg hw
    rw [List.mem_append, List.mem_singleton, not_or] at hg
    rw [setPowerState_other t _ _ hg.2]
    exact h.others q hg.1 hw
  case committed =>
    rw [setPowerState_committed _ (by rw [rest]; rfl) rfl, h.committed, sum, State.profileOf, h.settings]
  case fits => rw [sum]; exact fits
  case full => intro _ _ e; cases e

/-- A claim of no higher priority than any on the list joins it at its end (R20). -/
theorem insertClaim_last {c : Claim} : ∀ {cs : List Claim}, (∀ d ∈ cs, c.priority ≤ d.priority) →
    insertClaim c cs = cs ++ [c]
  | [], _ => rfl
  | d :: cs, h => by
    rw [insertClaim, if_pos (h d List.mem_cons_self), insertClaim_last (fun e he => h e (List.mem_cons_of_mem _ he))]
    rfl

/-- The committed sum reads of a power state only whether it is reserved. -/
theorem committed_reserved {s t : State} (hports : t.settings.ports = s.settings.ports)
    (hbase : ∀ q : Port, t.power[q].state.reserved = s.power[q].state.reserved)
    (hsurge : ∀ q : Port, t.lenses[q].claim = s.lenses[q].claim)
    (hplan : t.seq.plan = s.seq.plan) (hstate : t.seq.state = s.seq.state) : t.committed = s.committed := by
  apply Nat.le_antisymm
  · exact committed_le hports (fun q => by rw [hbase]; exact id) (fun q => by rw [hsurge]; exact id)
      (Nat.le_of_eq (strobePart_congr hplan hstate hports))
  · exact committed_le hports.symm (fun q => by rw [hbase]; exact id) (fun q => by rw [hsurge]; exact id)
      (Nat.le_of_eq (strobePart_congr hplan hstate hports).symm)

/-- The next claim waits behind those that wait, or because it does not fit. -/
theorem Started.wait {b t : State} {granted waiting : List Port} {p : Port} (boot : AtBoot b)
    (h : Started b t granted waiting) (fresh : p ∉ granted) (unraised : p ∉ waiting)
    (few : granted.length + waiting.length < 32)
    (last : ∀ q ∈ waiting, b.settings.ports[p].priority ≤ b.settings.ports[q].priority)
    (full : waiting = [] → b.settings.capacity < basesOf b granted + b.settings.ports[p].baseReservation) :
    Started b (t.raisePowerClaim p) granted (waiting ++ [p]) := by
  have rest : t.power[p] = {} := h.others p fresh unraised
  have clock : t.clock = 0 := h.changes.clock.trans boot.clock
  have own : claimOf t p = startClaim b p := by rw [claimOf, h.settings, clock]
  have claims : t.supply.claims = waiting.map (startClaim b) := congrArg (·.claims) h.supply
  have joined : insertClaim (claimOf t p) t.supply.claims = (waiting ++ [p]).map (startClaim b) := by
    rw [own, claims, insertClaim_last, List.map_append]
    · rfl
    · intro d hd
      obtain ⟨q, hq, rfl⟩ := List.mem_map.mp hd
      exact last q hq
  have full' : ∀ q others, waiting ++ [p] = q :: others →
      b.settings.capacity < basesOf b granted + b.settings.ports[q].baseReservation := by
    intro q others e
    cases hw : waiting with
    | nil =>
      rw [hw] at e
      cases e
      exact full hw
    | cons r tail =>
      rw [hw] at e
      cases e
      exact h.full _ _ hw
  have blocked : Blocked t p := by
    refine .inr ?_
    rw [joined, h.committed, h.settings]
    cases e : waiting ++ [p] with
    | nil => simp at e
    | cons q others => exact ⟨startClaim b q, rfl, full' q others e⟩
  have raised := raise_waits blocked
  rw [rest, joined] at raised
  generalize hu : ({ t with supply := { t.supply with claims := (waiting ++ [p]).map (startClaim b) } } : State) = u
    at raised
  have u_changes : Changes [.supply] t u := by rw [← hu]; exact supply_changes _ _
  have u_power : u.power = t.power := u_changes.power (by decide)
  have u_link : u.link = t.link := by rw [← hu]
  have changes := setPowerState_changes u p .waiting .reset
  have entered : (u.setPowerState p .waiting .reset).power[p] = waitAtStart := by
    rw [setPowerState_at, u_power, rest]
    rfl
  rw [raised]
  constructor
  case changes => exact (h.changes.step (u_changes.mono (by decide))).step (changes.mono (by decide))
  case link =>
    rw [setPowerState_link .waiting (by rw [u_power]; exact rest) (u_changes.clock.trans clock)
      (by rw [u_link, h.link]; simpa using few), u_link, h.link]
    simp
  case supply => rw [changes.supply (by decide), ← hu, h.supply]
  case ramping =>
    intro q hq
    rw [setPowerState_other u _ _ (fun e : q = p => fresh (e ▸ hq)), u_power]
    exact h.ramping q hq
  case held =>
    intro q hq
    by_cases e : q = p
    · rw [e, entered]
    · rw [setPowerState_other u _ _ e, u_power]
      exact h.held q ((List.mem_append.mp hq).resolve_right (by simpa using e))
  case others =>
    intro q hg hw
    rw [List.mem_append, List.mem_singleton, not_or] at hw
    rw [setPowerState_other u _ _ hw.2, u_power]
    exact h.others q hg hw.1
  case committed =>
    rw [← h.committed]
    have whole : Changes [.power, .supply] t (u.setPowerState p .waiting .reset) :=
      (u_changes.mono (by decide)).step (changes.mono (by decide))
    have reserved : ∀ q : Port, (u.setPowerState p .waiting .reset).power[q].state.reserved = t.power[q].state.reserved := by
      intro q
      by_cases e : q = p
      · rw [e, entered, rest]
        rfl
      · rw [setPowerState_other u _ _ e, u_power]
    exact committed_reserved (whole.profiles (by decide)).1 reserved (fun q => by rw [whole.lenses (by decide)])
      (whole.plan (by decide)).1 (whole.plan (by decide)).2
  case fits => exact h.fits
  case full => exact full'

/-- The claims raised in an order of falling priority are granted up to one that does not fit, and wait from it on. -/
theorem Started.raises {b : State} (boot : AtBoot b) : ∀ (ps : List Port) {t : State} {granted waiting : List Port},
    Started b t granted waiting → (granted ++ waiting ++ ps).Nodup →
    (waiting ++ ps).Pairwise (fun p q => b.settings.ports[q].priority ≤ b.settings.ports[p].priority) →
    ∃ g w, granted ++ waiting ++ ps = g ++ w ∧ Started b (State.forPorts (fun p t => t.raisePowerClaim p) ps t) g w
  | [], t, granted, waiting, h, _, _ => ⟨granted, waiting, List.append_nil _, h⟩
  | p :: ps, t, granted, waiting, h, once, falling => by
    have few : granted.length + waiting.length < 32 := by
      have := once.length_le_card
      simp only [List.length_append, List.length_cons, Fintype.card_fin] at this
      omega
    obtain ⟨fresh, unraised⟩ : p ∉ granted ∧ p ∉ waiting := by
      have := List.disjoint_of_nodup_append once
      simpa using fun m => this m List.mem_cons_self
    have last : ∀ q ∈ waiting, b.settings.ports[p].priority ≤ b.settings.ports[q].priority :=
      fun q hq => (List.pairwise_append.mp falling).2.2 q hq p List.mem_cons_self
    have waits := fun full => Started.raises boot ps (h.wait boot fresh unraised few last full)
      (by simpa using once) (by simpa using falling)
    by_cases fits : waiting = [] ∧ basesOf b granted + b.settings.ports[p].baseReservation ≤ b.settings.capacity
    · obtain ⟨rfl, fits⟩ := fits
      have := Started.raises boot ps (h.grant boot fresh (by simpa using few) fits) (by simpa using once)
        (List.pairwise_cons.mp (by simpa using falling)).2
      simpa [State.forPorts] using this
    · have := waits (fun e => Nat.lt_of_not_le (fun k => fits ⟨e, k⟩))
      simpa [State.forPorts] using this

/-! ## The order of start-up (R29) -/

/-- A port comes before another by its higher priority, or by its lower number. -/
abbrev Before (x : Settings) (p q : Port) : Prop :=
  x.ports[q].priority < x.ports[p].priority ∨ (x.ports[p].priority = x.ports[q].priority ∧ p < q)

theorem portsWhere_sorted (f : Port → Bool) : (portsWhere f).Pairwise (· < ·) :=
  List.Pairwise.filter _ (show allPorts.Pairwise (· < ·) by decide)

theorem byPriority_sorted (s : State) (f : Port → Bool) : (s.byPriority f).Pairwise (Before s.settings) := by
  have marked : ∀ (k : Nat) (p : Port), p ∈ portsWhere (fun p => f p && (s.profileOf p).priority = k) →
      s.settings.ports[p].priority = k := by
    intro k p hp
    have both := mem_portsWhere.mp hp
    rw [Bool.and_eq_true, decide_eq_true_eq] at both
    exact both.2
  refine List.pairwise_flatMap.mpr ⟨fun k _ => ?_, ?_⟩
  · refine (portsWhere_sorted _).imp_of_mem (fun hp hq less => .inr ⟨?_, less⟩)
    rw [marked k _ hp, marked k _ hq]
  · refine List.Pairwise.imp ?_ (show ([3, 2, 1, 0] : List Nat).Pairwise (· > ·) by decide)
    intro a b higher p hp q hq
    refine .inl ?_
    rw [marked a p hp, marked b q hq]
    exact higher

theorem mem_byPriority_iff {s : State} {f : Port → Bool} {p : Port} :
    p ∈ s.byPriority f ↔ f p = true ∧ s.settings.ports[p].priority ≤ 3 := by
  refine ⟨fun h => ⟨mem_byPriority h, ?_⟩, fun h => mem_byPriority_of h.1 h.2⟩
  obtain ⟨k, hk, hp⟩ := List.mem_flatMap.mp h
  have both := mem_portsWhere.mp hp
  rw [Bool.and_eq_true, decide_eq_true_eq] at both
  have level : s.settings.ports[p].priority = k := both.2
  simp only [List.mem_cons, List.not_mem_nil, or_false] at hk
  omega

/-- A list of the marked ports in order of priority and then of number is the list by priority. -/
theorem byPriority_unique {s : State} {f : Port → Bool} {order : List Port}
    (members : ∀ p, p ∈ order ↔ f p = true ∧ s.settings.ports[p].priority ≤ 3)
    (sorted : order.Pairwise (Before s.settings)) : order = s.byPriority f := by
  have once : order.Nodup := sorted.imp (fun {p q} h e => by subst e; simp [Before] at h)
  refine List.Perm.eq_of_pairwise (fun p q _ _ h k => ?_) sorted (byPriority_sorted s f)
    ((List.perm_ext_iff_of_nodup once (byPriority_nodup s f)).mpr
      (fun p => (members p).trans mem_byPriority_iff.symm))
  exfalso
  rcases h with h | ⟨h, less⟩
  · rcases k with k | ⟨k, -⟩ <;> omega
  · rcases k with k | ⟨k, more⟩
    · omega
    · exact absurd less (Nat.lt_asymm more)

/-! ## The booted part (R183 step 1) -/

theorem lensesFromKinds_eq : ∀ (ps : List Port) (s : State), State.forPorts State.lensFromKind ps s =
    { s with lenses := (State.forPorts State.lensFromKind ps s).lenses }
  | [], _ => rfl
  | p :: ps, s => by
    show State.forPorts State.lensFromKind ps (State.lensFromKind p s) = _
    rw [lensesFromKinds_eq ps (State.lensFromKind p s)]
    rfl

theorem booted_eq (s : State) : booted s = { s.rebooted.loadProfile with
    lenses := (booted s).lenses
    monitor := { s.rebooted.loadProfile.monitor with
      windowStart := s.rebooted.loadProfile.clock
      windowEnd := s.rebooted.loadProfile.clock + s.rebooted.loadProfile.settings.windowSeconds * 1000000 } } := by
  unfold booted
  rw [lensesFromKinds_eq]
  rfl

theorem booted_committed (s : State) : (booted s).committed = 0 := by
  have base : (booted s).basePart = 0 :=
    (sumPorts_congr (g := fun _ => 0) (fun q => by rw [booted_power]; rfl)).trans (by decide)
  have surge : (booted s).surgePart = 0 :=
    (sumPorts_congr (g := fun _ => 0) (fun q => by rw [booted_lenses]; rfl)).trans (by decide)
  have strobe : (booted s).strobePart = 0 := by
    unfold State.strobePart
    rw [booted_seq]
    rfl
  rw [State.committed, base, surge, strobe]

/-- The part with a valid image loaded. -/
theorem loadProfile_image {s : State} {image : Settings} (valid : s.profile.image = some image)
    (idle : s.profile.write = none) : s.rebooted.loadProfile = { s.rebooted with
      settings := image, profile := { image := some image, write := none, origin := .profile } } := by
  have stored : s.rebooted.profile = { image := some image } := by
    unfold State.rebooted
    rw [idle, valid]
    rfl
  unfold State.loadProfile
  rw [stored]

/-- The factory start of a part with no valid image, before READY. -/
def factoryStart (s : State) : State :=
  ({ State.reset with dram := s.dram, freeCount := s.freeCount + 1, pending := s.pending }).post none
    (.profile .defaults (s.freeBelow 18446744073709551616) .invalid)

theorem loadProfile_defaults {s : State} (invalid : s.profile.image = none ∨ s.profile.write.isSome = true) :
    s.rebooted.loadProfile = factoryStart s := by
  have stored : s.rebooted = { State.reset with dram := s.dram, freeCount := s.freeCount, pending := s.pending } := by
    have none_image : (if s.profile.write.isSome then none else s.profile.image) = none := by
      split
      · rfl
      · next idle => exact invalid.resolve_right idle
    rw [State.rebooted, none_image]
    rfl
  rw [stored, factoryStart, post_eq]
  unfold State.loadProfile
  rw [post_eq]
  rfl

/-- With the factory defaults every block already stands as the start-up leaves it. -/
theorem booted_factory {s : State} (loaded : s.rebooted.loadProfile = factoryStart s) : booted s = factoryStart s := by
  have lenses : (booted s).lenses = (factoryStart s).lenses := by
    refine Vector.ext (fun i small => ?_)
    have reset : (factoryStart s).lenses[i] = {} := by
      rw [factoryStart, (post_changes _ _ _).lenses (by decide)]
      show (Vector.replicate 8 ({} : Lens))[i] = {}
      simp
    have kind : (s.rebooted.loadProfile.profileOf ⟨i, small⟩).lensKind = .none := by
      rw [loaded, State.profileOf, factoryStart, (post_changes _ _ _).settings (by decide)]
      show (Vector.replicate 8 ({} : PortProfile))[i].lensKind = .none
      simp
    refine (booted_lenses s ⟨i, small⟩).trans (Eq.trans ?_ reset.symm)
    rw [if_pos kind]
  have monitor : ({ (factoryStart s).monitor with
      windowStart := (factoryStart s).clock
      windowEnd := (factoryStart s).clock + (factoryStart s).settings.windowSeconds * 1000000 } : Monitor) =
      (factoryStart s).monitor := by
    rw [factoryStart, (post_changes _ _ _).monitor (by decide), (post_changes _ _ _).clock,
      (post_changes _ _ _).settings (by decide)]
    exact congrArg (fun e : Time => ({ windowEnd := e } : Monitor)) (show 0 + 10 * 1000000 = 10000000 by decide)
  rw [booted_eq, lenses, loaded, monitor]

theorem startUp_factory {s : State} (invalid : s.profile.image = none ∨ s.profile.write.isSome = true) :
    s.startUp = (factoryStart s).post none (.ready .defaults .invalid) := by
  have boots := booted_factory (loadProfile_defaults invalid)
  have none_raised : (booted s).byPriority (fun p => ((booted s).profileOf p).autoPower) = [] := by
    refine byPriority_none (fun p => ?_)
    rw [boots, State.profileOf, factoryStart, (post_changes _ _ _).settings (by decide)]
    show (Vector.replicate 8 ({} : PortProfile))[p].autoPower = false
    simp
  have profile : (factoryStart s).profile = {} := (post_changes _ _ _).profile
  rw [startUp_eq, State.autoPower, none_raised]
  show (booted s).post none (.ready (booted s).profile.origin (booted s).profile.imageState) = _
  rw [boots, profile]
  rfl

/-- What a part with a valid image is before it raises any claim. -/
def imageStart (s : State) (image : Settings) (lenses : Vector Lens 8) (windowEnd : Time) : State := { State.reset with
  settings := image
  profile := { image := some image, write := none, origin := .profile }
  lenses := lenses
  monitor := { ({} : Monitor) with windowEnd := windowEnd }
  dram := s.dram
  freeCount := s.freeCount
  pending := s.pending }

theorem booted_image {s : State} {image : Settings} (loaded : s.rebooted.loadProfile = { s.rebooted with
    settings := image, profile := { image := some image, write := none, origin := .profile } }) :
    booted s = imageStart s image (booted s).lenses (image.windowSeconds * 1000000) := by
  refine (booted_eq s).trans ?_
  rw [loaded]
  exact congrArg (imageStart s image (booted s).lenses) (Nat.zero_add (image.windowSeconds * 1000000))

theorem booted_atBoot {s : State} {image : Settings} (loaded : s.rebooted.loadProfile = { s.rebooted with
    settings := image, profile := { image := some image, write := none, origin := .profile } }) : AtBoot (booted s) where
  clock := by rw [booted_image loaded]; rfl
  supply := booted_supply s
  link := by rw [booted_image loaded]; rfl
  power := booted_power s
  committed := booted_committed s

/-- READY finds room behind the notices of the claims raised. -/
theorem readyNotice_started {b u : State} {granted waiting : List Port} (boot : AtBoot b)
    (h : Started b u granted waiting) (few : granted.length + waiting.length < 32) : u.readyNotice = { u with
      link := { b.link with notices := granted.map (startNotice .ramping) ++ waiting.map (startNotice .waiting) ++
        [⟨none, 0, .ready b.profile.origin b.profile.imageState⟩] } } := by
  rw [State.readyNotice, post_eq, h.changes.clock, h.changes.profile, boot.clock, h.link, noted,
    if_pos (by simpa using few)]

/-- Settles O10: the factory start by its equation, and the start of an image by the walk over its claims. -/
theorem resetsStartThePart : Obligations.ResetsStartThePart := by
  intro s c reset
  have starts : exec c s = .next s.startUp.transmit := by rcases reset with rfl | rfl <;> rfl
  refine ⟨fun invalid => ⟨s.freeBelow 18446744073709551616, Nat.mod_lt _ (by decide), ?_⟩,
    fun image order valid idle members sorted => ?_⟩
  · rw [starts, startUp_factory invalid]
    rfl
  · have loaded := loadProfile_image valid idle
    have boot := booted_atBoot loaded
    have image_booted := booted_image loaded
    have lenses := booted_lenses s
    have up := startUp_eq s
    rw [loaded] at lenses
    generalize booted s = b at boot image_booted lenses up
    have settings : b.settings = image := congrArg (·.settings) image_booted
    have listed : order = b.byPriority (fun p => (b.profileOf p).autoPower) :=
      byPriority_unique (fun p => by rw [members p, State.profileOf, settings]) (by rw [settings]; exact sorted)
    have once : order.Nodup := by rw [listed]; exact byPriority_nodup _ _
    obtain ⟨granted, waiting, parts, h⟩ := Started.raises boot order boot.started (by simpa using once) (by
      rw [List.nil_append, settings]
      exact sorted.imp (fun before => by rcases before with k | ⟨k, -⟩ <;> omega))
    have split : order = granted ++ waiting := parts
    have few : granted.length + waiting.length < 32 := by
      have := once.length_le_card
      rw [split] at this
      simp only [List.length_append, Fintype.card_fin] at this
      omega
    have raised : b.autoPower = State.forPorts (fun p t => t.raisePowerClaim p) order b := by
      rw [listed]
      rfl
    rw [starts, up, raised]
    generalize State.forPorts (fun p t => t.raisePowerClaim p) order b = u at h
    have profile : b.profile = { image := some image, write := none, origin := .profile } :=
      congrArg (·.profile) image_booted
    rw [readyNotice_started boot h few, boot.link, profile]
    have changes := h.changes
    refine ⟨granted, waiting, _, rfl, split, ?_, fun p rest e => ?_, changes.settings (by decide) |>.trans settings,
      changes.clock.trans boot.clock, changes.profile.trans profile,
      (changes.lanes (by decide)).trans (congrArg (·.lanes) image_booted),
      (changes.seq (by decide)).trans (congrArg (·.seq) image_booted),
      (changes.store (by decide)).trans (congrArg (·.store) image_booted),
      (changes.uplink (by decide)).trans (congrArg (·.uplink) image_booted),
      (changes.table (by decide)).trans (congrArg (·.table) image_booted),
      (changes.sweeps (by decide)).trans (congrArg (·.sweeps) image_booted),
      (changes.monitor (by decide)).trans (congrArg (·.monitor) image_booted), ?_,
      (changes.dram (by decide)).trans (congrArg (·.dram) image_booted),
      (changes.freeCount (by decide)).trans (congrArg (·.freeCount) image_booted),
      changes.pending.trans (congrArg (·.pending) image_booted), rfl,
      fun p => ⟨fun other => ?_, h.ramping p, h.held p, ?_⟩⟩
    · rw [← settings]
      exact h.fits
    · rw [← settings]
      exact h.full p rest e
    · refine h.supply.trans ?_
      rw [boot.supply, ← settings]
      rfl
    · have apart : p ∉ granted ∧ p ∉ waiting := by
        rw [split, List.mem_append, not_or] at other
        exact other
      exact h.others p apart.1 apart.2
    · exact (congrArg (fun v : Vector Lens 8 => v[p]) (changes.lenses (by decide))).trans (lenses p)

end Sys2Proof.Power
end

section
/-!
PROOFS. SLOT_DISPATCH where a port that is ON holds a power claim on the list, which PowerClaims excludes and the statement
does not: a port dispatched before it raises a lens claim, whose walk grants the power claim and takes the later port out
of ON.
-/

namespace Sys2Proof.Dispatch

open Sys2Proof.Machine Sys2Proof.Safety

/-- A slot on some ports, at an offset, with a preset. -/
def presetSlot (ports : List Port) (offset : Nat) (preset : Fin 8) : Slot :=
  ⟨Vector.ofFn (fun p => ports.contains p), offset, 50000, 0, 0, 20, 10000, [true], [.none], some preset, false, 0⟩

/-- The slot dispatched, on ports 0 and 1, and the cycle that has reached it. -/
def firstSlot : Slot := presetSlot [0, 1] 0 0
def firstCycle : Cycle := ⟨0, 0, 0, false, [], []⟩

/-- Ports 0 and 1 are ON. Port 0 trains, so that its slot is skipped and the preset of its next slot is posted to its IDLE
lens; port 1 is LOCKED, and its power claim stands on the list. -/
def claimedOn : State :=
  { State.reset with
    clock := 0
    power := Vector.ofFn (fun p => { state := if p = 0 ∨ p = 1 then .on else .off })
    lanes := Vector.ofFn (fun p => { state := if p = 0 then .training else if p = 1 then .locked else .down })
    lenses := Vector.ofFn (fun p => { state := if p = 0 then .idle else .absent, bus := ⟨.free, none, []⟩ })
    supply := { claims := [⟨1, .power, 0, 0, 0⟩] }
    seq := {
      state := .running
      plan := some ⟨.lineTrigger, none, some .rising, 1, [firstSlot, presetSlot [0] 100000 1]⟩
      current := some firstCycle } }

/-- The reception window of a port in the state that a command leaves. -/
def windowAfter (c : Instr) (s : State) (p : Port) : Option RxWindow :=
  match exec c s with
  | .next t => t.lanes[p].window
  | _ => none

theorem windowAfter_eq {c : Instr} {s t : State} (h : exec c s = .next t) (p : Port) :
    windowAfter c s p = t.lanes[p].window := by
  simp only [windowAfter, h]

/-- The dispatch meets the statement's premises, and finds port 1 ON and its lane LOCKED. -/
theorem claimedOn_meets :
    claimedOn.seq.current = some firstCycle ∧ claimedOn.seq.slots[(0 : Fin 4).val]? = some firstSlot ∧
      (0 ∉ firstCycle.dispatched) ∧ firstCycle.start + firstSlot.offset ≤ claimedOn.clock ∧
      claimedOn.sweeps.sweep = none ∧ firstSlot.marks 1 = true ∧ claimedOn.power[(1 : Port)].state = .on ∧
      claimedOn.lanes[(1 : Port)].state = .locked := by decide +kernel

/-- The grant has taken port 1 to RAMPING before its turn comes, and no window opens. -/
theorem claimedOn_opens_no_window : windowAfter (.slotDispatch 0) claimedOn 1 = none := by decide +kernel

/-- Refutes O34: a port that is ON with a power claim on the list, which an earlier port's skip grants, is counted MISSED. -/
theorem not_slotDispatchTriggersPorts : ¬ Obligations.SlotDispatchTriggersPorts := by
  unfold Obligations.SlotDispatchTriggersPorts
  intro h
  obtain ⟨current, slot, undispatched, reached, noSweep, marked, on, locked⟩ := claimedOn_meets
  obtain ⟨t, runs, triggers, -⟩ := h _ 0 _ _ current slot undispatched reached noSweep
  obtain ⟨⟨flags, -, -, opens⟩, -⟩ := triggers 1 marked on locked
  have shut := claimedOn_opens_no_window
  rw [windowAfter_eq runs, opens] at shut
  cases shut

end Sys2Proof.Dispatch
end

section
/-!
PROOFS. What the operations of the blocks keep (`Keeps`): the canonical form of the frame DRAM, the bounds of the link's queues,
of the region queue and of the credits, the ports of the sweeps, and acquisitions apart from triggers. `Works r s t` tells that
an operation that answers no request has led from `s` to `t`; with `r` false it is no reception either. Each lemma
`Works.f` adds the operation `f` to what has led to `t`, so that a proof reads as the operation's definition does.
-/

namespace Sys2Proof.Bounds

open Sys2Proof.Machine Sys2Proof.Safety Sys2Proof.Power

/-! ## Lanes and acquisitions (R35, R39, R160) -/

/-- A lane as it stands while an acquisition is under way on its port. -/
def Hushed (l : Lane) : Prop := l.window = none ∧ l.retrainAt = none ∧ (l.state = .quiet ∨ l.state = .down)

/-- Only a QUIET lane has a retrain begun. -/
def Retrains (l : Lane) : Prop := l.retrainAt ≠ none → l.state = .quiet

theorem acquisitionsAreQuiet_iff {s : State} : AcquisitionsAreQuiet s ↔
    (∀ a, s.sweeps.acquisition = some a → Hushed s.lanes[a.port]) ∧ ∀ p : Port, Retrains s.lanes[p] := Iff.rfl

theorem Retrains.none {l : Lane} (h : Retrains l) (up : l.state ≠ .quiet) : l.retrainAt = none := by
  by_contra some
  exact up (h some)

theorem retrains_of_none {l : Lane} (h : l.retrainAt = none) : Retrains l := fun some => absurd h some

/-- What reception holds of a lane: its reception window, its frame, its counts and its last mean. -/
structure SameReception (l m : Lane) : Prop where
  window : m.window = l.window
  frame : m.frame = l.frame
  counts : m.counts = l.counts
  lastMean : m.lastMean = l.lastMean

theorem SameReception.refl (l : Lane) : SameReception l l := ⟨rfl, rfl, rfl, rfl⟩

theorem SameReception.trans {l m n : Lane} (h : SameReception l m) (g : SameReception m n) : SameReception l n :=
  ⟨g.window.trans h.window, g.frame.trans h.frame, g.counts.trans h.counts, g.lastMean.trans h.lastMean⟩

/-! ## The relations -/

/-- Each of the invariants, where it holds before, holds after. -/
structure Keeps (s t : State) : Prop where
  memory : MemoryCanonical s → MemoryCanonical t
  link : LinkBounds s → LinkBounds t
  regions : RegionBound s → RegionBound t
  credits : Credits s → Credits t
  ports : SweepPorts s → SweepPorts t
  quiet : AcquisitionsAreQuiet s → AcquisitionsAreQuiet t

theorem Keeps.refl (s : State) : Keeps s s := ⟨id, id, id, id, id, id⟩

theorem Keeps.trans {s t u : State} (h : Keeps s t) (g : Keeps t u) : Keeps s u where
  memory m := g.memory (h.memory m)
  link m := g.link (h.link m)
  regions m := g.regions (h.regions m)
  credits m := g.credits (h.credits m)
  ports m := g.ports (h.ports m)
  quiet m := g.quiet (h.quiet m)

/-- The invariants read the link, the DRAM, the uplink, the sweep engine and the lanes alone. -/
theorem Keeps.of_same {s t : State} (link : t.link = s.link) (dram : t.dram = s.dram) (uplink : t.uplink = s.uplink)
    (sweeps : t.sweeps = s.sweeps) (lanes : t.lanes = s.lanes) : Keeps s t where
  memory m := by unfold MemoryCanonical; rw [dram]; exact m
  link m := by unfold LinkBounds; rw [link]; exact m
  regions m := by unfold RegionBound; rw [uplink]; exact m
  credits m := by unfold Credits; rw [uplink]; exact m
  ports m := by unfold SweepPorts; rw [sweeps]; exact m
  quiet m := by unfold AcquisitionsAreQuiet; rw [sweeps, lanes]; exact m

/-- A change of the link alone. -/
theorem Keeps.of_link (s : State) (l : Link) (h : LinkBounds s → LinkBounds { s with link := l }) :
    Keeps s { s with link := l } := ⟨id, h, id, id, id, id⟩

/-- An AMBIENT notice (R72). -/
def isAmbient : NoticeBody → Bool
  | .ambient .. => true
  | _ => false

/-- What an operation that answers no request does: it posts notices and keeps the invariants. One that is no reception (`r`
false) posts no AMBIENT notice, and leaves the DRAM, what reception holds of the lanes and the counts of high dark frames as
they are. -/
structure Works (r : Bool) (s t : State) : Prop extends Keeps s t where
  posts : ∃ posted, (r = false → ∀ n ∈ posted, isAmbient n.body = false) ∧ Posted posted s.link t.link
  dram : r = false → t.dram = s.dram
  lanes : r = false → ∀ q : Port, SameReception s.lanes[q] t.lanes[q]
  exceed : r = false → t.seq.exceed = s.seq.exceed

theorem Works.refl (r : Bool) (s : State) : Works r s s where
  toKeeps := .refl s
  posts := ⟨[], by simp, .refl _⟩
  dram _ := rfl
  lanes _ _ := .refl _
  exceed _ := rfl

variable {r : Bool} {s t u : State}

theorem Works.trans (h : Works r s t) (g : Works r t u) : Works r s u where
  toKeeps := h.toKeeps.trans g.toKeeps
  posts := by
    obtain ⟨a, ha, la⟩ := h.posts
    obtain ⟨b, hb, lb⟩ := g.posts
    refine ⟨a ++ b, fun e n hn => ?_, la.trans lb⟩
    cases List.mem_append.mp hn with
    | inl m => exact ha e n m
    | inr m => exact hb e n m
  dram e := (g.dram e).trans (h.dram e)
  lanes e q := (h.lanes e q).trans (g.lanes e q)
  exceed e := (g.exceed e).trans (h.exceed e)

/-- A change of other parts than the link, the DRAM, the uplink, the sweep engine, the lanes and the sequencer. -/
theorem Works.of_same (r : Bool) (link : t.link = s.link) (dram : t.dram = s.dram) (uplink : t.uplink = s.uplink)
    (sweeps : t.sweeps = s.sweeps) (lanes : t.lanes = s.lanes) (exceed : r = false → t.seq.exceed = s.seq.exceed) :
    Works r s t where
  toKeeps := .of_same link dram uplink sweeps lanes
  posts := ⟨[], by simp, by rw [link]; exact .refl _⟩
  dram _ := dram
  lanes _ q := by rw [lanes]; exact .refl _
  exceed := exceed

theorem Works.ite {c : Prop} [Decidable c] {a b : State} (h : c → Works r s a) (g : ¬ c → Works r s b) :
    Works r s (if c then a else b) := by
  split
  · exact h ‹_›
  · exact g ‹_›

/-! ## The named updates -/

section
variable {p : Port}

theorem Works.setPower {f : PortPower → PortPower} (h : Works r s t) : Works r s (t.setPower p f) :=
  h.trans (.of_same r rfl rfl rfl rfl rfl (fun _ => rfl))

theorem Works.setLens {f : Lens → Lens} (h : Works r s t) : Works r s (t.setLens p f) :=
  h.trans (.of_same r rfl rfl rfl rfl rfl (fun _ => rfl))

theorem Works.setEvidence {f : Evidence → Evidence} (h : Works r s t) : Works r s (t.setEvidence p f) :=
  h.trans (.of_same r rfl rfl rfl rfl rfl (fun _ => rfl))

theorem Works.setSupply {x : Supply} (h : Works r s t) : Works r s { t with supply := x } :=
  h.trans (.of_same r rfl rfl rfl rfl rfl (fun _ => rfl))

theorem Works.setClaims {f : List Claim → List Claim} (h : Works r s t) : Works r s (t.setClaims f) := h.setSupply

theorem Works.usedFree (h : Works r s t) : Works r s t.usedFree :=
  h.trans (.of_same r rfl rfl rfl rfl rfl (fun _ => rfl))

theorem Works.setStore {f : Store → Store} (h : Works r s t) : Works r s (t.setStore f) :=
  h.trans (.of_same r rfl rfl rfl rfl rfl (fun _ => rfl))

theorem Works.setSettings {x : Settings} (h : Works r s t) : Works r s { t with settings := x } :=
  h.trans (.of_same r rfl rfl rfl rfl rfl (fun _ => rfl))

theorem Works.setMonitor {x : Monitor} (h : Works r s t) : Works r s { t with monitor := x } :=
  h.trans (.of_same r rfl rfl rfl rfl rfl (fun _ => rfl))

theorem Works.setTable {x : BreakTable} (h : Works r s t) : Works r s { t with table := x } :=
  h.trans (.of_same r rfl rfl rfl rfl rfl (fun _ => rfl))

theorem Works.setProfile {x : ProfileStore} (h : Works r s t) : Works r s { t with profile := x } :=
  h.trans (.of_same r rfl rfl rfl rfl rfl (fun _ => rfl))

theorem Works.setSeq {f : Sequencer → Sequencer} (h : Works r s t)
    (exceed : r = false → (f t.seq).exceed = t.seq.exceed) : Works r s (t.setSeq f) :=
  h.trans (.of_same r rfl rfl rfl rfl rfl exceed)

/-- A change of a lane that keeps its port's acquisition apart from triggers. -/
theorem Works.setLaneWhen {f : Lane → Lane} (h : Works r s t)
    (hushed : Retrains t.lanes[p] → (∀ a, t.sweeps.acquisition = some a → a.port = p → Hushed t.lanes[p]) →
      ∀ a, t.sweeps.acquisition = some a → a.port = p → Hushed (f t.lanes[p]))
    (retrains : Retrains t.lanes[p] → Retrains (f t.lanes[p]))
    (same : r = false → SameReception t.lanes[p] (f t.lanes[p])) : Works r s (t.setLane p f) := by
  refine h.trans {
    memory := id, link := id, regions := id, credits := id, ports := id, quiet := fun q => ?_
    posts := ⟨[], by simp, .refl _⟩, dram := fun _ => rfl, lanes := fun e q => ?_, exceed := fun _ => rfl }
  · obtain ⟨quiet, retrain⟩ := acquisitionsAreQuiet_iff.mp q
    refine acquisitionsAreQuiet_iff.mpr ⟨fun a ha => ?_, fun q => ?_⟩
    · rw [State.setLane_lanes, upd_get]
      split
      · next e =>
        exact hushed (retrain p) (fun b hb eb => get_congr t.lanes eb ▸ quiet b hb) a ha e
      · exact quiet a ha
    · rw [State.setLane_lanes, upd_get]
      split
      · exact retrains (retrain p)
      · exact retrain q
  · rw [State.setLane_lanes, upd_get]
    split
    · next at_p => rw [get_congr t.lanes at_p]; exact same e
    · exact .refl _

/-- A change of a lane that leaves its state, its windows closed and its retrain as they are. -/
theorem Works.setLane {f : Lane → Lane} (h : Works r s t)
    (hushed : Hushed t.lanes[p] → Hushed (f t.lanes[p]))
    (retrains : Retrains t.lanes[p] → Retrains (f t.lanes[p]))
    (same : r = false → SameReception t.lanes[p] (f t.lanes[p])) :
    Works r s (t.setLane p f) :=
  h.setLaneWhen (fun _ quiet a ha e => hushed (quiet a ha e)) retrains same

/-- A change of the sweep engine that begins no acquisition. -/
theorem Works.setSweeps {e : SweepEngine} (h : Works r s t) (ports : SweepPorts t → SweepPorts { t with sweeps := e })
    (acquisition : ∀ a, e.acquisition = some a → ∃ b, t.sweeps.acquisition = some b ∧ b.port = a.port) :
    Works r s { t with sweeps := e } := by
  refine h.trans {
    memory := id, link := id, regions := id, credits := id, ports := ports, quiet := fun q => ?_
    posts := ⟨[], by simp, .refl _⟩, dram := fun _ => rfl, lanes := fun _ _ => .refl _, exceed := fun _ => rfl }
  obtain ⟨quiet, retrain⟩ := acquisitionsAreQuiet_iff.mp q
  refine acquisitionsAreQuiet_iff.mpr ⟨fun a ha => ?_, retrain⟩
  obtain ⟨b, hb, e⟩ := acquisition a ha
  exact get_congr t.lanes e ▸ quiet b hb

/-- A change of the sweep engine that leaves the acquisition under way as it is. -/
theorem Works.setQueue {e : SweepEngine} (h : Works r s t) (ports : SweepPorts t → SweepPorts { t with sweeps := e })
    (acquisition : e.acquisition = t.sweeps.acquisition) : Works r s { t with sweeps := e } :=
  h.setSweeps ports (fun a ha => ⟨a, acquisition ▸ ha, rfl⟩)

theorem Works.setResult {f : SweepResult → SweepResult} (h : Works r s t) : Works r s (t.setResult p f) :=
  h.setQueue id rfl

theorem Works.setUplink {f : Uplink → Uplink} (h : Works r s t)
    (regions : (f t.uplink).regions.length ≤ t.uplink.regions.length)
    (credits : Credits t → Credits (t.setUplink f)) : Works r s (t.setUplink f) :=
  h.trans { memory := id, link := id, regions := fun b => Nat.le_trans regions b, credits := credits, ports := id,
            quiet := id, posts := ⟨[], by simp, .refl _⟩, dram := fun _ => rfl, lanes := fun _ _ => .refl _,
            exceed := fun _ => rfl }

theorem Works.setDram {m : List Host.Cell} (h : Works true s t) (wf : MemoryCanonical t → Memory.wf m = true) :
    Works true s { t with dram := m } :=
  h.trans { memory := wf, link := id, regions := id, credits := id, ports := id, quiet := id,
            posts := ⟨[], by simp, .refl _⟩, dram := nofun, lanes := nofun, exceed := nofun }

end

/-! ## Notices -/

theorem post_linkBounds (s : State) (port : Option Port) (body : NoticeBody) (h : LinkBounds s) :
    LinkBounds (s.post port body) := by
  obtain ⟨requests, refusals, notices, lost⟩ := h
  unfold State.post
  split
  · next room => exact ⟨requests, refusals, by simp only [List.length_append, List.length_singleton]; omega, lost⟩
  · exact ⟨requests, refusals, notices, satAdd_le _ _ _⟩

section
variable {p : Port}

theorem Works.post {port : Option Port} {body : NoticeBody} (h : Works r s t)
    (told : r = false → isAmbient body = false) : Works r s (t.post port body) := by
  refine h.trans {
    memory := ?_, link := post_linkBounds t port body, regions := ?_, credits := ?_, ports := ?_, quiet := ?_
    posts := ⟨_, fun e n hn => ?_, post_posted t port body⟩, dram := ?_, lanes := ?_, exceed := ?_ }
  case refine_6 => rw [List.mem_singleton] at hn; rw [hn]; exact told e
  all_goals simp only [MemoryCanonical, RegionBound, Credits, SweepPorts, AcquisitionsAreQuiet, State.post_keeps,
    imp_self, implies_true, SameReception.refl]

theorem Works.portStateNotice {prev : PowerState} (h : Works r s t) : Works r s (t.portStateNotice p prev) := h.post (fun _ => rfl)

theorem Works.attachNotice {event : PortEvent} (h : Works r s t) : Works r s (t.attachNotice p event) := h.post (fun _ => rfl)

theorem Works.laneNotice {prev : LaneState} {cause : LaneCause} (h : Works r s t) :
    Works r s (t.laneNotice p prev cause) := h.post (fun _ => rfl)

theorem Works.lensNotice {event : LensEvent} {move : Option Move} {fault : Option LensFault} (h : Works r s t) :
    Works r s (t.lensNotice p event move fault) := h.post (fun _ => rfl)

theorem Works.planNotice {prev : PlanState} {cause : PlanCause} (h : Works r s t) : Works r s (t.planNotice prev cause) :=
  h.post (fun _ => rfl)

theorem Works.setPowerState {new : PowerState} {reason : OffReason} (h : Works r s t) :
    Works r s (t.setPowerState p new reason) := h.setPower.portStateNotice

end

/-! ## Lists of ports and places -/

theorem Works.forPorts {f : Port → State → State} (each : ∀ {t : State} (p : Port), Works r s t → Works r s (f p t)) :
    ∀ {ps : List Port} {t : State}, Works r s t → Works r s (State.forPorts f ps t)
  | [], _, h => h
  | p :: ps, _, h => Works.forPorts (ps := ps) each (each p h)

theorem Works.forPlaces {f : Nat → State → State} (each : ∀ {t : State} (i : Nat), Works r s t → Works r s (f i t)) :
    ∀ {is : List Nat} {t : State}, Works r s t → Works r s (State.forPlaces f is t)
  | [], _, h => h
  | i :: is, _, h => Works.forPlaces (is := is) each (each i h)

end Sys2Proof.Bounds
end

section
/-!
PROOFS. What the uplink, the frame store, the break table, the sweep engine and the lanes do, operation by operation.
-/

namespace Sys2Proof.Bounds

open Sys2Proof.Machine Sys2Proof.Safety Sys2Proof.Power

variable {r : Bool} {s t u : State}

/-! ## The uplink (R102 to R109) -/

/-- A packet begun takes no credit that is not there. -/
theorem begin_credits {t : State} {f : Uplink → Uplink} (h : Credits t) (up : (f t.uplink).up = t.uplink.up)
    (credits : (f t.uplink).credits ≤ t.uplink.credits) : Credits (t.setUplink f) := by
  refine ⟨Nat.le_trans credits h.1, fun down => Nat.le_zero.mp ?_⟩
  rw [← h.2 (up ▸ down)]
  exact credits

theorem Works.creditWait (h : Works r s t) : Works r s t.creditWait := by
  unfold State.creditWait
  exact .ite (fun _ => h) (fun _ => h.setUplink (Nat.le_refl _) id)

theorem Works.beginPacket (h : Works r s t) : Works r s t.beginPacket := by
  unfold State.beginPacket
  split
  · exact h
  split
  · split
    · exact h.creditWait
    · exact h.setUplink (Nat.le_refl _) (fun c => begin_credits c rfl (Nat.sub_le _ _))
  split
  · exact h
  split
  · exact h
  split
  · exact h.creditWait
  · exact h.setUplink (Nat.le_refl _) (fun c => begin_credits c rfl (Nat.sub_le _ _))

theorem Works.sendChoice (h : Works r s t) : Works r s t.sendChoice := by
  unfold State.sendChoice
  split
  · exact h
  split
  · next e rest regions => exact (h.setUplink (by rw [regions]; simp) id).beginPacket
  split
  · exact h
  split
  · exact h
  · exact (h.setStore.setUplink (Nat.le_refl _) id).beginPacket

theorem Works.uplinkNext (h : Works r s t) : Works r s t.uplinkNext := by
  unfold State.uplinkNext
  exact .ite (fun _ => h.beginPacket) (fun _ => h.sendChoice)

theorem Works.endItem {i : Item} (h : Works r s t) : Works r s (t.endItem i) := by
  unfold State.endItem
  simp only
  split
  · exact ((h.setUplink (Nat.le_refl _) id).setUplink (Nat.le_refl _) id).setStore
  · exact (h.setUplink (Nat.le_refl _) id).setUplink (Nat.le_refl _) id

theorem Works.packetEnded {p : Packet} (h : Works r s t) : Works r s (t.packetEnded p) := by
  unfold State.packetEnded
  extract_lets u
  have ended : Works r s u := h.setUplink (Nat.le_refl _) id
  split
  · exact ended
  · exact ended
  · exact ended.setUplink (Nat.le_refl _) id
  · split
    · exact ended
    · exact ended.endItem
  · exact (ended.setUplink (Nat.le_refl _) id).setUplink (Nat.le_refl _) id

theorem addCredits_le (credits grant : Nat) : addCredits credits grant ≤ 4096 := Nat.min_le_left _ _

theorem Works.linkUp {grant : Nat} (h : Works r s t) : Works r s (t.linkUp grant) := by
  refine (h.setUplink (Nat.le_refl _) ?_).post (fun _ => rfl)
  exact fun _ => ⟨addCredits_le 0 grant, nofun⟩

theorem Works.stopFrame (h : Works r s t) : Works r s t.stopFrame := by
  unfold State.stopFrame
  split
  · exact h.setStore
  · exact h

theorem Works.linkDown {cause : UplinkCause} (h : Works r s t) : Works r s (t.linkDown cause) :=
  (h.stopFrame.setUplink (Nat.le_refl _) (fun _ => ⟨Nat.zero_le _, fun _ => rfl⟩)).post (fun _ => rfl)

theorem Works.addGrant {grant : Nat} (h : Works r s t) (up : t.uplink.up = true) : Works r s (t.addGrant grant) := by
  refine (h.setUplink (Nat.le_refl _) ?_).uplinkNext
  exact fun _ => ⟨addCredits_le _ grant, fun down => absurd (up.symm.trans down) (by decide)⟩

/-! ## The frame store (R82 to R92) -/

theorem Works.joinOutput {id : Nat} (h : Works r s t) : Works r s (t.joinOutput id) := h.setStore.sendChoice

theorem Works.sendUncombined : ∀ {ids : List Nat} {t : State}, Works r s t → Works r s (State.sendUncombined ids t)
  | [], _, h => h
  | _ :: ids, _, h => Works.sendUncombined (ids := ids) h.setStore.joinOutput

theorem Works.abandon {g : Group} (h : Works r s t) : Works r s (t.abandon g) := h.setStore.sendUncombined

theorem Works.groupFor {slot : Fin 4} {p : Port} {cycle : Nat} (h : Works r s t) :
    Works r s (t.groupFor slot p cycle).1 := by
  unfold State.groupFor
  simp only
  cases t.store.group? slot p with
  | none => exact h
  | some g =>
    simp only
    split
    · exact h
    · exact .ite (fun _ => h.setStore) (fun _ => h.setStore.abandon)

theorem Works.reportLoss {slot : Fin 4} {p : Port} {cycle position : Nat} {member : Option Nat} (h : Works r s t) :
    Works r s (t.reportLoss slot p cycle position member) := by
  unfold State.reportLoss
  extract_lets found g out
  have left : Works r s out := .ite (fun _ => h.groupFor.sendUncombined) (fun _ => h.groupFor.abandon)
  exact left.setStore

theorem Works.reportAbsence {slot : Fin 4} {p : Port} {cycle position : Nat} (h : Works r s t) :
    Works r s (t.reportAbsence slot p cycle position) := by
  unfold State.reportAbsence
  exact .ite (fun _ => h.reportLoss) (fun _ => h)

theorem Works.takeCombine (h : Works r s t) : Works r s t.takeCombine := by
  unfold State.takeCombine
  split
  · exact h.setStore
  · exact h

theorem Works.joinCombine {g : Group} (h : Works r s t) : Works r s (t.joinCombine g) := by
  unfold State.joinCombine
  exact .ite (fun _ => h.setStore.takeCombine) (fun _ => h.setStore.abandon)

theorem Works.joinGroup {f : FrameRecord} (h : Works r s t) : Works r s (t.joinGroup f) := by
  have found : Works r s (t.groupFor f.slot f.port f.cycle).1 := h.groupFor
  unfold State.joinGroup
  simp only
  split
  · exact .ite (fun _ => found.sendUncombined.setStore) (fun _ => found.sendUncombined)
  · refine .ite (fun _ => ?_) (fun _ => found.setStore.setStore)
    exact .ite (fun _ => found.setStore.setStore.joinCombine) (fun _ => found.setStore.setStore.abandon)

theorem Works.completeCombine {c : Combine} (h : Works true s t) : Works true s (t.completeCombine c) := by
  unfold State.completeCombine
  simp only
  split
  · exact h.setStore.takeCombine
  · exact (h.setDram (Memory.combine_wf _ _ _ _ _)).setStore.joinOutput.setStore.takeCombine

theorem Works.endGroups : ∀ {gs : List (Fin 4 × Port)} {t : State}, Works r s t → Works r s (State.endGroups gs t)
  | [], _, h => h
  | (k, p) :: gs, t, h => by
    unfold State.endGroups
    cases t.store.group? k p with
    | none => exact Works.endGroups h
    | some g => exact Works.endGroups (.ite (fun _ => h.setStore) (fun _ => h.setStore.abandon))

theorem Works.storePlanEnded (h : Works r s t) : Works r s t.storePlanEnded := h.endGroups.setStore

theorem Works.dropFrame {q : OpenRequest} (h : Works r s t) : Works r s (t.dropFrame q) := by
  unfold State.dropFrame
  extract_lets member dropped told
  have posted : Works r s told := .ite (fun _ => h.setStore) (fun _ => h.setStore.setStore.post (fun _ => rfl))
  exact posted.reportAbsence

theorem Works.handOver {id : Nat} (h : Works r s t) : Works r s (t.handOver id) := by
  unfold State.handOver
  split
  · exact h
  · extract_lets _ f u
    have suspected : Works r s u := h.setStore
    refine .ite (fun _ => ?_) (fun _ => suspected.joinOutput)
    exact .ite (fun _ => .ite (fun _ => suspected.reportLoss) (fun _ => suspected.joinGroup))
      (fun _ => suspected.sendUncombined)

/-! ## The break table and the evidence (R137 to R149) -/

section
variable {p : Port}

theorem Works.setBreak {i : Nat} {f : BreakRecord → BreakRecord} (h : Works r s t) : Works r s (t.setBreak i f) :=
  h.setTable

theorem Works.createBreak {record : BreakRecord} (h : Works r s t) : Works r s (t.createBreak record).1 := by
  unfold State.createBreak
  split <;> exact h.setTable.post (fun _ => rfl)

theorem Works.breakEvent {i : Nat} {event : BreakEvent} {f : BreakRecord → BreakRecord} (h : Works r s t) :
    Works r s (t.breakEvent i event f) := by
  unfold State.breakEvent
  split
  · exact h
  · exact h.setBreak.post (fun _ => rfl)

theorem Works.confirmBreak {i : Nat} (h : Works r s t) : Works r s (t.confirmBreak i) := by
  unfold State.confirmBreak
  split
  · exact h
  · exact .ite (fun _ => h.breakEvent) (fun _ => h)

theorem Works.submitEvidence {k : BreakKind} {st : BreakState} (h : Works r s t) :
    Works r s (t.submitEvidence p k st).1 := by
  unfold State.submitEvidence
  split
  · exact .ite (fun _ => h.setBreak.confirmBreak) (fun _ => h.setBreak)
  · exact h.createBreak

theorem Works.submitReflection {location : Nat} {polarity : Polarity} {st : BreakState} {sweep : Nat} {segment : Segment}
    (h : Works r s t) : Works r s (t.submitReflection p location polarity st sweep segment).1 := by
  unfold State.submitReflection
  split
  · exact .ite (fun _ => h.setBreak.confirmBreak) (fun _ => h.setBreak)
  · exact h.createBreak

theorem Works.locateAt {id i : Nat} (h : Works r s t) : Works r s (State.locateAt p id i t) := by
  unfold State.locateAt
  split
  · exact h
  · refine .ite (fun _ => ?_) (fun _ => h)
    split
    · exact h.breakEvent
    · exact .ite (fun _ => h) (fun _ => h.breakEvent)
    · exact h

theorem Works.locate {id : Nat} (h : Works r s t) : Works r s (t.locate p id) := by
  unfold State.locate
  exact .ite (fun _ => Works.forPlaces (fun _ g => g.locateAt) h) (fun _ => h)

theorem Works.clearBreak {i : Nat} (h : Works r s t) : Works r s (State.clearBreak i t) := by
  unfold State.clearBreak
  split
  · exact h
  · exact .ite (fun _ => h) (fun _ => h.breakEvent)

theorem Works.powerShort {st : BreakState} (h : Works r s t) : Works r s (t.powerShort p st) := h.submitEvidence

theorem Works.lensSilent (h : Works r s t) : Works r s (t.lensSilent p) := h.submitEvidence

theorem Works.tripEvidence {count : Nat} (h : Works r s t) : Works r s (t.tripEvidence p count) := by
  unfold State.tripEvidence
  exact .ite (fun _ => h.powerShort) (fun _ => .ite (fun _ => h.powerShort) (fun _ => h))

end

/-! ## The sweep queue (R155 to R158) -/

theorem Works.sweepDone {p : Port} (h : Works r s t) : Works r s (t.sweepDone p) := by
  unfold State.sweepDone
  simp only
  split
  · exact h
  · exact h.post (fun _ => rfl)

/-- The entries taken from the queue of an engine with no sweep in progress. -/
theorem takeEntries_works (r : Bool) : ∀ (es : List SweepEntry) (t : State), t.sweeps.sweep = none →
    t.sweeps.queue = es → Works r t (State.takeEntries es t)
  | [], t, idle, queue => (Works.refl r t).setQueue (by simp only [SweepPorts, idle, queue]; exact id) (by rfl)
  | e :: rest, t, idle, queue => by
    have ports : SweepPorts t → (e.port :: rest.map (·.port)).Nodup := fun h => by
      simpa only [SweepPorts, idle, queue, Option.map_none, Option.toList_none, List.append_nil, List.map_cons] using h
    unfold State.takeEntries
    split
    · refine ((Works.refl r t).setQueue (fun h => ?_) (by rfl)).setResult
      exact (List.perm_append_singleton _ _).nodup_iff.mpr (ports h)
    · have left : Works r t { t with sweeps := { t.sweeps with queue := rest } } :=
        (Works.refl r t).setQueue (fun h => by
          simpa only [SweepPorts, idle, Option.map_none, Option.toList_none, List.append_nil] using
            (List.nodup_cons.mp (ports h)).2) (by rfl)
      have told := (left.setResult (p := e.port)
        (f := fun _ => { beginResult e t.clock with state := .cancelled, endAt := some t.clock })).sweepDone (p := e.port)
      refine told.trans (takeEntries_works r rest _ ?_ ?_)
      · rw [(sweepDone_changes _ _).sweeps (by decide)]
        exact idle
      · rw [(sweepDone_changes _ _).sweeps (by decide)]
        rfl

theorem Works.takeNextSweep (h : Works r s t) : Works r s t.takeNextSweep := by
  unfold State.takeNextSweep
  refine .ite (fun free => h.trans (takeEntries_works r _ _ ?_ rfl)) (fun _ => h)
  simp only [Bool.and_eq_true, Option.isNone_iff_eq_none] at free
  exact free.1

theorem Works.dropAcquisition (h : Works r s t) : Works r s t.dropAcquisition :=
  h.setSweeps id (fun a ha => by
    obtain ⟨b, hb, e⟩ := Option.map_eq_some_iff.mp ha
    exact ⟨b, hb, by rw [← e]⟩)

/-- The sweep in progress taken from the engine. -/
theorem Works.noSweep (h : Works r s t) : Works r s { t with sweeps := { t.sweeps with sweep := none } } :=
  h.setQueue (fun n => by
    simpa only [SweepPorts, Option.map_none, Option.toList_none, List.append_nil] using n.of_append_left) (by rfl)

theorem Works.endSweep {p : Port} {outcome : SweepState} {f : SweepResult → SweepResult} (h : Works r s t) :
    Works r s (t.endSweep p outcome f) := h.dropAcquisition.noSweep.setResult.sweepDone.takeNextSweep

/-- An entry joins the queue for a port that has neither entry nor sweep. -/
theorem Works.joinSweepQueue {e : SweepEntry} (h : Works r s t) (free : t.sweeps.busyWith e.port = false) :
    Works r s (t.joinSweepQueue e) := by
  refine (h.setQueue (fun n => ?_) (by rfl)).takeNextSweep
  obtain ⟨unqueued, unswept⟩ := Bool.or_eq_false_iff.mp free
  have absent : e.port ∉ t.sweeps.queue.map (·.port) ++ (t.sweeps.sweep.map (·.entry.port)).toList := by
    rw [List.mem_append, List.mem_map]
    rintro (⟨q, hq, same⟩ | swept)
    · simpa [same] using List.any_eq_false.mp unqueued q hq
    · cases hs : t.sweeps.sweep with
      | none => simp [hs] at swept
      | some w => simp only [hs, decide_eq_false_iff_not] at unswept; simp [hs] at swept; exact unswept swept.symm
  have perm : (t.sweeps.queue.map (·.port) ++ [e.port] ++ (t.sweeps.sweep.map (·.entry.port)).toList).Perm
      (e.port :: (t.sweeps.queue.map (·.port) ++ (t.sweeps.sweep.map (·.entry.port)).toList)) := by
    rw [List.append_assoc, List.singleton_append]
    exact List.perm_middle
  simpa only [SweepPorts, List.map_append, List.map_cons, List.map_nil] using
    perm.nodup_iff.mpr (List.nodup_cons.mpr ⟨absent, n⟩)

theorem Works.autoSweep {p : Port} {segment : Segment} (h : Works r s t) : Works r s (t.autoSweep p segment) := by
  unfold State.autoSweep
  refine .ite (fun free => h.joinSweepQueue ?_) (fun _ => h)
  simp only [Bool.and_eq_true, Bool.not_eq_true'] at free
  exact free.2

theorem Works.powerOpen {p : Port} (h : Works r s t) : Works r s (t.powerOpen p) := by
  unfold State.powerOpen
  exact .ite (fun _ => h.submitEvidence.autoSweep) (fun _ => h.submitEvidence)

/-- The sweep in progress changed, its entry kept. -/
theorem Works.keepSweep {w v : Sweep} (h : Works r s t) (sweep : t.sweeps.sweep = some w) (entry : v.entry = w.entry) :
    Works r s { t with sweeps := { t.sweeps with sweep := some v } } :=
  h.setQueue (fun n => by simpa only [SweepPorts, sweep, Option.map_some, entry] using n) (by rfl)

theorem Works.setSweep {f : Sweep → Sweep} (h : Works r s t) (entry : ∀ w, (f w).entry = w.entry) :
    Works r s (t.setSweep f) :=
  h.setQueue (fun n => by simpa only [SweepPorts, Option.map_map, Function.comp_def, entry] using n) (by rfl)

theorem Works.discardAcquisitions {p : Port} (h : Works r s t) : Works r s (t.discardAcquisitions p) := by
  unfold State.discardAcquisitions
  split
  · exact h
  · next sweep =>
    exact .ite (fun _ => (h.dropAcquisition.keepSweep sweep (by rfl)).setResult) (fun _ => h)

theorem Works.beginAnalysis {w : Sweep} (h : Works r s t) (sweep : t.sweeps.sweep = some w) :
    Works r s (t.beginAnalysis w) := (h.keepSweep sweep (by rfl)).setResult

end Sys2Proof.Bounds
end

section
/-!
PROOFS. The sweep engine's tests, and what the lanes do in training and in reception.
-/

namespace Sys2Proof.Bounds

open Sys2Proof.Machine Sys2Proof.Safety Sys2Proof.Power

variable {r : Bool} {s t u : State} {p : Port}

/-! ## Quiet for an acquisition (R35, R160, R161) -/

/-- What asking for quiet makes of a lane (R35). -/
def quieted (now : Time) (l : Lane) : Lane :=
  match l.state with
  | .locked => { l with state := .quiet, since := now, backChannel := quietPacket }
  | .training => { l with state := .quiet, since := now, deadlineAt := none }
  | .down => l
  | .quiet => l

theorem setLane_setLane (s : State) (p : Port) (f g : Lane → Lane) :
    (s.setLane p f).setLane p g = s.setLane p (fun l => g (f l)) := by
  simp only [State.setLane, upd_upd]

theorem setLane_self (s : State) (p : Port) (f : Lane → Lane) (h : f s.lanes[p] = s.lanes[p]) : s.setLane p f = s := by
  unfold State.setLane
  rw [upd_eq_self s.lanes p f h]

theorem setLane_congr (s : State) (p : Port) (f g : Lane → Lane) (h : f s.lanes[p] = g s.lanes[p]) :
    s.setLane p f = s.setLane p g := by
  unfold State.setLane upd
  rw [h]

theorem askQuiet_eq (s : State) (p : Port) : s.askQuiet p = s.setLane p (quieted s.clock) := by
  unfold State.askQuiet
  split
  case h_1 st => exact (setLane_setLane _ _ _ _).trans (setLane_congr _ _ _ _ (by simp only [quieted, st]))
  case h_2 st => exact (setLane_setLane _ _ _ _).trans (setLane_congr _ _ _ _ (by simp only [quieted, st]))
  case h_3 st => exact (setLane_self _ _ _ (by simp only [quieted, st])).symm
  case h_4 st => exact (setLane_self _ _ _ (by simp only [quieted, st])).symm

theorem quieted_hushed (now : Time) {l : Lane} (window : l.window = none) (retrain : Retrains l)
    (awake : l.state ≠ .quiet) : Hushed (quieted now l) := by
  have none_begun := retrain.none awake
  unfold quieted
  split
  · exact ⟨window, none_begun, .inl rfl⟩
  · exact ⟨window, none_begun, .inl rfl⟩
  · next down => exact ⟨window, none_begun, .inr down⟩
  · next quiet => exact absurd quiet awake

theorem quieted_same (now : Time) (l : Lane) : SameReception l (quieted now l) := by
  unfold quieted
  split <;> exact ⟨rfl, rfl, rfl, rfl⟩

/-- An acquisition begins on a port with no reception window, its lane not in QUIET. -/
theorem Works.beginAcquisition (h : Works r s t) (window : t.lanes[p].window = none) (awake : t.lanes[p].state ≠ .quiet) :
    Works r s (t.beginAcquisition p) := by
  unfold State.beginAcquisition
  rw [askQuiet_eq]
  refine h.trans {
    memory := id, link := id, regions := id, credits := id, ports := id, quiet := fun q => ?_
    posts := ⟨[], by simp, .refl _⟩, dram := fun _ => rfl, lanes := fun _ q => ?_, exceed := fun _ => rfl }
  · obtain ⟨-, retrain⟩ := acquisitionsAreQuiet_iff.mp q
    have hushed := quieted_hushed t.clock window (retrain p) awake
    refine acquisitionsAreQuiet_iff.mpr ⟨fun a ha => ?_, fun q => ?_⟩
    · cases ha
      rw [State.setLane_lanes, upd_same]
      exact hushed
    · rw [State.setLane_lanes, upd_get]
      split
      · exact retrains_of_none hushed.2.1
      · exact retrain q
  · rw [State.setLane_lanes, upd_get]
    split
    · next e => rw [get_congr _ e]; exact quieted_same _ _
    · exact .refl _

theorem gapOpen_window {e : SweepEntry} (h : t.gapOpen e = true) : t.lanes[e.port].window = none := by
  simp only [State.gapOpen, Bool.and_eq_true, Option.isNone_iff_eq_none] at h
  exact h.1.1.1

theorem Works.sweepTest (h : Works r s t) : Works r s t.sweepTest := by
  unfold State.sweepTest
  split
  · exact h
  · refine .ite (fun gap => .ite (fun free => ?_) (fun _ => h.setResult)) (fun _ => h.setResult)
    simp only [Bool.and_eq_true, bne_iff_ne, ne_eq] at free
    exact h.beginAcquisition (gapOpen_window gap) free.1

theorem Works.sweepResume (h : Works r s t) : Works r s t.sweepResume := by
  unfold State.sweepResume
  split
  · exact h
  · refine .ite (fun free => ?_) (fun _ => h)
    simp only [Bool.and_eq_true, bne_iff_ne, ne_eq] at free
    obtain ⟨⟨⟨-, gap⟩, awake⟩, -⟩ := free
    exact h.beginAcquisition (gapOpen_window gap) awake

theorem Works.laneLeftQuiet (h : Works r s t) : Works r s (t.laneLeftQuiet p) := by
  unfold State.laneLeftQuiet
  split
  · exact h
  · exact .ite (fun _ => .ite (fun _ => h.sweepTest) (fun _ => h.sweepResume)) (fun _ => h)

/-! ## Training (R32 to R36) -/

/-- No acquisition is under way on a port whose lane an acquisition keeps quiet. -/
def Untouched (t : State) (p : Port) : Prop :=
  ∀ a, t.sweeps.acquisition = some a → a.port = p → ¬ Hushed t.lanes[p]

theorem untouched_of_awake (quiet : t.lanes[p].state ≠ .quiet) (down : t.lanes[p].state ≠ .down) : Untouched t p :=
  fun _ _ _ hushed => hushed.2.2.elim quiet down

theorem untouched_of_retrain (h : t.lanes[p].retrainAt ≠ none) : Untouched t p := fun _ _ _ hushed => h hushed.2.1

theorem untouched_of_free (h : t.acquiringOn p = false) : Untouched t p := by
  intro a ha e _
  simp [State.acquiringOn, ha, e] at h

theorem untouched_of_none (h : t.sweeps.acquisition = none) : Untouched t p := by
  intro a ha
  rw [h] at ha
  cases ha

/-- A change of the lane of a port with no acquisition under way. -/
theorem Works.setLaneFree {f : Lane → Lane} (h : Works r s t) (free : Untouched t p)
    (retrains : Retrains t.lanes[p] → Retrains (f t.lanes[p])) (same : r = false → SameReception t.lanes[p] (f t.lanes[p])) :
    Works r s (t.setLane p f) :=
  h.setLaneWhen (fun _ quiet a ha e => absurd (quiet a ha e) (free a ha e)) retrains same

theorem Works.laneCount {f : LaneCounts → LaneCounts} (h : Works true s t) : Works true s (t.laneCount p f) :=
  h.setLane id id nofun

/-- A lane that is not in QUIET enters another state. -/
theorem Works.laneEnters {st : LaneState} (h : Works r s t) (free : Untouched t p) (awake : t.lanes[p].state ≠ .quiet) :
    Works r s (t.laneEnters p st) :=
  h.setLaneFree free (fun g => retrains_of_none (g.none awake)) (fun _ => ⟨rfl, rfl, rfl, rfl⟩)

theorem Works.startTraining {start : Time} (h : Works true s t) (free : Untouched t p) :
    Works true s (t.startTraining p start) :=
  h.setLaneFree free (fun _ => retrains_of_none rfl) nofun

theorem Works.laneFirstTraining (h : Works true s t) (free : t.acquiringOn p = false) :
    Works true s (t.laneFirstTraining p) := by
  have cleared : Works true s (t.setLane p (fun l => { l with failedRun := 0 })) := h.setLane id id nofun
  exact (cleared.startTraining (untouched_of_free free)).laneNotice

theorem Works.laneEntersOn (h : Works true s t) : Works true s (t.laneEntersOn p) := by
  unfold State.laneEntersOn
  exact .ite (fun _ => h.setLane id id nofun) (fun busy => h.laneFirstTraining (Bool.eq_false_iff.mpr busy))

theorem Works.dataError (h : Works r s t) : Works r s (t.dataError p) := h.setEvidence

theorem Works.laneDataError (h : Works true s t) : Works true s (t.laneDataError p) := h.laneCount.dataError

theorem Works.lockLoss (h : Works true s t) : Works true s (t.lockLoss p) := h.laneCount.laneDataError

theorem Works.lockReached (h : Works true s t) (training : t.lanes[p].state = .training) :
    Works true s (t.lockReached p) := by
  have awake : t.lanes[p].state ≠ .quiet := by rw [training]; decide
  have entered : Works true s (t.laneEnters p .locked) :=
    h.laneEnters (untouched_of_awake awake (by rw [training]; decide)) awake
  exact (entered.setLane id id nofun).laneNotice.setLane id id nofun

theorem Works.failedRunUp (h : Works r s t) : Works r s (t.failedRunUp p) := by
  unfold State.failedRunUp
  exact .ite (fun _ => h.setLane id id (fun _ => ⟨rfl, rfl, rfl, rfl⟩))
    (fun _ => (h.setLane id id (fun _ => ⟨rfl, rfl, rfl, rfl⟩)).usedFree)

theorem Works.trainingFails (h : Works true s t) (training : t.lanes[p].state = .training) :
    Works true s (t.trainingFails p) := by
  unfold State.trainingFails
  extract_lets u
  have awake : t.lanes[p].state ≠ .quiet := by rw [training]; decide
  have failed : Works true s u :=
    ((h.laneEnters (st := .down) (untouched_of_awake awake (by rw [training]; decide)) awake).setLane id id
      nofun).lockLoss.failedRunUp
  exact .ite (fun _ => failed.laneNotice) (fun _ => failed)

/-- The lane leaves QUIET: its retrain is judged, so that no acquisition is under way. -/
theorem Works.retrained {hasLock : Bool} (h : Works true s t) (begun : t.lanes[p].retrainAt ≠ none) :
    Works true s (t.retrained p hasLock) := by
  have free := untouched_of_retrain begun
  have locks : Works true s ((t.laneEnters p .locked).setLane p (fun l => { l with retrainAt := none })) := by
    rw [State.laneEnters, setLane_setLane]
    exact h.setLaneFree free (fun _ => retrains_of_none rfl) nofun
  exact (Works.ite (fun _ => locks) (fun _ => (h.startTraining free).laneNotice)).laneLeftQuiet

/-! ## The close of frames and windows (R40 to R45) -/

theorem Works.ambientHigh {slot : Fin 4} {cycle mean : Nat} (h : Works true s t) :
    Works true s (t.ambientHigh p slot cycle mean) := by
  have set : ∀ v, Works true s { t with seq := { t.seq with exceed := upd t.seq.exceed p (fun _ => v) } } :=
    fun _ => h.setSeq (f := fun q => { q with exceed := _ }) nofun
  unfold State.ambientHigh
  extract_lets f n put
  split
  · exact h
  · exact .ite (fun _ => (set _).post nofun) (fun _ => set _)

theorem Works.ambientCheck {f : RxFrame} {flags : FrameFlags} {mean : Nat} (h : Works true s t) :
    Works true s (t.ambientCheck p f flags mean).1 := by
  unfold State.ambientCheck
  split
  · exact h.ambientHigh
  · exact h

theorem Works.closeFrame {f : RxFrame} {cut : FrameFlags → FrameFlags} (h : Works true s t) :
    Works true s (t.closeFrame p f cut) := by
  unfold State.closeFrame
  extract_lets _ flags filled counted checked
  have fills : Works true s filled := h.setDram (Memory.fillLines_wf _ _ _ _)
  have counts : Works true s counted := fills.setLane id id nofun
  have checks : Works true s checked.1 := counts.ambientCheck
  exact checks.setStore.handOver.setLane id id nofun

theorem Works.closeWindow (h : Works true s t) : Works true s (t.closeWindow p) := by
  unfold State.closeWindow
  split
  · exact h
  · have closed : Works true s (t.setLane p (fun l => { l with window := none })) :=
      h.setLane (fun g => ⟨rfl, g.2⟩) id nofun
    exact closed.setSeq (f := fun q => { q with current := _ }) nofun

theorem Works.deadlineClose (h : Works true s t) : Works true s (t.deadlineClose p) := by
  unfold State.deadlineClose
  split
  · exact h
  · split
    · exact h.laneCount.reportAbsence.closeWindow
    · exact h.closeWindow
    · split
      · exact h.closeWindow
      · exact (Works.ite (fun _ => h) (fun _ => h.laneCount)).closeFrame.closeWindow

theorem Works.cutWindow {cut : FrameFlags → FrameFlags} (h : Works true s t) : Works true s (t.cutWindow p cut) := by
  unfold State.cutWindow
  split
  · exact h
  · split
    · exact h.reportAbsence.closeWindow
    · exact h.closeWindow
    · split
      · exact h.closeWindow
      · exact h.closeFrame.closeWindow

theorem Works.closeExposure (h : Works r s t) : Works r s (t.closeExposure p) := h.setLane id id (fun _ => ⟨rfl, rfl, rfl, rfl⟩)

theorem Works.abortLane (h : Works true s t) : Works true s (State.abortLane p t) := h.cutWindow.closeExposure

/-- A lane goes DOWN with its window closed and no retrain begun, as an acquisition needs it. -/
theorem Works.laneGoesDown (h : Works true s t) : Works true s (t.laneGoesDown p) := by
  unfold State.laneGoesDown
  extract_lets prev cut down
  have cuts : Works true s cut := h.cutWindow.closeExposure
  have downs : Works true s down :=
    cuts.setLane (fun g => ⟨g.1, rfl, g.2.2⟩) (fun _ => retrains_of_none rfl) nofun
  have rests : LaneRests (t.laneGoesDown p).lanes[p] := laneGoesDown_rests t p
  refine .ite (fun _ => downs) (fun _ => Works.laneNotice (downs.setLaneWhen ?_ ?_ ?_))
  · intro _ quiet a ha e
    obtain ⟨window, retrain, -⟩ := quiet a ha e
    exact ⟨window, retrain, .inr rfl⟩
  · exact fun _ => retrains_of_none (by simp only [down, State.setLane_lanes, upd_same])
  · exact fun _ => ⟨rfl, rfl, rfl, rfl⟩

/-! ## Triggers and packets (R39 to R43) -/

theorem Works.sendTrigger {q : TriggerRequest} (h : Works true s t) : Works true s (t.sendTrigger p q).1 := by
  unfold State.sendTrigger
  split
  · next locked =>
    have closed : Works true s (t.deadlineClose p) := h.deadlineClose
    have stays : (t.deadlineClose p).lanes[p].state = .locked :=
      ((deadlineClose_changes t p).laneStates (by decide) p).trans locked
    have free : Untouched (t.deadlineClose p) p :=
      untouched_of_awake (by rw [stays]; decide) (by rw [stays]; decide)
    unfold State.trigger
    extract_lets tag exposureEnd opened
    have opens : Works true s opened := closed.setLaneFree free id nofun
    exact .ite (fun _ => opens.setPower) (fun _ => opens)
  · exact h

theorem Works.setRx {rx : RxState} (h : Works true s t) : Works true s (t.setRx p rx) :=
  h.setLane (fun g => ⟨by rw [g.1]; rfl, g.2⟩) id nofun

theorem Works.openWindowFrame {w : RxWindow} (h : Works true s t) : Works true s (t.openWindowFrame p w) := by
  unfold State.openWindowFrame
  extract_lets q
  split
  · next u buffer name _ =>
    have stored : Works true s (t.setStore (fun _ => u)) := h.setStore
    have framed : Works true s ((t.setStore (fun _ => u)).setLane p (fun l => { l with
        frame := some (rxFrameOf w q buffer name) })) := stored.setLane id id nofun
    exact framed.setRx.laneCount
  · exact h.setRx.laneCount.dropFrame

theorem Works.protocolError (h : Works true s t) : Works true s (t.protocolError p) := h.laneCount

theorem Works.stray (h : Works true s t) : Works true s (t.stray p) := h.laneCount

theorem Works.takeFrameStart {tag : Byte} {width height depth : Nat} (h : Works true s t) :
    Works true s (t.takeFrameStart p tag width height depth) := by
  unfold State.takeFrameStart
  split
  · exact h.stray
  · split
    · exact .ite (fun _ => h.openWindowFrame) (fun _ => h.protocolError)
    · exact h.protocolError
    · exact h.protocolError

theorem Works.storeLine {f : RxFrame} {number : Nat} {bytes : List Byte} {crc : BitVec 32} (h : Works true s t) :
    Works true s (t.storeLine p f number bytes crc) := by
  unfold State.storeLine
  extract_lets values stored clamped bad written _ framed counted
  have writes : Works true s written := h.setDram (Memory.writeLine_wf _ _ _ _ _)
  have frames : Works true s framed := writes.setLane id id nofun
  have counts : Works true s counted := .ite (fun _ => frames.laneCount) (fun _ => frames)
  exact .ite (fun _ => counts.laneCount.laneDataError) (fun _ => counts)

theorem Works.takeLine {number : Nat} {pixels : List Byte} {crc : BitVec 32} (h : Works true s t) :
    Works true s (t.takeLine p number pixels crc) := by
  unfold State.takeLine
  split
  · exact h.stray
  · split
    · exact h.stray
    · exact h
    · split
      · exact h.stray
      · exact .ite (fun _ => h.storeLine) (fun _ => h.setLane id id nofun)

theorem Works.losesLock (h : Works true s t) (locked : t.lanes[p].state = .locked) : Works true s (t.losesLock p) := by
  have awake : (t.lockLoss p).lanes[p].state = .locked := by
    rw [(lockLoss_changes t p).laneStates (by decide) p, locked]
  have trains := (h.lockLoss (p := p)).startTraining (p := p) (start := t.clock)
    (untouched_of_awake (by rw [awake]; decide) (by rw [awake]; decide))
  unfold State.losesLock
  extract_lets u
  have told : Works true s u := trains.laneNotice
  split
  · exact told
  · exact told.laneCount.laneDataError.closeFrame

end Sys2Proof.Bounds
end

section
/-!
PROOFS. What the walk, the lenses, the sequencer and the power switches do.
-/

namespace Sys2Proof.Bounds

open Sys2Proof.Machine Sys2Proof.Safety Sys2Proof.Power

variable {r : Bool} {s t u : State} {p : Port}

/-! ## Moves and claims (R20, R21, R123 to R125) -/

theorem Works.windowWait (h : Works r s t) : Works r s (t.windowWait p) := h.setLens

theorem Works.beginMove {m : Move} (h : Works r s t) : Works r s (t.beginMove p m) := by
  unfold State.beginMove
  extract_lets estimate begun
  exact .ite (fun _ => h.setLens.usedFree) (fun _ => h.setLens)

theorem Works.beginOrWait (h : Works r s t) : Works r s (t.beginOrWait p) := by
  unfold State.beginOrWait
  split
  · exact h
  · exact .ite (fun _ => h.windowWait) (fun _ => .ite (fun _ => h.beginMove) (fun _ => h.setLens))

theorem Works.lensGranted (h : Works r s t) : Works r s (t.lensGranted p) := by
  unfold State.lensGranted
  extract_lets granted
  have grants : Works r s granted := h.setLens
  split
  · exact grants
  · exact .ite (fun _ => grants.beginOrWait) (fun _ => grants.windowWait)

theorem Works.grant {c : Claim} {rest : List Claim} (h : Works r s t) : Works r s (t.grant c rest) := by
  unfold State.grant
  simp only
  split
  · exact h.setClaims.setPowerState
  · exact h.setClaims.lensGranted

theorem Works.walkSteps : ∀ {n : Nat} {t : State}, Works r s t → Works r s (State.walkSteps n t)
  | 0, _, h => h
  | n + 1, t, h => by
    unfold State.walkSteps
    split
    · exact h
    · exact .ite (fun _ => Works.walkSteps h.grant) (fun _ => h)

theorem Works.walk (h : Works r s t) : Works r s t.walk := h.walkSteps

theorem Works.raisePowerClaim (h : Works r s t) : Works r s (t.raisePowerClaim p) := by
  unfold State.raisePowerClaim
  extract_lets walked
  have walks : Works r s walked := h.setClaims.walk
  exact .ite (fun _ => walks.setPowerState) (fun _ => walks)

/-! ## Lenses (R115 to R132) -/

theorem Works.lensCount {f : LensCounts → LensCounts} (h : Works r s t) : Works r s (t.lensCount p f) := h.setLens

theorem Works.releaseSurge (h : Works r s t) : Works r s (t.releaseSurge p) := by
  unfold State.releaseSurge
  exact .ite (fun _ => h.setLens.walk) (fun _ => h)

theorem Works.withdrawLensClaim (h : Works r s t) : Works r s (t.withdrawLensClaim p) := by
  unfold State.withdrawLensClaim
  exact .ite (fun _ => h.setLens.setClaims.walk) (fun _ => h)

theorem Works.raiseLensClaim (h : Works r s t) : Works r s (t.raiseLensClaim p) := h.setLens.setClaims.walk

theorem Works.fitOrWait (h : Works r s t) : Works r s (t.fitOrWait p) := by
  unfold State.fitOrWait
  split
  · exact h
  · refine .ite (fun _ => ?_) (fun _ => h.windowWait)
    split
    · exact h.beginOrWait
    · exact h.raiseLensClaim
    · exact h

theorem Works.startPending (h : Works r s t) : Works r s (t.startPending p) := by
  unfold State.startPending
  exact .ite (fun _ => h.fitOrWait) (fun _ => h)

theorem Works.waitEnded (h : Works r s t) : Works r s (t.waitEnded p) := by
  unfold State.waitEnded
  exact .ite (fun _ => h.fitOrWait) (fun _ => h)

theorem Works.setPending {m : Move} (h : Works r s t) : Works r s (t.setPending p m) := by
  unfold State.setPending
  extract_lets l
  split
  · exact h.setLens.startPending
  · exact .ite (fun _ => h.setLens.lensNotice.setLens.fitOrWait) (fun _ => h.setLens.lensNotice.startPending)

theorem Works.busPump (h : Works r s t) : Works r s (t.busPump p) := by
  unfold State.busPump
  extract_lets l
  refine .ite (fun _ => ?_) (fun _ => h)
  split
  · exact h.setLens
  · exact .ite (fun _ => h.beginOrWait) (fun _ => h)

theorem Works.askTxn {k : TxnKind} {bytes : List Byte} (h : Works r s t) : Works r s (t.askTxn p k bytes) :=
  h.setLens.busPump

theorem Works.sendStop (h : Works r s t) : Works r s (t.sendStop p) := h.askTxn

theorem Works.lensRests {st : LensState} {position : Axes} {fault : Option LensFault} {event : LensEvent}
    {move : Option Move} (h : Works r s t) : Works r s (t.lensRests p st position fault event move) :=
  h.setLens.releaseSurge.lensNotice.startPending

theorem Works.afterFailure (h : Works r s t) : Works r s (t.afterFailure p) := by
  unfold State.afterFailure
  split
  · exact h
  · split
    · exact h.setLens.withdrawLensClaim.lensNotice
    · exact h.setLens.startPending

theorem Works.lensFails {st : LensState} {fault : LensFault} {event : LensEvent} (h : Works r s t) :
    Works r s (t.lensFails p st fault event) := h.setLens.releaseSurge.lensNotice.afterFailure

theorem Works.reported {bytes : List Byte} (h : Works r s t) : Works r s (t.reported p bytes).1 :=
  .ite (fun _ => h) (fun _ => h.usedFree)

theorem Works.moveDone {m : Move} {position : Axes} (h : Works r s t) : Works r s (t.moveDone p m position) :=
  h.lensCount.lensRests

theorem Works.settled {f : Flight} {bytes : List Byte} (h : Works r s t) : Works r s (t.settled p f bytes) := by
  unfold State.settled
  split
  · exact h.moveDone
  · exact .ite (fun _ => h.reported.moveDone) (fun _ => h.reported.setLens)

theorem Works.answered (h : Works r s t) : Works r s (t.answered p) := h.setLens

theorem Works.silent (h : Works r s t) : Works r s (t.silent p) := by
  unfold State.silent
  exact .ite (fun _ => h.setLens.lensFails.lensSilent) (fun _ => h.setLens)

theorem Works.noAnswer {k : TxnKind} (h : Works r s t) : Works r s (t.noAnswer p k) := by
  unfold State.noAnswer
  exact .ite (fun _ => h.lensCount) (fun _ => .ite (fun _ => h.lensCount.setLens) (fun _ => h.lensCount.silent))

theorem Works.rejected {k : TxnKind} (h : Works r s t) : Works r s (t.rejected p k) := by
  unfold State.rejected
  extract_lets u l
  have counted : Works r s u := h.answered.lensCount
  split
  · split
    · exact counted
    · exact counted.lensRests
  · exact .ite (fun _ => counted.lensFails) (fun _ => counted)
  · exact counted
  · exact counted

theorem Works.reportTaken {k : TxnKind} {bytes : List Byte} (h : Works r s t) :
    Works r s (t.reportTaken p k bytes) := by
  unfold State.reportTaken
  extract_lets u
  have answers : Works r s u := h.answered
  refine .ite (fun _ => answers.lensCount) (fun _ => .ite (fun _ => answers) (fun _ => ?_))
  split
  · split
    · exact answers
    · exact .ite (fun _ => answers) (fun _ => answers.settled)
  · split
    · exact answers
    · exact answers.reported.lensRests
  · exact answers
  · exact answers

theorem Works.acknowledged {k : TxnKind} (h : Works r s t) : Works r s (t.acknowledged p k) := by
  unfold State.acknowledged
  exact .ite (fun _ => h.answered.setLens) (fun _ => h.answered)

theorem Works.arbLimit {k : TxnKind} (h : Works r s t) : Works r s (t.arbLimit p k) := by
  unfold State.arbLimit
  extract_lets l
  split
  · exact h
  · exact .ite (fun _ => h.lensFails) (fun _ => h)
  · split
    · exact h
    · exact h.lensRests
  · split
    · exact h
    · split <;> exact h.lensRests

theorem Works.lensOff (h : Works r s t) : Works r s (t.lensOff p) := by
  unfold State.lensOff
  exact .ite (fun _ => h.setLens.setClaims) (fun _ => h.setLens.setClaims.lensNotice)

theorem Works.lensOn (h : Works r s t) : Works r s (t.lensOn p) := by
  unfold State.lensOn
  exact .ite (fun _ => h.setLens.setPending) (fun _ => h.setLens.startPending)

theorem Works.postPreset {index : Fin 8} (h : Works r s t) : Works r s (t.postPreset p index) := by
  have posts : ∀ {c : Prop} [Decidable c] {m : Move}, Works r s (if c then t else t.setPending p m) :=
    .ite (fun _ => h) (fun _ => h.setPending)
  unfold State.postPreset
  extract_lets l bound
  split
  · exact posts
  · exact posts
  · exact posts
  all_goals exact h

theorem Works.poll {f : Flight} (h : Works r s t) : Works r s (t.poll p f) := by
  unfold State.poll
  exact .ite (fun _ => .ite (fun _ => h.setLens.askTxn) (fun _ => h.setLens.askTxn)) (fun _ => h.setLens)

theorem Works.stall {fault : LensFault} (h : Works r s t) : Works r s (t.stall p fault) := h.lensCount.lensFails

theorem Works.haltPoll {x : HaltRead} (h : Works r s t) : Works r s (t.haltPoll p x) := by
  unfold State.haltPoll
  exact .ite (fun _ => h.setLens) (fun _ => h.setLens.askTxn)

theorem Works.busFree (h : Works r s t) : Works r s (t.busFree p) := h.setLens

theorem Works.txnOutcome {k : TxnKind} {o : BusOutcome} (h : Works r s t) : Works r s (t.txnOutcome p k o) := by
  cases o with
  | ack => exact h.acknowledged
  | noAnswer => exact h.noAnswer
  | rejected => exact h.rejected
  | report bytes => exact h.reportTaken

theorem Works.hang {stop : Bool} (h : Works r s t) : Works r s (t.hang p stop) := by
  unfold State.hang
  split
  · exact h
  · exact h
  · exact .ite (fun _ => h) (fun _ => h.lensFails)
  all_goals exact h.lensFails

theorem Works.enterRecovery (h : Works r s t) : Works r s (t.enterRecovery p) := h.setLens.lensCount

theorem Works.loseBus {x : Txn} (h : Works r s t) : Works r s (t.loseBus p x) := by
  unfold State.loseBus
  exact .ite (fun _ => h.lensCount.setLens) (fun _ => h.lensCount.setLens.arbLimit)

theorem Works.headActs {m : HeadMessage} (h : Works r s t) : Works r s (t.headActs p m) := by
  unfold State.headActs
  split
  · exact .ite (fun _ => h.stall) (fun _ => h)
  · split
    · exact h
    · exact h
    all_goals exact h.sendStop.lensFails

theorem Works.headMessage {bytes : List Byte} (h : Works r s t) : Works r s (t.headMessage p bytes) := by
  unfold State.headMessage
  refine .ite (fun _ => ?_) (fun _ => h)
  split
  · exact h.lensCount
  · exact (h.lensCount.post (fun _ => rfl)).headActs

theorem Works.haltPending (h : Works r s t) : Works r s (t.haltPending p) := h.setLens.withdrawLensClaim

theorem Works.beginHaltRead {move : Option Move} (h : Works r s t) : Works r s (t.beginHaltRead p move) :=
  h.setLens.askTxn

theorem Works.haltEnds {move : Option Move} (h : Works r s t) : Works r s (t.haltEnds p move) :=
  h.releaseSurge.lensNotice

theorem Works.stopIfOn (h : Works r s t) : Works r s (t.stopIfOn p) := by
  unfold State.stopIfOn
  exact .ite (fun _ => h.sendStop) (fun _ => h)

theorem Works.haltLens (h : Works r s t) : Works r s (t.haltLens p) := by
  unfold State.haltLens
  extract_lets u flight move
  have halted : Works r s u := h.haltPending
  split
  · exact halted.beginHaltRead
  · exact .ite (fun _ => halted.setLens.haltEnds) (fun _ => halted.setLens.sendStop.beginHaltRead)
  · exact halted.setLens.sendStop.haltEnds
  case h_7 => exact halted
  all_goals exact halted.stopIfOn.haltEnds

/-! ## The sequencer (R50, R60 to R65, R68) -/

theorem Works.postSlot {k : Option (Fin 4 × Slot)} (h : Works r s t) : Works r s (t.postSlot p k) := by
  unfold State.postSlot
  split
  · exact h
  · split
    · exact h
    · exact h.postPreset

theorem Works.postAfter {slot : Fin 4} (h : Works r s t) : Works r s (t.postAfter p slot) := by
  unfold State.postAfter
  exact .ite (fun _ => h) (fun _ => h.postSlot)

theorem Works.waitsEnd {ps : List Port} (h : Works r s t) : Works r s (t.waitsEnd ps) :=
  Works.forPorts (fun _ g => g.waitEnded) h

theorem Works.beginCycle {delayed : Bool} (h : Works r s t) : Works r s (t.beginCycle delayed) := by
  unfold State.beginCycle
  split
  · exact h
  · extract_lets n last next u
    have used : Works r s (if last then t.usedFree else t) := .ite (fun _ => h.usedFree) (fun _ => h)
    have begun : Works r s u := used.setSeq (fun _ => rfl)
    exact (Works.forPorts (fun _ g => g.postSlot) begun).sweepResume

theorem Works.overrun {source : StartSource} (h : Works r s t) : Works r s (t.overrun source) :=
  (h.setSeq (fun _ => rfl)).post (fun _ => rfl)

theorem Works.takeStart {source : StartSource} (h : Works r s t) : Works r s (t.takeStart source).1 := by
  have pends : ∀ g, Works r s (t.setSeq (fun q => { q with pending := g })) :=
    fun _ => h.setSeq (fun _ => rfl)
  unfold State.takeStart
  split
  · exact h
  · exact h
  · exact h.setSeq (f := fun q => { q with ignored := sat32 q.ignored }) (fun _ => rfl)
  · split
    · exact h.overrun
    split
    · exact pends _
    · exact h.beginCycle
  · split
    · exact h.overrun
    · exact pends _

theorem Works.planEnds {cause : PlanCause} (h : Works r s t) : Works r s (t.planEnds cause) :=
  (h.setSeq (fun _ => rfl)).planNotice.storePlanEnded.walk.waitsEnd.sweepResume

theorem Works.endCycle (h : Works r s t) : Works r s t.endCycle := by
  unfold State.endCycle
  split
  · exact h.planEnds
  · extract_lets armed next
    have arms : Works r s armed := h.setSeq (fun _ => rfl)
    have begins : Works r s next := by
      cases pending : t.seq.pending with
      | none => simpa only [next, pending] using arms
      | some g =>
        simp only [next, pending]
        exact .ite (fun _ => arms.setSeq (fun _ => rfl)) (fun _ => arms.beginCycle)
    exact begins.waitsEnd.sweepResume
  all_goals exact h

theorem Works.checkCycle (h : Works r s t) : Works r s t.checkCycle :=
  .ite (fun _ => h.endCycle) (fun _ => h.sweepResume)

theorem Works.exposureEnds (h : Works r s t) : Works r s (t.exposureEnds p) := by
  unfold State.exposureEnds
  split
  · exact h
  · extract_lets closed posted
    have closes : Works r s closed := h.closeExposure
    have posts : Works r s posted := .ite (fun _ => closes.postAfter) (fun _ => closes)
    exact posts.waitsEnd.busPump.sweepResume

theorem Works.takeFrameEnd {tag : Byte} {lineCount : Nat} (h : Works true s t) :
    Works true s (t.takeFrameEnd p tag lineCount) := by
  unfold State.takeFrameEnd
  split
  · exact h.stray
  · split
    · exact h.protocolError
    · exact .ite (fun _ => h.closeWindow.checkCycle) (fun _ => h.protocolError)
    · refine .ite (fun _ => Works.checkCycle (Works.closeWindow ?_)) (fun _ => h.protocolError)
      split
      · exact h
      · exact h.laneCount.closeFrame

theorem Works.skipSlot {slot : Fin 4} {c : Cycle} (h : Works r s t) : Works r s (t.skipSlot p slot c) :=
  (h.setSeq (fun _ => rfl)).reportAbsence.postAfter

theorem Works.dispatchPort {slot : Fin 4} {k : Slot} {c : Cycle} (h : Works true s t) :
    Works true s (State.dispatchPort slot k c p t) := by
  unfold State.dispatchPort
  refine .ite (fun _ => h) (fun _ => .ite (fun _ => ?_) (fun _ => h.skipSlot))
  exact .ite (fun _ => h.sendTrigger.setSeq nofun) (fun _ => h.sendTrigger.skipSlot)

theorem Works.dispatch {slot : Fin 4} {k : Slot} {c : Cycle} (h : Works true s t) :
    Works true s (t.dispatch slot k c) :=
  (Works.forPorts (fun _ g => g.dispatchPort) (h.setSeq nofun)).checkCycle

theorem Works.armPlan (h : Works true s t) : Works true s t.armPlan := by
  have armed := (h.setSeq (f := fun q => { q with
    state := .armed
    cycleCounter := 0
    begun := 0
    delayed := 0
    overruns := 0
    ignored := 0
    missed := Vector.replicate 4 (Vector.replicate 8 0)
    exceed := Vector.replicate 8 0 }) nofun).planNotice (prev := .loaded) (cause := .arm)
  exact .ite (fun _ => armed.takeStart) (fun _ => armed.sweepResume)

theorem Works.abortPlan (h : Works true s t) : Works true s t.abortPlan :=
  Works.forPorts (fun _ g => g.busPump) (Works.forPorts (fun _ g => g.abortLane) h).planEnds

/-! ## Power (R2 to R14, R25 to R27) -/

theorem Works.leftOn (h : Works true s t) : Works true s (t.leftOn p) :=
  h.laneGoesDown.lensOff.walk.discardAcquisitions.checkCycle.laneLeftQuiet.sweepResume

theorem Works.portGoes {new : PowerState} {reason : OffReason} (h : Works true s t) :
    Works true s (t.portGoes p new reason) := by
  unfold State.portGoes
  have goes : Works true s (t.setPowerState p new reason) := h.setPowerState
  refine .ite (fun _ => h.setPower) (fun _ => ?_)
  simp only
  split
  · exact goes.leftOn
  · exact goes.walk
  · exact goes.setClaims.walk
  · exact goes

theorem Works.portEntersOn (h : Works true s t) : Works true s (t.portEntersOn p) :=
  h.setPowerState.laneEntersOn.lensOn.discardAcquisitions.sweepResume

theorem Works.openLoad (h : Works true s t) : Works true s (t.openLoad p) := h.portGoes.powerOpen

theorem Works.trip {cause : TripCause} {current : Nat} (h : Works true s t) : Works true s (t.trip p cause current) :=
  (h.setPower.post (fun _ => rfl)).portGoes.tripEvidence

theorem Works.overdrawCheck (h : Works r s t) : Works r s (t.overdrawCheck p) := by
  unfold State.overdrawCheck
  extract_lets average base
  exact .ite (fun _ => .ite (fun _ => h.setPower) (fun _ => h))
    (fun _ => .ite (fun _ => h.setPower.post (fun _ => rfl)) (fun _ => h))

theorem Works.sample {milliamps : Nat} (h : Works r s t) : Works r s (t.sample p milliamps) := by
  unfold State.sample
  extract_lets st v u
  have taken : Works r s u := h.setPower
  exact .ite (fun _ => .ite (fun _ => taken.setPower.setPower.overdrawCheck) (fun _ => taken.setPower)) (fun _ => taken)

theorem Works.probeResult {milliamps : Nat} (h : Works r s t) : Works r s (t.probeResult p milliamps) := by
  unfold State.probeResult
  extract_lets u was absent present told
  have ended : Works r s u := h.setPower
  have tells : Works r s told := .ite (fun _ => ended.setPower) (fun _ => ended.setPower.attachNotice)
  exact .ite (fun _ => .ite (fun _ => ended.setPower.attachNotice) (fun _ => ended.setPower))
    (fun _ => .ite (fun _ => .ite (fun _ => tells.raisePowerClaim) (fun _ => tells)) (fun _ => ended.powerShort))

theorem Works.measured {millivolts : Nat} (h : Works r s t) : Works r s (t.measured millivolts) := h.setSupply

theorem Works.shed (h : Works true s t) : Works true s (State.shed p t) := h.portGoes.setPower

theorem Works.shedPorts {event : SupplyEvent} {ps : List Port} (h : Works true s t) :
    Works true s (t.shedPorts event ps) := (Works.forPorts (fun _ g => g.shed) h).post (fun _ => rfl)

theorem Works.becomeLow (h : Works true s t) : Works true s t.becomeLow := h.setSupply.shedPorts

theorem Works.fullCheck {millivolts : Nat} (h : Works true s t) : Works true s (t.fullCheck millivolts) := by
  unfold State.fullCheck
  exact .ite (fun _ => h.measured.setSupply.setSupply.shedPorts) (fun _ => h.measured.setSupply)

theorem Works.raiseShed (h : Works r s t) : Works r s (State.raiseShed p t) := h.setPower.raisePowerClaim

theorem Works.recover (h : Works r s t) : Works r s t.recover := by
  have walked := ((h.setSupply (x := { t.supply with low := none, fullCheckAt := none })).post (port := none)
    (body := .supply .recovered t.supply.millivolts (portsWhere (fun p => t.power[p].shedMark))) (fun _ => rfl)).walk
  unfold State.recover
  simp only
  split
  · exact walked
  · exact Works.forPorts (fun _ g => g.raiseShed) walked

/-! ## The break table's window, the sweeps' events and the profile store (R138 to R142, R159 to R169, R181, R182) -/

theorem Works.judgeAbove (h : Works r s t) : Works r s (t.judgeAbove p) := by
  unfold State.judgeAbove
  extract_lets e sub counted
  have counts : Works r s counted := h.submitEvidence.setEvidence
  split
  · exact counts
  · next i _ =>
    extract_lets confirmed masked
    have masks : Works r s masked := (Works.ite (fun _ => counts.confirmBreak) (fun _ => counts)).setBreak
    split
    · exact .ite (fun _ => masks.autoSweep) (fun _ => masks)
    · exact masks

theorem Works.judgeQuiet (h : Works r s t) : Works r s (t.judgeQuiet p) := by
  unfold State.judgeQuiet
  extract_lets u
  have counts : Works r s u := h.setEvidence
  refine .ite (fun _ => ?_) (fun _ => counts)
  split
  · exact counts.clearBreak
  · exact counts

theorem Works.judgePort (h : Works r s t) : Works r s (State.judgePort p t) :=
  (Works.ite (fun _ => h.judgeAbove) (fun _ => h.judgeQuiet)).setEvidence

theorem Works.beginWindow (h : Works r s t) : Works r s t.beginWindow := h.setMonitor

theorem Works.restartCounts (h : Works r s t) : Works r s (State.restartCounts p t) := h.setEvidence

theorem Works.submitFaults {st : BreakState} {sweep : Nat} {segment : Segment} :
    ∀ {rs : List Reflection} {t : State}, Works r s t → Works r s (State.submitFaults p st sweep segment rs t).1
  | [], _, h => h
  | x :: rs, t, h => by
    unfold State.submitFaults
    split
    · exact Works.submitFaults (rs := rs) h.submitReflection
    · exact Works.submitFaults (rs := rs) h

theorem Works.endFaultSweep {w : Sweep} {outcome : SweepState} {found : List Reflection} {calibration required : Nat}
    (h : Works r s t) : Works r s (t.endFaultSweep w outcome found calibration required) := by
  unfold State.endFaultSweep
  extract_lets port kept reported st sub nearest located
  have submitted : Works r s sub.1 := h.submitFaults
  have locates : Works r s located := by
    simp only [located]
    cases nearest with
    | none => exact submitted
    | some n =>
      simp only
      cases n.record with
      | none => exact submitted
      | some id => exact .ite (fun _ => submitted.locate) (fun _ => submitted)
  exact locates.endSweep

theorem Works.endBaselineSweep {w : Sweep} {outcome : SweepState} {found : List Reflection} {calibration required : Nat}
    (h : Works r s t) : Works r s (t.endBaselineSweep w outcome found calibration required) := by
  unfold State.endBaselineSweep
  simp only
  split
  · exact h.endSweep
  · exact .ite (fun _ => h.setSettings.endSweep) (fun _ => h.endSweep)

theorem Works.analysed {w : Sweep} (h : Works r s t) : Works r s (t.analysed w) := by
  unfold State.analysed
  simp only
  split
  · exact h.endFaultSweep
  · exact h.endBaselineSweep

theorem Works.gatheringEnds {w : Sweep} (h : Works r s t) (sweep : t.sweeps.sweep = some w) :
    Works r s (t.gatheringEnds w) := by
  unfold State.gatheringEnds
  exact .ite (fun _ => h.dropAcquisition.beginAnalysis sweep) (fun _ => h.endSweep)

theorem Works.calibrated {w : Sweep} {count : Nat} (h : Works r s t) : Works r s (t.calibrated w count) := by
  unfold State.calibrated
  exact .ite (fun _ => (h.setSweep (by intro _; rfl)).setResult.sweepTest) (fun _ => h.endSweep)

theorem Works.gather {a : Acquisition} {deviations : List Int} (h : Works r s t) :
    Works r s (t.gather a deviations) := by
  unfold State.gather
  exact .ite (fun _ => (h.setSweep (by intro _; rfl)).setResult) (fun _ => h)

theorem gather_acquisition (t : State) (a : Acquisition) (deviations : List Int) :
    (t.gather a deviations).sweeps.acquisition = t.sweeps.acquisition := by
  unfold State.gather
  split <;> rfl

theorem Works.laneAfterAcquisition {a : Acquisition} (h : Works true s t) (free : t.sweeps.acquisition = none) :
    Works true s (t.laneAfterAcquisition a) := by
  have untouched : Untouched t a.port := untouched_of_none free
  unfold State.laneAfterAcquisition
  extract_lets l
  split
  · next quiet => exact h.setLaneFree untouched (fun _ _ => quiet) nofun
  · refine .ite (fun _ => h.startTraining untouched) (fun _ => .ite (fun _ => h.laneFirstTraining ?_) (fun _ => h))
    simp only [State.acquiringOn, free]
  · exact h
  · exact h

theorem Works.sweepAfterAcquisition (h : Works r s t) : Works r s (t.sweepAfterAcquisition p) := by
  unfold State.sweepAfterAcquisition
  split
  · exact h.takeNextSweep
  · next sweep =>
    exact .ite (fun _ => h.beginAnalysis sweep) (fun _ => .ite (fun _ => h) (fun _ => h.laneLeftQuiet))

theorem Works.acquisitionEnds {a : Acquisition} {deviations : List Int} (h : Works true s t) :
    Works true s (t.acquisitionEnds a deviations) := by
  have ended : Works true s { t with sweeps := { t.sweeps with acquisition := none } } := h.setSweeps id nofun
  exact ((ended.gather (a := a) (deviations := deviations)).laneAfterAcquisition
    (gather_acquisition _ a deviations)).sweepAfterAcquisition

theorem Works.writeEnds {w : ProfileWrite} {agrees : Bool} (h : Works r s t) : Works r s (t.writeEnds w agrees) := by
  have written := h.setProfile (x := { t.profile with image := if agrees then some w.snapshot else none, write := none })
  exact written.post (fun _ => by cases agrees <;> rfl)

theorem Works.takeProfile {f : PortProfile} (h : Works r s t) : Works r s (t.takeProfile p f) :=
  h.setSettings.setPower.setLens

theorem Works.restoreDefaults (h : Works r s t) : Works r s t.restoreDefaults :=
  Works.walk (((Works.forPorts (ps := allPorts) (f := fun p t => t.takeProfile p {}) (fun _ g => g.takeProfile) h)).trans
    (.of_same r rfl rfl rfl rfl rfl (fun _ => rfl)))

end Sys2Proof.Bounds
end

section
/-!
PROOFS. The requests' owners, the resets and the commands keep the invariants, and so does every step: the canonical form of
the frame DRAM, and the bounds of the queues and acquisitions apart from triggers.
-/

namespace Sys2Proof.Bounds

open Sys2Proof.Machine Sys2Proof.Safety Sys2Proof.Power

variable {s t : State}

/-! ## The control link (R172 to R177) -/

theorem refusals_append (l : Link) (r : Reply) :
    { l with replies := l.replies ++ [r] }.refusals = l.refusals + if r.refusal then 1 else 0 := by
  unfold Link.refusals
  cases h : r.refusal <;> simp [List.filter_append, h]

theorem Keeps.answer {st : Status} {fields : List Byte} (h : Keeps s t) : Keeps s (t.answer st fields) := by
  refine h.trans (.of_link t _ (fun bounds => ?_))
  obtain ⟨requests, refusals, notices, lost⟩ := bounds
  unfold Link.answer
  split
  · exact ⟨requests, refusals, notices, lost⟩
  · refine ⟨requests, ?_, notices, lost⟩
    exact (refusals_append t.link _).trans_le refusals

theorem Keeps.reply {st : Status} (h : Keeps s t) : Keeps s (t.reply st) := h.answer

theorem refuses (s : State) (st : Status) : Keeps s (s.reply st) := (Keeps.refl s).reply

theorem answers (s : State) (st : Status) (fields : List Byte) : Keeps s (s.answer st fields) := (Keeps.refl s).answer

theorem Works.answer {st : Status} {fields : List Byte} (h : Works true s t) : Keeps s (t.answer st fields) :=
  h.toKeeps.answer

theorem Works.reply {st : Status} (h : Works true s t) : Keeps s (t.reply st) := h.toKeeps.reply

theorem transmit_bounds {l : Link} {s : State} (h : LinkBounds { s with link := l }) :
    LinkBounds { s with link := l.transmit } := by
  obtain ⟨requests, refusals, notices, lost⟩ := h
  unfold Link.transmit
  split
  · exact ⟨requests, refusals, notices, lost⟩
  · split
    · next r rest replies =>
      refine ⟨requests, Nat.le_trans ?_ refusals, notices, lost⟩
      simp only [Link.refusals, replies, List.filter_cons]
      split <;> simp
    · split
      · next n rest queue =>
        refine ⟨requests, refusals, ?_, Nat.zero_le _⟩
        simp only [queue, List.length_cons] at notices
        exact Nat.le_of_succ_le notices
      · exact ⟨requests, refusals, notices, lost⟩

theorem Keeps.transmit (h : Keeps s t) : Keeps s t.transmit := h.trans (.of_link t _ transmit_bounds)

theorem enqueue_bounds {l : Link} {s : State} (q : Request) (h : LinkBounds { s with link := l }) :
    LinkBounds { s with link := l.enqueue q } := by
  obtain ⟨requests, refusals, notices, lost⟩ := h
  unfold Link.enqueue
  split
  · next room => exact ⟨by simp only [List.length_append, List.length_singleton]; omega, refusals, notices, lost⟩
  · split
    · next room => exact ⟨requests, (refusals_append l _).trans_le room, notices, lost⟩
    · exact ⟨requests, refusals, notices, lost⟩

theorem delimiter_bounds {l : Link} {s : State} (bytes : List LineByte) (h : LinkBounds { s with link := l }) :
    LinkBounds { s with link := l.delimiter bytes } := by
  unfold Link.delimiter
  split
  · exact h
  · exact h
  · unfold Link.take
    simp only
    split
    · exact enqueue_bounds _ h
    · exact h

theorem sent_bounds {l : Link} {s : State} (k : TxKind) (h : LinkBounds { s with link := l }) :
    LinkBounds { s with link := l.sent k } := by
  obtain ⟨requests, refusals, notices, lost⟩ := h
  have served : l.requests.tail.length ≤ 8 := by
    rw [List.length_tail]
    exact Nat.le_trans (Nat.sub_le _ _) requests
  cases k with
  | reply reset =>
    cases reset with
    | true => exact ⟨served, refusals, Nat.zero_le _, Nat.zero_le _⟩
    | false => exact ⟨served, refusals, notices, lost⟩
  | refusal => exact ⟨requests, refusals, notices, lost⟩
  | notice => exact ⟨requests, refusals, notices, lost⟩

/-! ## The owners of the requests -/

/-- A request about a port that replies by the port's number. -/
theorem status_keeps (s : State) (body : List Byte) (fields : Port → List Byte) :
    Keeps s (match portAt body 0 with
      | none => s.reply .outOfRange
      | some p => s.answer .ok (fields p)) := by
  split
  · exact refuses s _
  · exact answers s _ _

theorem Works.begins (s : State) : Works true s s := .refl true s

theorem portConfig_keeps (body : List Byte) (s : State) : Keeps s (s.portConfig body) := by
  unfold State.portConfig
  split
  · exact refuses s _
  · split
    · exact refuses s _
    · split
      · exact refuses s _
      · exact (Works.begins s).takeProfile.reply

theorem portPowerOn_keeps (p : Port) (s : State) : Keeps s (State.portPowerOn p s) := by
  unfold State.portPowerOn
  split
  case h_1 => exact (Works.begins s).raisePowerClaim.reply
  case h_2 => exact (Works.begins s).raisePowerClaim.reply
  all_goals exact refuses s _

theorem portPowerOff_keeps (p : Port) (s : State) : Keeps s (State.portPowerOff p s) := by
  unfold State.portPowerOff
  split
  · exact refuses s _
  · exact (Works.begins s).portGoes.setPower.reply

theorem portPowerProbe_keeps (p : Port) (s : State) : Keeps s (State.portPowerProbe p s) := by
  unfold State.portPowerProbe
  split
  · exact refuses s _
  · exact (Works.begins s).setPower.reply
  · exact (Works.begins s).portGoes.setPower.reply

theorem portUnlock_keeps (body : List Byte) (s : State) : Keeps s (s.portUnlock body) := by
  unfold State.portUnlock
  split
  · exact refuses s _
  · split
    · exact (Works.begins s).setPower.setPowerState.reply
    · exact refuses s _

theorem setCapacity_keeps (body : List Byte) (s : State) : Keeps s (s.setCapacity body) := by
  unfold State.setCapacity
  extract_lets n
  split
  · exact refuses s _
  · split
    · exact answers s _ _
    · exact (Works.begins s).setSettings.walk.reply

theorem planLoad_keeps (body : List Byte) (s : State) : Keeps s (s.planLoad body) := by
  unfold State.planLoad
  split
  · exact refuses s _
  · split
    · exact refuses s _
    · split
      · exact answers s _ _
      · exact ((Works.begins s).setSeq nofun).planNotice.sweepResume.answer

theorem planArm_keeps (s : State) : Keeps s s.planArm := by
  unfold State.planArm
  split
  · split
    · exact answers s _ _
    · split
      · exact answers s _ _
      · exact (Works.begins s).armPlan.answer
  · exact refuses s _

theorem planStop_keeps (s : State) : Keeps s s.planStop := by
  unfold State.planStop
  split
  · exact (Works.begins s).planEnds.reply
  · exact ((Works.begins s).setSeq nofun).planNotice.sweepResume.reply
  all_goals exact refuses s _

theorem planAbort_keeps (s : State) : Keeps s s.planAbort := by
  unfold State.planAbort
  split
  · exact (Works.begins s).abortPlan.reply
  · exact refuses s _

theorem planClear_keeps (s : State) : Keeps s s.planClear := by
  unfold State.planClear
  split
  · exact ((Works.begins s).setSeq nofun).planNotice.sweepResume.reply
  all_goals exact refuses s _

theorem planFire_keeps (s : State) : Keeps s s.planFire := by
  have fires : Keeps s (if s.seq.lineTrigger then
      (s.takeStart .fire).1.answer .ok (num1 (s.takeStart .fire).2.code) else s.reply .wrongState) := by
    split
    · exact (Works.begins s).takeStart.answer
    · exact refuses s _
  unfold State.planFire
  split
  · exact fires
  · exact fires
  all_goals exact refuses s _

theorem frameHold_keeps (body : List Byte) (s : State) : Keeps s (s.frameHold body) := by
  unfold State.frameHold
  extract_lets id
  split
  · exact (Works.begins s).setStore.reply
  · exact refuses s _

theorem frameRelease_keeps (body : List Byte) (s : State) : Keeps s (s.frameRelease body) := by
  unfold State.frameRelease
  extract_lets id
  split
  · split
    · exact refuses s _
    · exact (Works.begins s).setStore.reply
  · exact refuses s _

theorem storeStatus_keeps (body : List Byte) (s : State) : Keeps s (s.storeStatus body) := by
  unfold State.storeStatus
  split
  · exact refuses s _
  · split
    · exact answers s _ _
    · split
      · exact refuses s _
      · exact answers s _ _

/-- An entry joins a region queue that holds fewer than 4. -/
theorem joinRegion_keeps {s : State} (e : RegionEntry) (room : s.uplink.regions.length < 4) :
    Keeps s (s.joinRegion e) := by
  refine Keeps.trans (t := s.setUplink (fun u => { u with regions := u.regions ++ [e], regionCounter := e.number })) ?_
    (Works.begins _).sendChoice.toKeeps
  refine ⟨id, id, fun _ => ?_, id, id, id⟩
  show (s.uplink.regions ++ [e]).length ≤ 4
  rw [List.length_append]
  exact room

theorem regionRead_keeps (body : List Byte) (s : State) : Keeps s (s.regionRead body) := by
  unfold State.regionRead
  extract_lets id start mode count
  split
  · exact refuses s _
  · split
    · exact refuses s _
    · split
      · exact refuses s _
      · split
        · exact refuses s _
        · next room => exact (joinRegion_keeps _ (Nat.not_le.mp room)).answer

theorem takeMove_keeps (s : State) (p : Port) (a : Axes) : Keeps s (s.takeMove p a) := by
  unfold State.takeMove
  extract_lets taken
  have takes : Works true s taken := (Works.begins s).setPending
  split
  · exact takes.reply
  · exact takes.answer

theorem lensMove_keeps (body : List Byte) (s : State) : Keeps s (s.lensMove body) := by
  unfold State.lensMove
  split
  · exact refuses s _
  · split
    · exact refuses s _
    · split
      · exact refuses s _
      · split
        · exact takeMove_keeps s _ _
        · exact refuses s _

theorem lensPreset_keeps (body : List Byte) (s : State) : Keeps s (s.lensPreset body) := by
  unfold State.lensPreset
  split
  · split
    · exact refuses s _
    · exact (Works.begins s).setPending.reply
  · exact refuses s _

theorem lensHome_keeps (body : List Byte) (s : State) : Keeps s (s.lensHome body) := by
  unfold State.lensHome
  split
  · exact refuses s _
  · split
    · exact refuses s _
    · exact (Works.begins s).setPending.reply

theorem lensHalt_keeps (body : List Byte) (s : State) : Keeps s (s.lensHalt body) := by
  unfold State.lensHalt
  split
  · exact refuses s _
  · split
    · exact refuses s _
    · split
      · exact refuses s _
      · exact (Works.begins s).haltLens.reply

theorem motionSegment_keeps (body : List Byte) (s : State) : Keeps s (s.motionSegment body) := by
  unfold State.motionSegment
  split
  · exact refuses s _
  · split
    · exact refuses s _
    · exact (Works.begins s).setMonitor.sweepResume.reply

theorem breakList_keeps (body : List Byte) (s : State) : Keeps s (s.breakList body) := by
  unfold State.breakList
  split
  · exact answers s _ _
  · exact status_keeps s body _

theorem clearWhere_keeps (s : State) (f : BreakRecord → Bool) : Keeps s (s.clearWhere f) :=
  (Works.forPorts (fun _ g => g.restartCounts) (Works.forPlaces (fun _ g => g.clearBreak) (Works.begins s))).answer

theorem breakClear_keeps (body : List Byte) (s : State) : Keeps s (s.breakClear body) := by
  unfold State.breakClear
  extract_lets target
  split
  · split
    · exact clearWhere_keeps s _
    · exact refuses s _
  · split
    · exact clearWhere_keeps s _
    · exact refuses s _
  · exact clearWhere_keeps s _
  · exact refuses s _

theorem cableSet_keeps (body : List Byte) (s : State) : Keeps s (s.cableSet body) := by
  unfold State.cableSet
  split
  · split
    · exact refuses s _
    · exact (Works.begins s).setSettings.reply
  · exact refuses s _

/-- An update in place keeps the ports of the queue. -/
theorem updated_ports (queue : List SweepEntry) (place : Nat) (e : SweepEntry) :
    (queue.modify place (fun q => q.update e)).map (·.port) = queue.map (·.port) := by
  induction queue generalizing place with
  | nil => cases place <;> rfl
  | cons q rest ih =>
    cases place with
    | zero => rfl
    | succ n => simp only [List.modify_succ_cons, List.map_cons, ih]

theorem updateEntry_keeps (s : State) (e : SweepEntry) (place : Nat) : Keeps s (s.updateEntry e place) :=
  ((Works.begins s).setQueue (fun n => by simpa only [SweepPorts, updated_ports] using n) (by rfl)).answer

theorem sweepRequest_keeps (body : List Byte) (s : State) : Keeps s (s.sweepRequest body) := by
  unfold State.sweepRequest
  split
  · exact refuses s _
  · next e _ =>
    split
    · exact refuses s _
    · split
      · exact refuses s _
      · next idle =>
        split
        · exact updateEntry_keeps s _ _
        · next unqueued =>
          refine ((Works.begins s).joinSweepQueue ?_).answer
          refine Bool.or_eq_false_iff.mpr ⟨?_, ?_⟩
          · exact List.any_eq_false.mpr (fun q hq => by simpa using List.findIdx?_eq_none_iff.mp unqueued q hq)
          · cases sweep : s.sweeps.sweep with
            | none => rfl
            | some w => simpa [SweepEngine.sweeping, sweep] using idle

theorem sweepCancel_keeps (body : List Byte) (s : State) : Keeps s (s.sweepCancel body) := by
  unfold State.sweepCancel
  split
  · exact refuses s _
  · split
    · refine ((Works.begins s).setQueue (fun n => ?_) (by rfl)).reply
      exact n.sublist ((List.filter_sublist.map _).append_right _)
    · split
      · exact (Works.begins s).endSweep.reply
      · exact refuses s _

theorem profileSave_keeps (s : State) : Keeps s s.profileSave := by
  unfold State.profileSave
  split
  · exact refuses s _
  · exact (Works.begins s).setProfile.reply

/-! ## The resets (R179, R183) -/

theorem Works.resetSweeps (h : Works true s t) : Works true s t.resetSweeps := by
  unfold State.resetSweeps
  extract_lets now emptied
  have empties : Works true s emptied := h.setSweeps (fun _ => List.nodup_nil) nofun
  split
  · exact empties
  · exact empties.setResult.sweepDone

theorem Works.resetPlan (h : Works true s t) : Works true s t.resetPlan :=
  have cleared : Works true s (t.setSeq (fun _ => {})) := h.setSeq nofun
  .ite (fun _ => cleared) (fun _ => cleared.planNotice)

theorem Works.resetPort {p : Port} (h : Works true s t) : Works true s (State.resetPort p t) := by
  unfold State.resetPort
  extract_lets power lane off told down laned
  have offs : Works true s off := h.setPower
  have tells : Works true s told := .ite (fun _ => offs) (fun _ => offs.portStateNotice)
  have downs : Works true s down :=
    tells.setLane (fun _ => ⟨rfl, rfl, .inr rfl⟩) (fun _ => retrains_of_none rfl) nofun
  have lanes : Works true s laned := .ite (fun _ => downs) (fun _ => downs.laneNotice)
  exact lanes.lensOff.setLens

theorem Works.resetUplink (h : Works true s t) : Works true s t.resetUplink := by
  unfold State.resetUplink
  extract_lets cleared
  have clears : Works true s cleared := h.setUplink (Nat.zero_le _) id
  split
  · exact clears
  · exact clears.setUplink (Nat.le_refl _) id

theorem Works.resetMonitor (h : Works true s t) : Works true s t.resetMonitor := Works.beginWindow h.setMonitor

theorem Works.cellReset (h : Works true s t) : Works true s t.cellReset := by
  unfold State.cellReset
  extract_lets ported freed
  have ports : Works true s ported := Works.forPorts (fun _ g => g.resetPort) h.resetSweeps.resetPlan
  have frees : Works true s freed := ports.setClaims.resetUplink.setStore
  exact frees.resetMonitor.uplinkNext

theorem Works.loadProfile (h : Works true s t) : Works true s t.loadProfile := by
  unfold State.loadProfile
  split
  · exact h.trans (.of_same true rfl rfl rfl rfl rfl (fun _ => rfl))
  · have loaded : Works true s { t with settings := {}, profile := { t.profile with origin := .defaults } } :=
      h.trans (.of_same true rfl rfl rfl rfl rfl (fun _ => rfl))
    exact (loaded.post (fun _ => rfl)).usedFree

theorem rebooted_keeps (s : State) : Keeps s s.rebooted where
  memory := id
  link _ := ⟨Nat.zero_le _, Nat.zero_le _, Nat.zero_le _, Nat.zero_le _⟩
  regions _ := Nat.zero_le _
  credits _ := ⟨Nat.zero_le _, fun _ => rfl⟩
  ports _ := List.nodup_nil
  quiet _ := by
    refine acquisitionsAreQuiet_iff.mpr ⟨nofun, fun p => retrains_of_none ?_⟩
    show ((Vector.replicate 8 ({} : Lane))[p]).retrainAt = none
    simp

theorem startUp_keeps (s : State) : Keeps s s.startUp := by
  have loaded : Works true s.rebooted s.rebooted.loadProfile := (Works.begins _).loadProfile
  have known := (Works.forPorts (f := State.lensFromKind) (ps := allPorts) (fun _ g => g.setLens) loaded).beginWindow
  exact (rebooted_keeps s).trans
    ((Works.forPorts (f := fun p t => t.raisePowerClaim p) (fun _ g => g.raisePowerClaim) known).post (fun _ => rfl)).toKeeps

/-! ## The commands -/

/-- The state that a command leaves, if it leaves one, keeps the invariants. -/
def Kept (s : State) (r : Result) : Prop := ∀ t, r = .next t → Keeps s t

theorem kept_same (s : State) : Kept s (.next s) := by
  rintro t ⟨⟩
  exact .refl s

theorem kept_finish (h : Keeps s t) : Kept s (finish t) := by
  rintro u ⟨⟩
  exact h.transmit

theorem kept_acts (h : Works true s t) : Kept s (finish t) := kept_finish h.toKeeps

theorem kept_ite {c : Prop} [Decidable c] {a b : Result} (h : c → Kept s a) (g : ¬ c → Kept s b) :
    Kept s (if c then a else b) := by
  split
  · exact h ‹_›
  · exact g ‹_›

/-- A command that acts only when it is due. -/
theorem kept_due {c : Prop} [Decidable c] (h : c → Works true s t) : Kept s (if c then finish t else .next s) :=
  kept_ite (fun k => kept_acts (h k)) (fun _ => kept_same s)

theorem kept_serveWhen {kind : Byte} {lengthOk ofRow : List Byte → Bool} {owner : List Byte → State → State}
    (h : ∀ body, Keeps s (owner body s)) : Kept s (s.serveWhen kind lengthOk ofRow owner) := by
  unfold State.serveWhen
  split
  · exact kept_same s
  · refine kept_ite (fun _ => kept_ite (fun _ => ?_) (fun _ => kept_finish (refuses s _))) (fun _ => kept_same s)
    exact kept_ite (fun _ => kept_finish (h _)) (fun _ => kept_same s)

theorem kept_serve {kind : Byte} {size : Nat} {owner : List Byte → State → State}
    (h : ∀ body, Keeps s (owner body s)) : Kept s (s.serve kind size owner) := kept_serveWhen h

theorem kept_portPower {value : Nat} {owner : Port → State → State} (h : ∀ p, Keeps s (owner p s)) :
    Kept s (s.servePortPower value owner) := by
  refine kept_serveWhen (fun body => ?_)
  split
  · exact refuses s _
  · split
    · exact refuses s _
    · exact h _

end Sys2Proof.Bounds
end

section
/-!
PROOFS. The commands, chapter by chapter, and the steps.
-/

namespace Sys2Proof.Bounds

open Sys2Proof.Machine Sys2Proof.Safety Sys2Proof.Power

variable {s t : State}

/-! ## Chapter 1 -/

theorem execSetSupplyPolicy_keeps (s : State) : Kept s (execSetSupplyPolicy s) := by
  refine kept_serve (fun body => ?_)
  unfold State.setSupplyPolicy
  split
  · exact (Works.begins s).setSettings.reply
  · exact refuses s _

theorem execProbePulseStart_keeps (p : Port) (s : State) : Kept s (execProbePulseStart p s) :=
  kept_due (fun _ => (Works.begins s).setPower)

theorem execRampEnd_keeps (p : Port) (s : State) : Kept s (execRampEnd p s) :=
  kept_due (fun _ => .ite (fun _ => (Works.begins s).openLoad) (fun _ => (Works.begins s).portEntersOn))

theorem execCurrentSample_keeps (p : Port) (milliamps : Nat) (s : State) : Kept s (execCurrentSample p milliamps s) :=
  kept_due (fun _ => (Works.begins s).sample)

theorem execTripDecay_keeps (p : Port) (s : State) : Kept s (execTripDecay p s) :=
  kept_due (fun _ => (Works.begins s).setPower)

theorem execSupplyLow_keeps (millivolts heldMicros : Nat) (s : State) : Kept s (execSupplyLow millivolts heldMicros s) :=
  have measured : Works true s (s.measured millivolts) := (Works.begins s).measured
  kept_ite (fun _ => kept_acts measured.becomeLow) (fun _ => kept_acts measured)

theorem execSupplyRecovered_keeps (millivolts heldMicros : Nat) (s : State) :
    Kept s (execSupplyRecovered millivolts heldMicros s) :=
  have measured : Works true s (s.measured millivolts) := (Works.begins s).measured
  kept_ite (fun _ => kept_acts measured.recover) (fun _ => kept_acts measured)

/-! ## Chapter 2 -/

theorem execTrainingDeadline_keeps (p : Port) (s : State) : Kept s (execTrainingDeadline p s) := by
  refine kept_due (fun due => (Works.begins s).trainingFails ?_)
  simp only [State.trainingDue, Bool.and_eq_true, decide_eq_true_eq] at due
  exact due.1

theorem execTrainingRetry_keeps (p : Port) (s : State) : Kept s (execTrainingRetry p s) := by
  refine kept_due (fun due => (Works.begins s).startTraining (untouched_of_free ?_))
  simp only [State.retryDue, Bool.and_eq_true, Bool.not_eq_true'] at due
  exact due.2

theorem due_some {t : Option Time} {now : Time} (h : due t now = true) : t ≠ none := by
  rintro rfl
  cases h

theorem execQuietRetrainEnd_keeps (p : Port) (hasLock : Bool) (s : State) : Kept s (execQuietRetrainEnd p hasLock s) := by
  refine kept_due (fun judged => (Works.begins s).retrained ?_)
  simp only [State.retrainDue, Bool.and_eq_true] at judged
  exact due_some judged.2

/-! ## Chapters 3 to 5 -/

theorem execSignalConfig_keeps (s : State) : Kept s (execSignalConfig s) := by
  refine kept_serve (fun body => ?_)
  unfold State.signalConfig
  split
  · exact (Works.begins s).setSettings.reply
  · exact refuses s _

theorem execSlotDispatch_keeps (slot : Fin 4) (s : State) : Kept s (execSlotDispatch slot s) := by
  unfold execSlotDispatch
  split
  · exact kept_acts (Works.begins s).dispatch
  · exact kept_same s

theorem execCombineComplete_keeps (s : State) : Kept s (execCombineComplete s) := by
  unfold execCombineComplete
  split
  · exact kept_acts (Works.begins s).completeCombine
  · exact kept_same s

theorem execReady_keeps (grant : BitVec 16) (s : State) : Kept s (execReady grant s) :=
  kept_acts (Works.ite (fun _ => (Works.begins s).linkDown) (fun _ => .begins s)).linkUp.sendChoice

theorem execGrant_keeps (grant : BitVec 16) (s : State) : Kept s (execGrant grant s) := by
  have good : Works true s s.goodWord := (Works.begins s).setUplink (Nat.le_refl _) id
  exact kept_ite (fun up => kept_acts (good.addGrant up)) (fun _ => kept_acts (good.setUplink (Nat.le_refl _) id))

theorem execUplinkPacketEnd_keeps (s : State) : Kept s (execUplinkPacketEnd s) := by
  unfold execUplinkPacketEnd
  split
  · exact kept_acts (Works.begins s).packetEnded.uplinkNext
  · exact kept_same s

/-! ## Chapter 6 -/

theorem execLensPresetSet_keeps (s : State) : Kept s (execLensPresetSet s) := by
  refine kept_serve (fun body => ?_)
  unfold State.lensPresetSet
  split
  · exact (Works.begins s).setSettings.reply
  · exact refuses s _

theorem execPollSlot_keeps (p : Port) (s : State) : Kept s (execPollSlot p s) := by
  unfold execPollSlot
  split
  · exact kept_acts (Works.begins s).poll
  · exact kept_same s

theorem execSidebandTransactionEnd_keeps (p : Port) (outcome : BusOutcome) (s : State) :
    Kept s (execSidebandTransactionEnd p outcome s) := by
  unfold execSidebandTransactionEnd
  split
  · exact kept_acts (Works.begins s).busFree.txnOutcome.busPump
  · exact kept_same s

theorem execSettleEnd_keeps (p : Port) (s : State) : Kept s (execSettleEnd p s) := by
  unfold execSettleEnd
  split
  · exact kept_acts (Works.begins s).moveDone
  · exact kept_same s

theorem execHaltReadPoll_keeps (p : Port) (s : State) : Kept s (execHaltReadPoll p s) := by
  unfold execHaltReadPoll
  split
  · exact kept_acts (Works.begins s).haltPoll
  · exact kept_same s

theorem execBusTimeout_keeps (hang : BusHang) (s : State) : Kept s (execBusTimeout hang s) := by
  unfold execBusTimeout
  extract_lets bus t
  have taken : Works true s t := .ite (fun _ => (Works.begins s).answered) (fun _ => .begins s)
  split
  · exact kept_same s
  · exact kept_same s
  all_goals exact kept_acts taken.enterRecovery.hang

theorem execArbitrationLost_keeps (p : Port) (s : State) : Kept s (execArbitrationLost p s) := by
  unfold execArbitrationLost
  split
  · exact kept_acts (Works.begins s).loseBus
  · exact kept_same s

/-! ## Chapters 7 to 9 -/

theorem execEvidenceConfig_keeps (s : State) : Kept s (execEvidenceConfig s) := by
  refine kept_serve (fun body => ?_)
  unfold State.evidenceConfig
  split
  · exact (Works.begins s).setSettings.reply
  · exact refuses s _

theorem execCalibrationEnd_keeps (count : Nat) (s : State) : Kept s (execCalibrationEnd count s) := by
  unfold execCalibrationEnd
  split
  · exact kept_acts (Works.begins s).calibrated
  · exact kept_same s

theorem execAcquisitionEnd_keeps (deviations : List Int) (s : State) : Kept s (execAcquisitionEnd deviations s) := by
  unfold execAcquisitionEnd
  split
  · exact kept_acts (Works.begins s).acquisitionEnds
  · exact kept_same s

theorem execSweepDeadline_keeps (s : State) : Kept s (execSweepDeadline s) := by
  unfold execSweepDeadline
  split
  · next w late => exact kept_acts ((Works.begins s).gatheringEnds ((Option.filter_eq_some_iff.mp late).1))
  · exact kept_same s

theorem execAnalysisEnd_keeps (s : State) : Kept s (execAnalysisEnd s) := by
  unfold execAnalysisEnd
  split
  · exact kept_acts (Works.begins s).analysed
  · exact kept_same s

theorem execControlFrameReceived_keeps (bytes : List LineByte) (s : State) :
    Kept s (execControlFrameReceived bytes s) :=
  kept_finish (.of_link s _ (delimiter_bounds bytes))

theorem execGatheredContentOverlong_keeps (s : State) : Kept s (execGatheredContentOverlong s) :=
  kept_ite (fun _ => kept_finish (.of_link s _ id)) (fun _ => kept_same s)

theorem execUnknownRequest_keeps (s : State) : Kept s (execUnknownRequest s) := by
  unfold execUnknownRequest
  split
  · exact kept_same s
  · exact kept_ite (fun _ => kept_same s) (fun _ => kept_finish (refuses s _))

theorem execTxFrameEnd_keeps (s : State) : Kept s (execTxFrameEnd s) := by
  unfold execTxFrameEnd
  split
  · exact kept_finish (.of_link s _ (sent_bounds _))
  · exact kept_same s

theorem execProfileWriteEnd_keeps (agrees : Bool) (s : State) : Kept s (execProfileWriteEnd agrees s) := by
  unfold execProfileWriteEnd
  split
  · exact kept_acts (Works.begins s).writeEnds
  · exact kept_same s

theorem execProfileRestoreDefaults_keeps (s : State) : Kept s (execProfileRestoreDefaults s) := by
  refine kept_serve (fun _ => ?_)
  split
  · exact (Works.begins s).restoreDefaults.reply
  · exact refuses s _

theorem execCellReset_keeps (s : State) : Kept s (execCellReset s) := by
  have reset : Works true s s.cellReset := (Works.begins s).cellReset
  exact kept_serve (fun _ => reset.reply)

/-! ## Every command, and every step -/

/-- A status request about a port. -/
theorem kept_status (s : State) (kind : Byte) (fields : State → Port → List Byte) :
    Kept s (s.serve kind 1 (fun b s =>
      match portAt b 0 with
      | none => s.reply .outOfRange
      | some p => s.answer .ok (fields s p))) :=
  kept_serve (fun body => status_keeps s body (fields s))

/-- A status request with no body. -/
theorem kept_answers (s : State) (kind : Byte) (fields : State → List Byte) :
    Kept s (s.serve kind 0 (fun _ s => s.answer .ok (fields s))) := kept_serve (fun _ => answers s _ _)

theorem execPlanLoad_keeps (s : State) : Kept s (execPlanLoad s) := kept_serveWhen (fun body => planLoad_keeps body s)

theorem execCableSet_keeps (s : State) : Kept s (execCableSet s) := kept_serveWhen (fun body => cableSet_keeps body s)

theorem exec_keeps (i : Instr) (s : State) : Kept s (exec i s) := by
  cases i with
  | powerOnReset => exact kept_finish (startUp_keeps s)
  | nreset => exact kept_finish (startUp_keeps s)
  | controlFrameReceived bytes => exact execControlFrameReceived_keeps bytes s
  | unknownRequest => exact execUnknownRequest_keeps s
  | txFrameEnd => exact execTxFrameEnd_keeps s
  | portConfig => exact kept_serve (fun body => portConfig_keeps body s)
  | portPowerOn => exact kept_portPower (fun p => portPowerOn_keeps p s)
  | portPowerOff => exact kept_portPower (fun p => portPowerOff_keeps p s)
  | portPowerProbe => exact kept_portPower (fun p => portPowerProbe_keeps p s)
  | portUnlock => exact kept_serve (fun body => portUnlock_keeps body s)
  | portStatus => exact kept_status s _ State.portStatusFields
  | setCapacity => exact kept_serve (fun body => setCapacity_keeps body s)
  | setSupplyPolicy => exact execSetSupplyPolicy_keeps s
  | supplyStatus => exact kept_answers s _ State.supplyStatusFields
  | probePulseStart p => exact execProbePulseStart_keeps p s
  | probePulseEnd p milliamps => exact kept_due (fun _ => (Works.begins s).probeResult)
  | rampEnd p => exact execRampEnd_keeps p s
  | currentSample p milliamps => exact execCurrentSample_keeps p milliamps s
  | thresholdTrip p => exact kept_due (fun _ => (Works.begins s).trip)
  | hardLimitTrip p milliamps => exact kept_due (fun _ => (Works.begins s).trip)
  | openLoad p => exact kept_due (fun _ => (Works.begins s).openLoad)
  | cooldownEnd p => exact kept_due (fun _ => (Works.begins s).raisePowerClaim)
  | tripDecay p => exact execTripDecay_keeps p s
  | supplyLow millivolts heldMicros => exact execSupplyLow_keeps millivolts heldMicros s
  | supplyFullShedCheck millivolts => exact kept_due (fun _ => (Works.begins s).fullCheck)
  | supplyRecovered millivolts heldMicros => exact execSupplyRecovered_keeps millivolts heldMicros s
  | laneStatus => exact kept_status s _ State.laneStatusFields
  | laneLockAcquired p => exact kept_due (fun training => (Works.begins s).lockReached training)
  | trainingDeadline p => exact execTrainingDeadline_keeps p s
  | trainingRetry p => exact execTrainingRetry_keeps p s
  | lockLost p => exact kept_due (fun locked => (Works.begins s).losesLock locked)
  | quietRetrainEnd p hasLock => exact execQuietRetrainEnd_keeps p hasLock s
  | packetUnknownType p => exact kept_due (fun _ => (Works.begins s).protocolError)
  | frameStart p tag width height depth => exact kept_due (fun _ => (Works.begins s).takeFrameStart)
  | line p number pixels crc => exact kept_due (fun _ => (Works.begins s).takeLine)
  | frameEnd p tag lineCount => exact kept_due (fun _ => (Works.begins s).takeFrameEnd)
  | receptionDeadline p => exact kept_due (fun _ => (Works.begins s).deadlineClose.checkCycle)
  | exposureWindowEnd p => exact kept_due (fun _ => (Works.begins s).exposureEnds)
  | planLoad => exact execPlanLoad_keeps s
  | planArm => exact kept_serve (fun _ => planArm_keeps s)
  | planStop => exact kept_serve (fun _ => planStop_keeps s)
  | planAbort => exact kept_serve (fun _ => planAbort_keeps s)
  | planClear => exact kept_serve (fun _ => planClear_keeps s)
  | planFire => exact kept_serve (fun _ => planFire_keeps s)
  | planStatus => exact kept_answers s _ State.planStatusFields
  | signalConfig => exact execSignalConfig_keeps s
  | periodExpiry => exact kept_due (fun _ => (Works.begins s).takeStart)
  | trigInEdge edge => exact kept_due (fun _ => (Works.begins s).takeStart)
  | heldCycleStart => exact kept_due (fun _ => (Works.begins s).beginCycle)
  | slotDispatch slot => exact execSlotDispatch_keeps slot s
  | frameHold => exact kept_serve (fun body => frameHold_keeps body s)
  | frameRelease => exact kept_serve (fun body => frameRelease_keeps body s)
  | storeStatus => exact kept_serve (fun body => storeStatus_keeps body s)
  | combineComplete => exact execCombineComplete_keeps s
  | regionRead => exact kept_serve (fun body => regionRead_keeps body s)
  | uplinkStatus => exact kept_answers s _ State.uplinkStatusFields
  | ready grant => exact execReady_keeps grant s
  | grant grant => exact execGrant_keeps grant s
  | idle => exact kept_acts (t := s.goodWord) ((Works.begins s).setUplink (Nat.le_refl _) id)
  | returnError => exact kept_acts ((Works.begins s).setUplink (Nat.le_refl _) id)
  | returnSilence => exact kept_due (fun _ => (Works.begins s).linkDown)
  | uplinkPacketEnd => exact execUplinkPacketEnd_keeps s
  | lensMove => exact kept_serve (fun body => lensMove_keeps body s)
  | lensPreset => exact kept_serve (fun body => lensPreset_keeps body s)
  | lensPresetSet => exact execLensPresetSet_keeps s
  | lensHome => exact kept_serve (fun body => lensHome_keeps body s)
  | lensHalt => exact kept_serve (fun body => lensHalt_keeps body s)
  | lensStatus => exact kept_status s _ State.lensStatusFields
  | pollSlot p => exact execPollSlot_keeps p s
  | sidebandTransactionEnd p outcome => exact execSidebandTransactionEnd_keeps p outcome s
  | settleEnd p => exact execSettleEnd_keeps p s
  | moveDeadline p => exact kept_due (fun _ => (Works.begins s).sendStop.stall)
  | haltReadPoll p => exact execHaltReadPoll_keeps p s
  | haltDeadline p => exact kept_due (fun _ => (Works.begins s).lensFails)
  | busTimeout hang => exact execBusTimeout_keeps hang s
  | arbitrationLost p => exact execArbitrationLost_keeps p s
  | headMessage p bytes => exact kept_due (fun _ => (Works.begins s).headMessage.busFree.busPump)
  | motionSegment => exact kept_serve (fun body => motionSegment_keeps body s)
  | evidenceConfig => exact execEvidenceConfig_keeps s
  | breakList => exact kept_serve (fun body => breakList_keeps body s)
  | breakClear => exact kept_serve (fun body => breakClear_keeps body s)
  | evidenceWindowClose => exact kept_due (fun _ => (Works.forPorts (fun _ g => g.judgePort) (Works.begins s)).beginWindow)
  | cableSet => exact execCableSet_keeps s
  | sweepRequest => exact kept_serve (fun body => sweepRequest_keeps body s)
  | sweepCancel => exact kept_serve (fun body => sweepCancel_keeps body s)
  | sweepResult => exact kept_status s _ State.sweepResultFields
  | calibrationEnd count => exact execCalibrationEnd_keeps count s
  | acquisitionEnd deviations => exact execAcquisitionEnd_keeps deviations s
  | sweepDeadline => exact execSweepDeadline_keeps s
  | analysisEnd => exact execAnalysisEnd_keeps s
  | identify => exact kept_answers s _ State.identifyFields
  | linkStatus => exact kept_answers s _ (fun s => s.link.statusFields)
  | cellReset => exact execCellReset_keeps s
  | profileSave => exact kept_serve (fun _ => profileSave_keeps s)
  | profileWriteEnd agrees => exact execProfileWriteEnd_keeps agrees s
  | profileRestoreDefaults => exact execProfileRestoreDefaults_keeps s
  | headStart p => exact kept_due (fun _ => (Works.begins s).setLens)
  | busRecoveryEnd p => exact kept_due (fun _ => (Works.begins s).busFree.busPump)
  | gatheredContentOverlong => exact execGatheredContentOverlong_keeps s

theorem tick_keeps (s : State) : Keeps s s.tick := by
  unfold State.tick
  split <;> exact .of_same rfl rfl rfl rfl rfl

theorem step_keeps (s : State) : Kept s (step s) := by
  unfold step
  split
  · next rest _ =>
    have queue : Keeps s { s with pending := rest } := .of_same rfl rfl rfl rfl rfl
    exact fun t h => queue.trans (exec_keeps _ _ t h)
  · split
    · exact exec_keeps _ s
    · rintro t ⟨⟩
      exact tick_keeps s

/-- Settles O55: every operation keeps the invariants of `Keeps`, and those that write the DRAM leave it canonical. -/
theorem memoryStaysCanonical : Obligations.MemoryStaysCanonical :=
  fun s t canonical h => (step_keeps s t h).memory canonical

/-- Settles O58: every operation keeps the invariants of `Keeps`. -/
theorem queuesStayBounded : Obligations.QueuesStayBounded := fun s t h =>
  have keeps := step_keeps s t h
  ⟨keeps.link, keeps.regions, keeps.credits, keeps.ports, keeps.quiet⟩

end Sys2Proof.Bounds
end

section
/-!
PROOFS. Training, its losses and the packets of a lane (R33 to R38): what each operation of a lane leaves, as one change of the
lane, the evidence of its port, and its notice.
-/

namespace Sys2Proof.Reception

open Sys2Proof.Machine Sys2Proof.Safety Sys2Proof.Power Sys2Proof.Bounds

variable {s : State} {p : Port}

/-! ## Changes of a lane, notices and evidence -/

theorem post_setLane (s : State) (port : Option Port) (body : NoticeBody) (p : Port) (f : Lane → Lane) :
    (s.post port body).setLane p f = (s.setLane p f).post port body := by
  unfold State.post
  split
  · next room => rw [if_pos (show (s.setLane p f).link.notices.length < 32 from room)]; rfl
  · next full => rw [if_neg (show ¬ (s.setLane p f).link.notices.length < 32 from full)]; rfl

/-- The notice of a lane that a change has made what it is. -/
theorem setLane_laneNotice (s : State) (p : Port) (f : Lane → Lane) (prev : LaneState) (cause : LaneCause) :
    (s.setLane p f).laneNotice p prev cause = (s.setLane p f).post (some p)
      (.laneState (f s.lanes[p]).state prev cause (f s.lanes[p]).failedRun) := by
  rw [State.laneNotice, State.setLane_lanes, upd_same]

theorem setLane_setEvidence (s : State) (p q : Port) (f : Lane → Lane) (g : Evidence → Evidence) :
    (s.setEvidence q g).setLane p f = (s.setLane p f).setEvidence q g := rfl

/-- One data error of a lane's port counted by the lane and by the monitor (R47, R137). -/
theorem laneDataError_eq (s : State) (p : Port) : s.laneDataError p =
    (s.setLane p (fun l => { l with counts := { l.counts with dataErrors := sat32 l.counts.dataErrors } })).setEvidence p
      (fun e => e.addError s.monitor.segment) := rfl

/-- The counts of a lane that has lost its lock, or failed to reach it (R33, R34). -/
def LaneCounts.lockLost (c : LaneCounts) : LaneCounts :=
  { c with lockLosses := sat32 c.lockLosses, dataErrors := sat32 c.dataErrors }

theorem lockLoss_eq (s : State) (p : Port) : s.lockLoss p =
    (s.setLane p (fun l => { l with counts := LaneCounts.lockLost l.counts })).setEvidence p
      (fun e => e.addError s.monitor.segment) := by
  rw [State.lockLoss, laneDataError_eq, State.laneCount, setLane_setLane]
  rfl

/-! ## Training (R33 to R35) -/

theorem lockReached_eq (s : State) (p : Port) : s.lockReached p =
    (s.setLane p (fun l => { l with
      state := .locked, since := s.clock, deadlineAt := none, failedRun := 0 })).post (some p)
      (.laneState .locked .training .locked s.lanes[p].failedRun) := by
  rw [State.lockReached, State.laneEnters, setLane_setLane, setLane_laneNotice, post_setLane, setLane_setLane]

/-- What a failed attempt makes of a lane (R33). -/
def failedAttempt (now : Time) (l : Lane) : Lane :=
  { l with
    state := .down
    since := now
    deadlineAt := none
    retryAt := some (now + 250000)
    failedRun := l.failedRun + 1
    counts := LaneCounts.lockLost l.counts }

theorem failedRunUp_eq (run : s.lanes[p].failedRun < 65535) :
    s.failedRunUp p = s.setLane p (fun l => { l with failedRun := l.failedRun + 1 }) := if_pos run

/-- The state of a port whose training attempt has failed, but for the notice. -/
def attemptFailed (s : State) (p : Port) : State :=
  (s.setLane p (failedAttempt s.clock)).setEvidence p (fun e => e.addError s.monitor.segment)

theorem attemptFailed_lane (s : State) (p : Port) : (attemptFailed s p).lanes[p] = failedAttempt s.clock s.lanes[p] :=
  upd_same _ _ _

theorem trainingFails_eq (run : s.lanes[p].failedRun < 65535) : s.trainingFails p =
    if s.lanes[p].failedRun = 0 then
      (attemptFailed s p).post (some p) (.laneState .down .training .trainFailed 1)
    else attemptFailed s p := by
  have counted : (((s.laneEnters p .down).setLane p (fun l => { l with
      deadlineAt := none, retryAt := some (s.clock + 250000) })).lockLoss p).failedRunUp p = attemptFailed s p := by
    rw [lockLoss_eq, State.laneEnters, setLane_setLane, setLane_setLane, failedRunUp_eq, setLane_setEvidence,
      setLane_setLane]
    · rfl
    · show (upd s.lanes p _)[p].failedRun < 65535
      rw [upd_same]
      exact run
  unfold State.trainingFails State.laneNotice
  simp only [counted, attemptFailed_lane, failedAttempt, Nat.add_eq_right]
  split
  · next first => rw [first]
  · rfl

/-- What a training attempt makes of a lane that begins it at `now`, its deadline counted from `start` (R33). -/
def attempting (now start : Time) (l : Lane) : Lane :=
  { l with
    state := .training
    since := now
    deadlineAt := some (start + 50000)
    retryAt := none
    retrainAt := none
    counts := { l.counts with attempts := sat32 l.counts.attempts } }

theorem startTraining_eq (s : State) (p : Port) (start : Time) :
    s.startTraining p start = s.setLane p (attempting s.clock start) := rfl

/-! ## Lock losses (R34, R45) -/

/-- The state of a port whose lane has lost its lock, but for the notice and the frame in reception. -/
def lostLock (s : State) (p : Port) : State :=
  (s.setLane p (fun l => attempting s.clock s.clock { l with counts := LaneCounts.lockLost l.counts })).setEvidence p
    (fun e => e.addError s.monitor.segment)

theorem lostLock_lane (s : State) (p : Port) : (lostLock s p).lanes[p] =
    attempting s.clock s.clock { s.lanes[p] with counts := LaneCounts.lockLost s.lanes[p].counts } := upd_same _ _ _

/-- The notice of a lock lost (R34, R36). -/
def lockLostBody (s : State) (p : Port) : NoticeBody := .laneState .training .locked .lockLost s.lanes[p].failedRun

theorem lockLoss_notice (s : State) (p : Port) :
    ((s.lockLoss p).startTraining p s.clock).laneNotice p .locked .lockLost =
      (lostLock s p).post (some p) (lockLostBody s p) := by
  have lost : (s.lockLoss p).startTraining p s.clock = lostLock s p := by
    rw [lockLoss_eq, startTraining_eq, setLane_setEvidence, setLane_setLane]
    rfl
  rw [lost, State.laneNotice, lostLock_lane]
  rfl

theorem losesLock_unframed (none_open : s.lanes[p].frame = none) :
    s.losesLock p = (lostLock s p).post (some p) (lockLostBody s p) := by
  unfold State.losesLock
  rw [none_open, lockLoss_notice]

/-- What the close of a frame makes of its lane (R45, R46). -/
def frameClosed (f : RxFrame) (l : Lane) : Lane :=
  { l with lastMean := f.mean, counts := { l.counts with closed := sat32 l.counts.closed }, frame := none }

theorem closeFrame_lanes (s : State) (p : Port) (f : RxFrame) (cut : FrameFlags → FrameFlags) :
    (s.closeFrame p f cut).lanes = upd s.lanes p (frameClosed f) := by
  unfold State.closeFrame
  extract_lets _ flags filled counted checked
  rw [State.setLane_lanes, (handOver_changes _ _).lanes (by decide)]
  show upd checked.1.lanes p _ = _
  rw [(ambientCheck_changes counted p f flags f.mean).lanes (by decide)]
  simp only [counted, filled, State.setLane_lanes, upd_upd]
  rfl

/-- A lock lost with a frame in reception counts a truncation, as a second data error, and closes the frame. -/
def lockTruncated (s : State) (p : Port) : State :=
  (((lostLock s p).post (some p) (lockLostBody s p)).laneCount p (fun c => { c with
    lockTruncations := sat32 c.lockTruncations })).laneDataError p

theorem losesLock_framed {f : RxFrame} (framed : s.lanes[p].frame = some f) :
    s.losesLock p = (lockTruncated s p).closeFrame p f cutTruncated := by
  unfold State.losesLock
  rw [framed, lockLoss_notice]
  rfl

theorem lockTruncated_lanes (s : State) (p : Port) : (lockTruncated s p).lanes = upd (lostLock s p).lanes p (fun l =>
    { l with counts := { l.counts with
      lockTruncations := sat32 l.counts.lockTruncations, dataErrors := sat32 l.counts.dataErrors } }) := by
  unfold lockTruncated
  rw [laneDataError_eq, State.laneCount, setLane_setLane, post_setLane]
  show (State.post _ _ _).lanes = _
  simp only [State.post_keeps]
  rfl

theorem lockTruncated_monitor (s : State) (p : Port) : (lockTruncated s p).monitor = { s.monitor with
    ports := upd s.monitor.ports p (fun e => (e.addError s.monitor.segment).addError s.monitor.segment) } := by
  unfold lockTruncated
  rw [laneDataError_eq, State.laneCount, setLane_setLane, post_setLane, State.setEvidence_monitor]
  simp only [State.post_keeps]
  simp only [lostLock, State.setLane_keeps, State.setEvidence_monitor, State.post_keeps, upd_upd]

/-- The parts that a lock lost in reception changes. -/
theorem lockTruncated_closed_changes (s : State) (p : Port) (f : RxFrame) (cut : FrameFlags → FrameFlags) :
    Changes (.laneStates :: receptionParts) s ((lockTruncated s p).closeFrame p f cut) := by
  have lost : Changes (.laneStates :: receptionParts) s (lostLock s p) :=
    ((setLane_changes s p _).mono (by decide)).step ((setEvidence_changes _ p _).mono (by decide))
  have told := lost.step ((post_changes (lostLock s p) (some p) (lockLostBody s p)).mono (by simp))
  exact ((told.step ((laneCount_changes _ p _).mono (by decide))).step ((laneDataError_changes _ p).mono (by decide))).step
    ((closeFrame_changes _ p f cut).mono (by decide))

/-- What a lock lost in the reception of a frame leaves (R34, R45, R47). -/
structure LockLostIn (f : RxFrame) (p : Port) (s t : State) : Prop where
  lane : t.lanes[p] = frameClosed f { (lostLock s p).lanes[p] with
    counts := { (lostLock s p).lanes[p].counts with
      lockTruncations := sat32 (lostLock s p).lanes[p].counts.lockTruncations
      dataErrors := sat32 (lostLock s p).lanes[p].counts.dataErrors } }
  evidence : t.monitor.ports[p] = (s.monitor.ports[p].addError s.monitor.segment).addError s.monitor.segment
  others : ∀ q : Port, q ≠ p → t.lanes[q] = s.lanes[q] ∧ t.monitor.ports[q] = s.monitor.ports[q]
  rest : Changes (.laneStates :: receptionParts) s t

theorem losesLock_leaves {f : RxFrame} (framed : s.lanes[p].frame = some f) : LockLostIn f p s (s.losesLock p) := by
  rw [losesLock_framed framed]
  have lanes : ((lockTruncated s p).closeFrame p f cutTruncated).lanes = _ := closeFrame_lanes _ p f cutTruncated
  rw [lockTruncated_lanes, upd_upd] at lanes
  have monitor := (closeFrame_changes (lockTruncated s p) p f cutTruncated).monitor (by decide)
  rw [lockTruncated_monitor] at monitor
  refine ⟨?_, ?_, fun q other => ⟨?_, ?_⟩, lockTruncated_closed_changes s p f cutTruncated⟩
  · rw [lanes, upd_same]
  · rw [monitor, upd_same]
  · rw [lanes, upd_other _ _ other]
    exact upd_other _ _ other
  · rw [monitor, upd_other _ _ other]

/-! ## The retrain of a QUIET period (R35) -/

theorem laneLeftQuiet_idle (idle : s.sweeps.sweep = none) (p : Port) : s.laneLeftQuiet p = s := by
  unfold State.laneLeftQuiet
  rw [idle]

theorem retrained_locked (idle : s.sweeps.sweep = none) : s.retrained p true =
    s.setLane p (fun l => { l with state := .locked, since := s.clock, retrainAt := none }) := by
  unfold State.retrained
  rw [if_pos rfl, State.laneEnters, setLane_setLane, laneLeftQuiet_idle]
  exact idle

theorem retrained_slow {at_ : Time} (idle : s.sweeps.sweep = none) (begun : s.lanes[p].retrainAt = some at_) :
    s.retrained p false = (s.setLane p (attempting s.clock (at_ - 100))).post (some p)
      (.laneState .training .quiet .retrainSlow s.lanes[p].failedRun) := by
  unfold State.retrained
  rw [if_neg (by decide), begun, startTraining_eq, setLane_laneNotice, laneLeftQuiet_idle]
  · rfl
  · rw [(post_changes _ _ _).sweeps (by decide)]
    exact idle

/-! ## The commands -/

theorem exec_lockAcquired (training : s.lanes[p].state = .training) :
    exec (.laneLockAcquired p) s = finish (s.lockReached p) := if_pos training

theorem exec_trainingDeadline {at_ : Time} (training : s.lanes[p].state = .training)
    (deadline : s.lanes[p].deadlineAt = some at_) (come : at_ ≤ s.clock) :
    exec (.trainingDeadline p) s = finish (s.trainingFails p) :=
  if_pos (by simp only [State.trainingDue, training, deadline, due, come, decide_true, Bool.and_true])

theorem exec_trainingRetry {at_ : Time} (on : s.power[p].state = .on) (down : s.lanes[p].state = .down)
    (retry : s.lanes[p].retryAt = some at_) (come : at_ ≤ s.clock)
    (free : ∀ a : Acquisition, s.sweeps.acquisition = some a → a.port ≠ p) :
    exec (.trainingRetry p) s = finish (s.startTraining p s.clock) := by
  have idle : s.acquiringOn p = false := by
    unfold State.acquiringOn
    split
    · next a ha => simpa using free a ha
    · rfl
  exact if_pos (by 
    simp only [State.retryDue, on, down, retry, due, come, idle, decide_true, Bool.and_true, Bool.not_false])

theorem exec_quietRetrainEnd {at_ : Time} (quiet : s.lanes[p].state = .quiet) (begun : s.lanes[p].retrainAt = some at_)
    (come : at_ ≤ s.clock) (hasLock : Bool) :
    exec (.quietRetrainEnd p hasLock) s = finish (s.retrained p hasLock) :=
  if_pos (by simp only [State.retrainDue, quiet, begun, due, come, decide_true, Bool.and_true])

/-- Settles O27: each operation of a lane is one change of the lane, of its port's evidence, and a notice; the frame that a
lost lock cuts is closed, which leaves the other parts as they are. -/
theorem laneTrainsAndLosesLock : Obligations.LaneTrainsAndLosesLock := by
  intro s p at_
  refine ⟨fun training => ?_, fun training deadline come run failed isFailed => ?_, fun on down retry come free => ?_,
    fun locked => ⟨fun unframed => ?_, fun f framed => ?_, ?_⟩, fun quiet begun come idle => ⟨?_, ?_⟩, fun unlocked => ?_⟩
  · rw [exec_lockAcquired training, lockReached_eq]
    rfl
  · have same : failed = attemptFailed s p := isFailed
    rw [exec_trainingDeadline training deadline come, trainingFails_eq run, same]
    refine ⟨fun first => ?_, fun later => ?_⟩
    · rw [if_pos first]
      rfl
    · rw [if_neg later]
      rfl
  · rw [exec_trainingRetry on down retry come free]
    rfl
  · rw [show exec (.lockLost p) s = finish (s.losesLock p) from if_pos locked, losesLock_unframed unframed]
    rfl
  · obtain ⟨lane, evidence, others, rest⟩ := losesLock_leaves framed
    rw [lostLock_lane] at lane
    exact ⟨_, if_pos locked, congrArg Lane.state lane, congrArg Lane.frame lane, (congrArg Lane.window lane :),
      congrArg Lane.lastMean lane, (congrArg Lane.counts lane :), evidence, others, rest.power (by decide),
      rest.settings (by decide), rest.clock, rest.table (by decide), rest.lenses (by decide)⟩
  · exact if_pos locked
  · rw [exec_quietRetrainEnd quiet begun come, retrained_locked idle]
    rfl
  · rw [exec_quietRetrainEnd quiet begun come, retrained_slow idle begun]
    rfl
  · intro tag width height depth number count pixels crc
    exact ⟨if_neg unlocked, if_neg unlocked, if_neg unlocked, if_neg unlocked⟩

end Sys2Proof.Reception
end

section
/-!
PROOFS. FRAME_START (R41, R82): the frame opened, the drop for want of a buffer, the stray and the protocol error.
-/

namespace Sys2Proof.Reception

open Sys2Proof.Machine Sys2Proof.Safety Sys2Proof.Power Sys2Proof.Bounds

variable {s : State} {p : Port}

theorem exec_frameStart (locked : s.lanes[p].state = .locked) (tag : Byte) (width height depth : Nat) :
    exec (.frameStart p tag width height depth) s = finish (s.takeFrameStart p tag width height depth) := if_pos locked

theorem takeFrameStart_stray (closed : s.lanes[p].window = none) (tag : Byte) (width height depth : Nat) :
    s.takeFrameStart p tag width height depth = s.stray p := by
  unfold State.takeFrameStart
  rw [closed]

/-- What a FRAME_START must match to open a frame in its window (R41). -/
def Matches (s : State) (p : Port) (w : RxWindow) (tag : Byte) (width height depth : Nat) : Prop :=
  w.rx = .awaitingStart ∧ tag = w.tag ∧ width = s.settings.ports[p].width ∧ height = s.settings.ports[p].height ∧
    depth = s.settings.ports[p].depth

theorem geometryMatches_iff {width height depth : Nat} : s.geometryMatches p width height depth = true ↔
    width = s.settings.ports[p].width ∧ height = s.settings.ports[p].height ∧ depth = s.settings.ports[p].depth := by
  show (decide (width = s.settings.ports[p].width) && decide (height = s.settings.ports[p].height) &&
    decide (depth = s.settings.ports[p].depth)) = true ↔ _
  simp only [Bool.and_eq_true, decide_eq_true_eq, and_assoc]

theorem takeFrameStart_matched {w : RxWindow} {tag : Byte} {width height depth : Nat}
    (window : s.lanes[p].window = some w) (fits : Matches s p w tag width height depth) :
    s.takeFrameStart p tag width height depth = s.openWindowFrame p w := by
  obtain ⟨rx, same, geometry⟩ := fits
  unfold State.takeFrameStart
  simp only [window, rx]
  exact if_pos (by rw [Bool.and_eq_true, decide_eq_true_eq]; exact ⟨same, geometryMatches_iff.mpr geometry⟩)

theorem takeFrameStart_mismatched {w : RxWindow} {tag : Byte} {width height depth : Nat}
    (window : s.lanes[p].window = some w) (differs : ¬ Matches s p w tag width height depth) :
    s.takeFrameStart p tag width height depth = s.protocolError p := by
  unfold State.takeFrameStart
  simp only [window]
  split
  · next rx =>
    refine if_neg (fun fits => differs ?_)
    rw [Bool.and_eq_true, decide_eq_true_eq] at fits
    exact ⟨rx, fits.1, geometryMatches_iff.mp fits.2⟩
  · rfl
  · rfl

/-! ## The frame opened (R82) -/

theorem setStore_setLane (s : State) (p : Port) (f : Lane → Lane) (g : Store → Store) :
    (s.setStore g).setLane p f = (s.setLane p f).setStore g := rfl

/-- The store with a frame opened in the buffer at the head of its free list (R82). -/
def storeOpened (t : Store) (b : Fin 48) (rest : List (Fin 48)) (q : OpenRequest) (hold : Bool) : Store :=
  { t with
    buffers := upd t.buffers b (fun _ => .filling)
    freeList := rest
    idCounter := t.newId
    frames := t.frames ++ [⟨t.newId, b, q.port, q.slot, q.cycle, q.position, q.triggerTime, q.width, q.height, q.depth,
      none, q.flags, hold, false, none⟩] }

theorem openFrame_free {t : Store} {b : Fin 48} {rest : List (Fin 48)} (free : t.freeList = b :: rest) (q : OpenRequest)
    (hold : Bool) : t.openFrame q hold = some (storeOpened t b rest q hold, b, t.newId) := by
  unfold Store.openFrame
  rw [free]
  rfl

theorem openFrame_full {t : Store} (full : t.freeList = []) (q : OpenRequest) (hold : Bool) : t.openFrame q hold = none := by
  unfold Store.openFrame
  rw [full]

theorem slotHold_none {slot : Fin 4} (absent : s.seq.slots[slot.val]? = none) : s.slotHold slot = false := by
  simp only [State.slotHold, Sequencer.slot?, absent]

theorem slotHold_some {slot : Fin 4} {k : Slot} (present : s.seq.slots[slot.val]? = some k) : s.slotHold slot = k.hold := by
  simp only [State.slotHold, Sequencer.slot?, present]

theorem openWindowFrame_opens {w : RxWindow} {b : Fin 48} {rest : List (Fin 48)} (window : s.lanes[p].window = some w)
    (free : s.store.freeList = b :: rest) : s.openWindowFrame p w =
      (s.setStore (fun t => storeOpened t b rest (s.openRequest p w) (s.slotHold w.slot))).setLane p (fun l => { l with
        frame := some (rxFrameOf w (s.openRequest p w) b s.store.newId)
        window := some { w with rx := .receiving }
        counts := { l.counts with started := sat32 l.counts.started } }) := by
  unfold State.openWindowFrame
  simp only [openFrame_free free, State.setRx, State.laneCount, setLane_setLane]
  refine setLane_congr _ p _ _ ?_
  show ({ s.lanes[p] with frame := _, window := s.lanes[p].window.map _, counts := _ } : Lane) = _
  rw [window]
  rfl

/-! ## The frame dropped (R82, R84) -/

theorem reportAbsence_unsigned {slot : Fin 4} {position : Nat} (unsigned : (s.seq.signAt slot position).signed = false)
    (p : Port) (cycle : Nat) : s.reportAbsence slot p cycle position = s := by
  unfold State.reportAbsence
  rw [unsigned, Bool.and_false]
  rfl

/-- The store with a drop counted (R82). -/
def dropCounted (s : State) (p : Port) : State := s.setStore (fun t => { t with drops := upd t.drops p sat32 })

theorem dropFrame_told {q : OpenRequest} (unsigned : (s.seq.signAt q.slot q.position).signed = false)
    (told : s.store.notified[q.port] = some q.cycle) : s.dropFrame q = dropCounted s q.port := by
  unfold State.dropFrame
  extract_lets member t tells
  have same : tells = dropCounted s q.port := if_pos told
  rw [same, reportAbsence_unsigned (s := dropCounted s q.port) unsigned]

theorem dropFrame_untold {q : OpenRequest} (unsigned : (s.seq.signAt q.slot q.position).signed = false)
    (untold : s.store.notified[q.port] ≠ some q.cycle) : s.dropFrame q =
      ((dropCounted s q.port).setStore (fun u => { u with
        notified := upd u.notified q.port (fun _ => some q.cycle) })).post (some q.port)
        (.frameDropped q.slot q.cycle q.position false (sat32 s.store.drops[q.port])) := by
  have count : (dropCounted s q.port).store.drops[q.port] = sat32 s.store.drops[q.port] := upd_same _ _ _
  unfold State.dropFrame
  extract_lets member t tells
  have same : tells = (t.setStore (fun u => { u with
      notified := upd u.notified q.port (fun _ => some q.cycle) })).post (some q.port)
      (.frameDropped q.slot q.cycle q.position member (dropCounted s q.port).store.drops[q.port]) := if_neg untold
  have plain : member = false := unsigned
  rw [same, count, plain, reportAbsence_unsigned]
  · rfl
  · rw [(post_changes _ _ _).seq (by decide)]
    exact unsigned

/-- The window of a lane whose frame is dropped. -/
def windowDropped (w : RxWindow) (l : Lane) : Lane :=
  { l with
    window := some { w with rx := .dropped }
    counts := { l.counts with dropped := sat32 l.counts.dropped } }

theorem openWindowFrame_drops {w : RxWindow} (window : s.lanes[p].window = some w) (full : s.store.freeList = []) :
    s.openWindowFrame p w = (s.setLane p (windowDropped w)).dropFrame (s.openRequest p w) := by
  unfold State.openWindowFrame
  simp only [openFrame_full full, State.setRx, State.laneCount, setLane_setLane]
  rw [setLane_congr s p _ (windowDropped w)]
  show ({ s.lanes[p] with window := s.lanes[p].window.map _, counts := _ } : Lane) = _
  rw [window]
  rfl

/-- Settles O28: the FRAME_START taken by what its window waits for, and by what the free list holds. -/
theorem frameStartOpensFrame : Obligations.FrameStartOpensFrame := by
  intro s p tag width height depth locked
  rw [exec_frameStart locked]
  refine ⟨fun closed => ?_, fun w window => ⟨fun differs => ?_, fun rx same wide high deep =>
    ⟨fun b rest free => ?_, fun full unsigned dropped isDropped => ⟨fun told => ?_, fun untold => ?_⟩⟩⟩⟩
  · rw [takeFrameStart_stray closed]
    rfl
  · rw [takeFrameStart_mismatched window (fun fits => ?_)]
    · rfl
    · obtain ⟨rx, same, wide, high, deep⟩ := fits
      rcases differs with d | d | d | d | d
      exacts [d rx, d same, d wide, d high, d deep]
  · rw [takeFrameStart_matched window ⟨rx, same, wide, high, deep⟩, openWindowFrame_opens window free, same, wide, high, deep]
    cases slot : s.seq.slots[w.slot.val]? with
    | none => rw [slotHold_none slot]; rfl
    | some k => rw [slotHold_some slot]; rfl
  · rw [takeFrameStart_matched window ⟨rx, same, wide, high, deep⟩, openWindowFrame_drops window full,
      dropFrame_told unsigned told, isDropped]
    rfl
  · rw [takeFrameStart_matched window ⟨rx, same, wide, high, deep⟩, openWindowFrame_drops window full,
      dropFrame_untold unsigned untold, isDropped]
    rfl

end Sys2Proof.Reception
end

section
/-!
PROOFS. LINE (R42): the pixels that its bytes carry, the bytes of the DRAM that it writes, and what it counts.
-/

namespace Sys2Proof.Reception

open Sys2Proof.Machine Sys2Proof.Safety Sys2Proof.Power Sys2Proof.Bounds

variable {s : State} {p : Port}

/-! ## The pixels of a line -/

theorem pixelValues_byte (b : Byte) (rest : List Byte) : pixelValues 8 (b :: rest) = b.toNat :: pixelValues 8 rest := by
  cases rest <;> rfl

theorem pixelValues_bytes : ∀ {values : List Nat}, (∀ v ∈ values, v < 256) →
    pixelValues 8 (values.map (BitVec.ofNat 8)) = values
  | [], _ => rfl
  | v :: rest, small => by
    have first : v < 256 := small v List.mem_cons_self
    rw [List.map_cons, pixelValues_byte, pixelValues_bytes (fun x hx => small x (List.mem_cons_of_mem _ hx)),
      BitVec.toNat_ofNat, Nat.mod_eq_of_lt first]

/-- The two bytes of a pixel spell it. -/
theorem pixelBytes_toNat {v : Nat} (small : v < 65536) :
    (BitVec.ofNat 8 (v / 256)).toNat * 256 + (BitVec.ofNat 8 v).toNat = v := by
  rw [BitVec.toNat_ofNat, BitVec.toNat_ofNat]
  omega

theorem pixelValues_words {depth : Nat} (wide : depth ≠ 8) : ∀ {values : List Nat}, (∀ v ∈ values, v < 65536) →
    pixelValues depth (values.map pixelBytes).flatten = values
  | [], _ => rfl
  | v :: rest, small => by
    have first : v < 65536 := small v List.mem_cons_self
    show pixelValues depth (BitVec.ofNat 8 (v / 256) :: BitVec.ofNat 8 v :: (rest.map pixelBytes).flatten) = v :: rest
    rw [pixelValues, if_neg wide, pixelBytes_toNat first,
      pixelValues_words wide (fun x hx => small x (List.mem_cons_of_mem _ hx))]

/-- The bytes of a line of a depth (R42): one for each pixel at depth 8, otherwise two. -/
def Carries (depth : Nat) (values : List Nat) (bytes : List Byte) : Prop :=
  (depth = 8 ∧ (∀ v ∈ values, v < 256) ∧ bytes = values.map (BitVec.ofNat 8)) ∨
    (depth ≠ 8 ∧ (∀ v ∈ values, v < 65536) ∧ bytes = (values.map pixelBytes).flatten)

theorem Carries.small {depth : Nat} {values : List Nat} {bytes : List Byte} (h : Carries depth values bytes) :
    ∀ v ∈ values, v < 65536 := by
  intro v hv
  rcases h with ⟨-, small, -⟩ | ⟨-, small, -⟩
  · exact Nat.lt_trans (small v hv) (by decide)
  · exact small v hv

theorem Carries.pixels {depth : Nat} {values : List Nat} {bytes : List Byte} (h : Carries depth values bytes) :
    linePixelsOf values.length depth bytes = values := by
  have read : pixelValues depth bytes = values := by
    rcases h with ⟨rfl, small, rfl⟩ | ⟨wide, small, rfl⟩
    · exact pixelValues_bytes small
    · exact pixelValues_words wide small
  rw [linePixelsOf, read, Nat.sub_self, List.take_length, List.replicate_zero, List.append_nil]

/-! ## A line in the DRAM -/

theorem pixelBytes_length (values : List Nat) : (values.map pixelBytes).flatten.length = values.length * 2 := by
  induction values with
  | nil => rfl
  | cons v rest ih =>
    rw [List.map_cons, List.flatten_cons, List.length_append, ih, List.length_cons, Nat.add_one_mul, Nat.add_comm]
    rfl

theorem pixelBytes_get : ∀ {values : List Nat} {i v : Nat}, values[i]? = some v →
    (values.map pixelBytes).flatten[2 * i]? = some (BitVec.ofNat 8 (v / 256)) ∧
    (values.map pixelBytes).flatten[2 * i + 1]? = some (BitVec.ofNat 8 v)
  | [], i, v, h => by simp at h
  | x :: rest, 0, v, h => by
    cases h
    exact ⟨rfl, rfl⟩
  | x :: rest, i + 1, v, h => pixelBytes_get (values := rest) h

/-- A pixel of a stored line is read back. -/
theorem readPixel_writeLine {m : List Host.Cell} {pixels : List Nat} {i v : Nat} (buffer : Fin 48) (width k : Nat)
    (wf : Memory.wf m = true) (fits : pixels.length * 2 ≤ 16777216) (at_i : pixels[i]? = some v) (small : v < 65536) :
    Memory.readPixel (Memory.writeLine m buffer width k pixels) buffer (k * width + i) = v := by
  obtain ⟨high, low⟩ := pixelBytes_get at_i
  obtain ⟨highIn, highAt⟩ := List.getElem?_eq_some_iff.mp high
  obtain ⟨lowIn, lowAt⟩ := List.getElem?_eq_some_iff.mp low
  have room : (pixels.map pixelBytes).flatten.length ≤ 16777216 := by rwa [pixelBytes_length]
  have readHigh := Memory.read_writeBytes_at buffer _ m (k * width * 2) (2 * i) wf room highIn
  have readLow := Memory.read_writeBytes_at buffer _ m (k * width * 2) (2 * i + 1) wf room lowIn
  unfold Memory.readPixel Memory.writeLine
  rw [show 2 * (k * width + i) = k * width * 2 + 2 * i by ring, Nat.add_assoc, readHigh, readLow, highAt, lowAt,
    pixelBytes_toNat small]

theorem read_writeLine_other {m : List Host.Cell} {pixels : List Nat} {a : Nat} (buffer : Fin 48) (width k : Nat)
    (wf : Memory.wf m = true) (away : ∀ i, i < pixels.length * 2 → a ≠ bufferAddr buffer (k * width * 2 + i)) :
    Memory.read (Memory.writeLine m buffer width k pixels) a = Memory.read m a :=
  Memory.read_writeBytes_other buffer _ m _ a wf (fun i hi => away i (by rwa [pixelBytes_length] at hi))

/-! ## The line stored, and the others -/

/-- What an in-order line makes of its lane (R42). -/
def lineStored (f : RxFrame) (number : Nat) (stored : List Nat) (clamped bad : Bool) (l : Lane) : Lane :=
  { l with
    frame := some { f with
      lastLine := some number
      stored := number :: f.stored
      pixelSum := f.pixelSum + stored.sum
      flags := { f.flags with lineErrors := f.flags.lineErrors || clamped || bad } }
    counts := { l.counts with
      protocolErrors := if clamped then sat32 l.counts.protocolErrors else l.counts.protocolErrors
      crcErrors := if bad then sat32 l.counts.crcErrors else l.counts.crcErrors
      dataErrors := if bad then sat32 l.counts.dataErrors else l.counts.dataErrors } }

theorem setEvidence_self (s : State) (p : Port) : s.setEvidence p (fun e => e) = s := by
  unfold State.setEvidence
  rw [upd_eq_self s.monitor.ports p (fun e => e) rfl]

theorem storeLine_eq (s : State) (p : Port) (f : RxFrame) (number : Nat) (bytes : List Byte) (crc : BitVec 32)
    (values stored : List Nat) (clamped bad : Bool) (pixels : linePixelsOf f.width f.depth bytes = values)
    (isStored : stored = values.map (fun v => min v (fullScale f.depth)))
    (isClamped : clamped = values.any (fun v => fullScale f.depth < v)) (isBad : bad = (crc32 bytes != crc)) :
    s.storeLine p f number bytes crc =
      (({ s with dram := Memory.writeLine s.dram f.buffer f.width number stored }).setLane p
        (lineStored f number stored clamped bad)).setEvidence p
        (fun e => if bad then e.addError s.monitor.segment else e) := by
  unfold State.storeLine
  simp only [pixels, ← isStored, ← isClamped, ← isBad]
  cases clamped <;> cases bad
  case false.false => exact (setEvidence_self _ p).symm
  case true.false =>
    simp only [Bool.false_eq_true, if_false, if_true]
    rw [State.laneCount, setLane_setLane, setEvidence_self]
    rfl
  case false.true =>
    simp only [Bool.false_eq_true, if_false, if_true]
    rw [laneDataError_eq, State.laneCount, setLane_setLane, setLane_setLane]
    rfl
  case true.true =>
    simp only [if_true]
    rw [laneDataError_eq, State.laneCount, State.laneCount, setLane_setLane, setLane_setLane, setLane_setLane]
    rfl

theorem exec_line (locked : s.lanes[p].state = .locked) (number : Nat) (bytes : List Byte) (crc : BitVec 32) :
    exec (.line p number bytes crc) s = finish (s.takeLine p number bytes crc) := if_pos locked

theorem takeLine_receiving {w : RxWindow} {f : RxFrame} (window : s.lanes[p].window = some w) (rx : w.rx = .receiving)
    (frame : s.lanes[p].frame = some f) (number : Nat) (bytes : List Byte) (crc : BitVec 32) :
    s.takeLine p number bytes crc = s.takeFrameLine p f number bytes crc := by
  unfold State.takeLine
  simp only [window, rx, frame]

theorem inOrder_iff {f : RxFrame} {number : Nat} :
    f.inOrder number = true ↔ number < f.height ∧ ∀ k, f.lastLine = some k → k < number := by
  unfold RxFrame.inOrder
  cases f.lastLine with
  | none => simp
  | some k => simp

theorem takeFrameLine_late {f : RxFrame} {number : Nat} (late : f.height ≤ number ∨ ∃ k, f.lastLine = some k ∧ number ≤ k)
    (s : State) (p : Port) (bytes : List Byte) (crc : BitVec 32) : s.takeFrameLine p f number bytes crc =
      s.setLane p (fun l => { l with frame := some { f with flags := { f.flags with lineErrors := true } } }) := by
  refine if_neg (fun ordered => ?_)
  obtain ⟨inside, after⟩ := inOrder_iff.mp ordered
  rcases late with beyond | ⟨k, last, before⟩
  · omega
  · exact absurd (after k last) (Nat.not_lt.mpr before)

theorem takeLine_stray (unopened : s.lanes[p].window = none ∨ ∃ w, s.lanes[p].window = some w ∧ w.rx = .awaitingStart)
    (number : Nat) (bytes : List Byte) (crc : BitVec 32) : s.takeLine p number bytes crc = s.stray p := by
  unfold State.takeLine
  rcases unopened with closed | ⟨w, window, rx⟩
  · simp only [closed]
  · simp only [window, rx]

theorem takeLine_dropped {w : RxWindow} (window : s.lanes[p].window = some w) (rx : w.rx = .dropped)
    (number : Nat) (bytes : List Byte) (crc : BitVec 32) : s.takeLine p number bytes crc = s := by
  unfold State.takeLine
  simp only [window, rx]

/-- Settles O29: an in-order line writes its pixels' bytes, which are read back; any other changes its lane alone. -/
theorem lineStoresItsPixels : Obligations.LineStoresItsPixels := by
  intro s p number bytes crc locked
  rw [exec_line locked]
  refine ⟨fun w f values clamped bad window rx frame => ⟨fun inside after length room wf carries isClamped isBad => ?_,
    fun late => ?_⟩, fun unopened => ?_, fun ⟨w, window, rx⟩ => ?_⟩
  · have carried : Carries f.depth values bytes := carries
    have stores := storeLine_eq s p f number bytes crc values _ clamped bad (length ▸ carried.pixels) rfl
      (by rw [Bool.eq_iff_iff, isClamped, List.any_eq_true]; simp only [decide_eq_true_eq]; rfl) (by rw [Bool.eq_iff_iff, isBad]; simp)
    rw [takeLine_receiving window rx frame, State.takeFrameLine, if_pos (inOrder_iff.mpr ⟨inside, after⟩), stores]
    have fits : (values.map (fun v => min v (fullScale f.depth))).length * 2 ≤ 16777216 := by
      rw [List.length_map, length]
      nlinarith
    refine ⟨_, rfl, fun i v at_i => ?_, fun a away => read_writeLine_other _ _ _ wf (fun i hi => away i ?_)⟩
    · have small := carried.small v (List.mem_of_getElem? at_i)
      exact readPixel_writeLine f.buffer f.width number wf fits (by rw [List.getElem?_map, at_i]; rfl)
        (Nat.lt_of_le_of_lt (Nat.min_le_left _ _) small)
    · rwa [List.length_map, length] at hi
  · rw [takeLine_receiving window rx frame, takeFrameLine_late late]
    rfl
  · rw [takeLine_stray unopened]
    rfl
  · rw [takeLine_dropped window rx]
    rfl

end Sys2Proof.Reception
end

section
/-!
PROOFS. A frame on its way to the output queue (R83, R92, R104): its record, its buffer and its place, through all that the end
of a cycle or of the plan does with other frames (R87).
-/

namespace Sys2Proof.Reception

open Sys2Proof.Machine Sys2Proof.Safety Sys2Proof.Power Sys2Proof.Bounds

variable {s t : State}

/-! ## Records by id (R80) -/

/-- Records changed under their id are found as they were changed. -/
theorem frame?_setFrame {t : Store} {i : Nat} {g : FrameRecord → FrameRecord} (keeps : ∀ r, r.id = i → (g r).id = i)
    (id : Nat) : (t.setFrame i g).frame? id = (t.frame? id).map (fun r => if id = i then g r else r) := by
  have ids : ∀ r : FrameRecord, (if r.id = i then g r else r).id = r.id := by
    intro r
    split
    · next e => rw [keeps r e, e]
    · rfl
  unfold Store.frame? Store.setFrame
  rw [List.find?_map]
  simp only [Function.comp_def, ids]
  refine Option.map_congr (fun r hr => ?_)
  have e : r.id = id := by simpa using List.find?_some hr
  rw [e]

theorem frame?_setFrame_same {t : Store} {i : Nat} {g : FrameRecord → FrameRecord} {r : FrameRecord}
    (keeps : ∀ r, r.id = i → (g r).id = i) (found : t.frame? i = some r) : (t.setFrame i g).frame? i = some (g r) := by
  rw [frame?_setFrame keeps, found, Option.map_some, if_pos rfl]

theorem frame?_setFrame_other {t : Store} {i id : Nat} {g : FrameRecord → FrameRecord}
    (keeps : ∀ r, r.id = i → (g r).id = i) (other : id ≠ i) : (t.setFrame i g).frame? id = t.frame? id := by
  rw [frame?_setFrame keeps]
  simp only [if_neg other, Option.map_id']

theorem setFrame_setFrame (t : Store) {i : Nat} {g : FrameRecord → FrameRecord} (h : FrameRecord → FrameRecord)
    (keeps : ∀ r, r.id = i → (g r).id = i) : (t.setFrame i g).setFrame i h = t.setFrame i (fun r => h (g r)) := by
  simp only [Store.setFrame, List.map_map]
  refine congrArg (fun frames => { t with frames := frames }) (List.map_congr_left (fun r _ => ?_))
  show (if (if r.id = i then g r else r).id = i then h (if r.id = i then g r else r) else
    (if r.id = i then g r else r)) = if r.id = i then h (g r) else r
  by_cases e : r.id = i
  · simp only [if_pos e, if_pos (keeps r e)]
  · simp only [if_neg e]

/-- What a move leaves of the store but for the buffers. -/
theorem move_rest (t : Store) (i : Nat) (st : BufferState) : ∃ b, t.move i st = { t with buffers := b } := by
  unfold Store.move
  split
  · exact ⟨t.buffers, rfl⟩
  · exact ⟨_, rfl⟩

theorem move_frame? (t : Store) (i : Nat) (st : BufferState) (id : Nat) : (t.move i st).frame? id = t.frame? id := by
  obtain ⟨b, e⟩ := move_rest t i st
  rw [e]
  rfl

theorem move_buffer {t : Store} {i : Nat} {f : FrameRecord} (st : BufferState) (found : t.frame? i = some f) :
    (t.move i st).buffers[f.buffer] = st := by
  unfold Store.move
  simp only [found]
  exact upd_same _ _ _

/-- A buffer in a state is in it after another frame's move to the same state. -/
theorem move_keeps {t : Store} {b : Fin 48} {st : BufferState} (i : Nat) (h : t.buffers[b] = st) :
    (t.move i st).buffers[b] = st := by
  unfold Store.move
  split
  · exact h
  · rw [upd_get]
    split
    · rfl
    · exact h

/-! ## The transmitter that is not idle (R104) -/

/-- The transmitter makes no send choice: with the link UP something is sent or waits to be. -/
def Busy (u : Uplink) : Prop := u.up = true → u.item.isSome = true ∨ u.trailer.isSome = true ∨ u.packet.isSome = true

theorem sendChoice_busy (busy : Busy s.uplink) : s.sendChoice = s := by
  refine if_pos ?_
  cases up : s.uplink.up with
  | false => rfl
  | true => rcases busy up with h | h | h <;> simp [h]

theorem joinOutput_busy (busy : Busy s.uplink) (id : Nat) : s.joinOutput id =
    s.setStore (fun t => { t.move id .queued with outputQueue := t.outputQueue ++ [id] }) :=
  sendChoice_busy (s := s.setStore (fun t => { t.move id .queued with outputQueue := t.outputQueue ++ [id] })) busy

/-! ## A frame on the output queue -/

/-- The frame `id` stands on the output queue after `base`, its buffer `b` QUEUED, in no combine group. -/
structure Queued (id : Nat) (b : Fin 48) (f : FrameRecord) (base : List Nat) (s : State) : Prop where
  record : s.store.frame? id = some f
  buffer : s.store.buffers[b] = .queued
  queue : ∃ rest, s.store.outputQueue = base ++ id :: rest
  busy : Busy s.uplink
  apart : ∀ g ∈ s.store.groups, ∀ i : Fin 8, g.places[i] ≠ some id

variable {id : Nat} {b : Fin 48} {f : FrameRecord} {base : List Nat}

/-- A change of the groups alone, to fewer of them. -/
theorem Queued.fewer (h : Queued id b f base s) {g : Store → Store} (frames : (g s.store).frames = s.store.frames)
    (buffers : (g s.store).buffers = s.store.buffers) (queue : (g s.store).outputQueue = s.store.outputQueue)
    (groups : ∀ x ∈ (g s.store).groups, x ∈ s.store.groups) : Queued id b f base (s.setStore g) where
  record := by
    show (g s.store).frame? id = some f
    rw [Store.frame?, frames]
    exact h.record
  buffer := by
    show (g s.store).buffers[b] = .queued
    rw [buffers]
    exact h.buffer
  queue := by
    show ∃ rest, (g s.store).outputQueue = _
    rw [queue]
    exact h.queue
  busy := h.busy
  apart x hx := h.apart x (groups x hx)

/-- Another frame is flagged UNCOMBINED and joins the output queue. -/
theorem Queued.behind (h : Queued id b f base s) {i : Nat} (other : id ≠ i) : Queued id b f base ((s.setStore (fun t =>
    t.setFrame i (fun r => { r with flags := { r.flags with uncombined := true } }))).joinOutput i) := by
  rw [joinOutput_busy (by exact h.busy)]
  let flag : FrameRecord → FrameRecord := fun r => { r with flags := { r.flags with uncombined := true } }
  let flagged := s.store.setFrame i flag
  obtain ⟨moved, rest⟩ := move_rest flagged i .queued
  obtain ⟨behind, queue⟩ := h.queue
  refine ⟨?_, move_keeps (t := flagged) i h.buffer, ⟨behind ++ [i], ?_⟩, h.busy, ?_⟩
  · show (flagged.move i .queued).frame? id = some f
    rw [move_frame?]
    exact (frame?_setFrame_other (g := flag) (fun _ e => e) other).trans h.record
  · show s.store.outputQueue ++ [i] = _
    rw [queue, List.append_assoc, List.cons_append]
  · show ∀ g ∈ (flagged.move i .queued).groups, _
    rw [rest]
    exact h.apart

theorem Queued.sendUncombined : ∀ {ids : List Nat} {s : State}, Queued id b f base s → id ∉ ids →
    Queued id b f base (State.sendUncombined ids s)
  | [], _, h, _ => h
  | i :: ids, s, h, apart => by
    have other : id ≠ i := fun e => apart (e ▸ List.mem_cons_self)
    exact Queued.sendUncombined (ids := ids) (h.behind other) (fun m => apart (List.mem_cons_of_mem _ m))

theorem Queued.abandon (h : Queued id b f base s) {g : Group} (apart : ∀ i : Fin 8, g.places[i] ≠ some id) :
    Queued id b f base (s.abandon g) := by
  have counted : Queued id b f base (s.setStore (fun t => { t with abandoned := sat32 t.abandoned })) :=
    h.fewer rfl rfl rfl (fun _ hx => hx)
  refine counted.sendUncombined (fun present => ?_)
  obtain ⟨o, place, e⟩ := List.mem_filterMap.mp present
  obtain ⟨i, hi, at_i⟩ := List.mem_iff_getElem.mp place
  have small : i < 8 := by simpa using hi
  refine apart ⟨i, small⟩ ?_
  rw [Vector.getElem_toList] at at_i
  exact at_i.trans e

theorem Queued.endGroups : ∀ {ks : List (Fin 4 × Port)} {s : State}, Queued id b f base s →
    Queued id b f base (State.endGroups ks s)
  | [], _, h => h
  | (k, p) :: ks, s, h => by
    unfold State.endGroups
    cases found : s.store.group? k p with
    | none => exact Queued.endGroups (ks := ks) h
    | some g =>
      have left : Queued id b f base (s.setStore (·.dropGroup k p)) :=
        h.fewer rfl rfl rfl (fun _ hx => List.mem_of_mem_filter hx)
      have apart := h.apart g (List.mem_of_find?_eq_some found)
      refine Queued.endGroups (ks := ks) ?_
      show Queued id b f base (if g.broken then _ else _)
      split
      · exact left
      · exact left.abandon apart

theorem Queued.storePlanEnded (h : Queued id b f base s) : Queued id b f base s.storePlanEnded := by
  have ended : Queued id b f base (State.endGroups slotPorts s) := h.endGroups
  unfold State.storePlanEnded
  generalize State.endGroups slotPorts s = u at ended ⊢
  exact ended.fewer rfl rfl rfl (fun _ hx => hx)

/-! ## The end of a cycle and of the plan (R65, R87) -/

/-- The store and the transmitter are as they were. -/
def SameStock (s t : State) : Prop := t.store = s.store ∧ t.uplink = s.uplink

theorem SameStock.refl (s : State) : SameStock s s := ⟨rfl, rfl⟩

theorem SameStock.trans {u : State} (h : SameStock s t) (g : SameStock t u) : SameStock s u :=
  ⟨g.1.trans h.1, g.2.trans h.2⟩

theorem sameStock_of_changes {F : List Part} (h : Changes F s t) (store : .store ∉ F) (uplink : .uplink ∉ F) :
    SameStock s t := ⟨h.store store, h.uplink uplink⟩

theorem Queued.same (h : Queued id b f base s) (same : SameStock s t) : Queued id b f base t := by
  obtain ⟨store, uplink⟩ := same
  obtain ⟨record, buffer, queue, busy, apart⟩ := h
  exact ⟨store ▸ record, store ▸ buffer, store ▸ queue, uplink ▸ busy, store ▸ apart⟩

theorem sweepResume_stock (s : State) : SameStock s s.sweepResume :=
  sameStock_of_changes (sweepResume_follows s).toChanges (by decide) (by decide)

theorem waitsEnd_stock (s : State) (ps : List Port) : SameStock s (s.waitsEnd ps) :=
  sameStock_of_changes (waitsEnd_follows s ps).toChanges (by decide) (by decide)

theorem beginCycle_stock (s : State) (delayed : Bool) : SameStock s (s.beginCycle delayed) := by
  unfold State.beginCycle
  split
  · exact .refl s
  · extract_lets n last next begun
    have begins : SameStock s begun := by
      simp only [begun]
      split <;> exact ⟨rfl, rfl⟩
    have posts := forPorts_follows (fun p u => postSlot_follows u p (u.seq.firstPreset p)) allPorts begun
    exact (begins.trans (sameStock_of_changes posts.toChanges (by decide) (by decide))).trans (sweepResume_stock _)

theorem endCycle_stock (s : State) :
    SameStock s s.endCycle ∨ ∃ u, SameStock s u ∧ SameStock u.storePlanEnded s.endCycle := by
  unfold State.endCycle
  split
  · let told := (s.setSeq (fun q => { q with
      state := .loaded
      current := none
      pending := none
      nextExpiry := none })).planNotice s.seq.state .stopped
    have ended : SameStock s told :=
      sameStock_of_changes ((setSeq_changes s _).trans (planNotice_changes _ _ _)) (by decide) (by decide)
    have walked : SameStock told.storePlanEnded told.storePlanEnded.walk :=
      sameStock_of_changes (walk_follows _).toChanges (by decide) (by decide)
    exact .inr ⟨told, ended, (walked.trans (waitsEnd_stock _ _)).trans (sweepResume_stock _)⟩
  · extract_lets armed next
    have begins : SameStock s next := by
      show SameStock s (match s.seq.pending with
        | none => armed
        | some g => if s.planQuiet then _ else armed.beginCycle false)
      split
      · exact ⟨rfl, rfl⟩
      · split
        · exact ⟨rfl, rfl⟩
        · exact SameStock.trans ⟨rfl, rfl⟩ (beginCycle_stock armed false)
    exact .inl ((begins.trans (waitsEnd_stock _ _)).trans (sweepResume_stock _))
  all_goals exact .inl (.refl s)

/-- The end of a cycle leaves the store and the transmitter as they are, but for what the end of the plan does. -/
theorem checkCycle_stock (s : State) :
    SameStock s s.checkCycle ∨ ∃ u, SameStock s u ∧ SameStock u.storePlanEnded s.checkCycle := by
  unfold State.checkCycle
  split
  · exact endCycle_stock s
  · exact .inl (sweepResume_stock s)

theorem Queued.checkCycle (h : Queued id b f base s) : Queued id b f base s.checkCycle := by
  rcases checkCycle_stock s with same | ⟨u, before, after⟩
  · exact h.same same
  · exact (h.same before).storePlanEnded.same after

/-! ## With no combine group (R87) -/

theorem endGroups_none (groups : s.store.groups = []) : ∀ ks : List (Fin 4 × Port), State.endGroups ks s = s
  | [] => rfl
  | (k, p) :: ks => by
    have absent : s.store.group? k p = none := by rw [Store.group?, groups]; rfl
    unfold State.endGroups
    simp only [absent]
    exact endGroups_none groups ks

/-- The store, but for which drops were told, and the transmitter are as they were. -/
def SameFrames (s t : State) : Prop :=
  (∃ n, t.store = { s.store with notified := n }) ∧ t.uplink = s.uplink

theorem checkCycle_frames (groups : s.store.groups = []) : SameFrames s s.checkCycle := by
  rcases checkCycle_stock s with ⟨store, uplink⟩ | ⟨u, ⟨store, uplink⟩, endStore, endUplink⟩
  · exact ⟨⟨s.store.notified, store⟩, uplink⟩
  · have none_left : u.store.groups = [] := by rw [store, groups]
    rw [State.storePlanEnded, endGroups_none none_left] at endStore endUplink
    exact ⟨⟨Vector.replicate 8 none, endStore.trans
      (congrArg (fun t : Store => { t with notified := Vector.replicate 8 none }) store)⟩, endUplink.trans uplink⟩

end Sys2Proof.Reception
end

section
/-!
PROOFS. The hand-over of a closed frame to the output queue (R81, R83, R92), and the send that an idle transmitter begins
(R93, R102, R104).
-/

namespace Sys2Proof.Reception

open Sys2Proof.Machine Sys2Proof.Safety Sys2Proof.Power Sys2Proof.Bounds

variable {s : State} {id : Nat} {f : FrameRecord}

/-! ## The hand-over (R83) -/

/-- A record with CABLE_SUSPECT where the break table suspects its port's cable. -/
def suspected (suspect : Bool) (r : FrameRecord) : FrameRecord :=
  { r with flags := { r.flags with cableSuspect := r.flags.cableSuspect || suspect } }

theorem suspected_eq (suspect : Bool) (r : FrameRecord) :
    (if suspect = true then { r with flags := { r.flags with cableSuspect := true } } else r) = suspected suspect r := by
  cases suspect <;> simp [suspected]

/-- A frame that goes to the output queue as it is, or flagged UNCOMBINED where no plan is in service (R83). -/
def Routes (s : State) (f routed : FrameRecord) : Prop :=
  ((s.seq.signAt f.slot f.position).signed = false ∧ routed = f) ∨
    (s.seq.state.inService = false ∧ (s.seq.signAt f.slot f.position).signed = true ∧
      routed = { f with flags := { f.flags with uncombined := true } })

theorem handOver_routes {r routed : FrameRecord} (found : s.store.frame? id = some r)
    (route : Routes s (suspected (s.table.suspects r.port) r) routed) :
    s.handOver id = (s.setStore (·.setFrame id (fun _ => routed))).joinOutput id := by
  have named : r.id = id := (Store.frame?_spec found).2
  unfold State.handOver
  simp only [found, suspected_eq]
  rcases route with ⟨unsigned, rfl⟩ | ⟨idle, signed, rfl⟩
  · refine if_neg ?_
    rw [show (s.setStore _).seq = s.seq from rfl, unsigned]
    decide
  · refine (if_pos signed).trans ((if_neg ?_).trans ?_)
    · rw [show (s.setStore _).seq = s.seq from rfl, idle]
      decide
    · show State.joinOutput id ((s.setStore _).setStore _) = _
      refine congrArg (State.joinOutput id) ?_
      exact congrArg (fun t => ({ s with store := t } : State)) (setFrame_setFrame s.store _ (fun _ _ => named))

/-- A frame that is queued behind a transmitter that is not idle. -/
theorem joinOutput_queued (found : s.store.frame? id = some f) (busy : Busy s.uplink)
    (apart : ∀ g ∈ s.store.groups, ∀ i : Fin 8, g.places[i] ≠ some id) :
    Queued id f.buffer f s.store.outputQueue (s.joinOutput id) := by
  obtain ⟨moved, rest⟩ := move_rest s.store id .queued
  rw [joinOutput_busy busy]
  refine ⟨?_, move_buffer .queued found, ⟨[], rfl⟩, busy, ?_⟩
  · exact (move_frame? s.store id .queued id).trans found
  · show ∀ g ∈ (s.store.move id .queued).groups, _
    rw [rest]
    exact apart

/-! ## The send that begins (R93, R102, R104) -/

/-- A record as the beginning of its send leaves it, with `held` places taken (R93). -/
def sentRecord (held : Nat) (f : FrameRecord) : FrameRecord :=
  { f with
    heldPlace := f.heldPlace || (f.hold && decide (held < 8))
    flags := { f.flags with notHeld := f.flags.notHeld || (f.hold && decide (8 ≤ held)) } }

/-- What the beginning of a frame's send leaves of a store (R93, R105). -/
structure Sends (id : Nat) (f : FrameRecord) (t u : Store) : Prop where
  buffer : u.buffers[f.buffer] = .sending
  queue : u.outputQueue = []
  record : u.frame? id = some (sentRecord t.heldSet.length f)
  held : u.heldSet = if f.hold = true ∧ t.heldSet.length < 8 then t.heldSet ++ [id] else t.heldSet
  groups : u.groups = t.groups

theorem beginSend_sends {t : Store} (found : t.frame? id = some f) : Sends id f t (t.beginSend id [] f) := by
  let emptied : Store := { t with outputQueue := [] }
  obtain ⟨buffers, moved⟩ := move_rest emptied id .sending
  have sending : (emptied.move id .sending).buffers[f.buffer] = .sending := move_buffer .sending found
  have recorded : (emptied.move id .sending).frame? id = some f := (move_frame? emptied id .sending id).trans found
  have rest : (emptied.move id .sending).heldSet = t.heldSet ∧ (emptied.move id .sending).groups = t.groups ∧
      (emptied.move id .sending).outputQueue = [] := by rw [moved]; exact ⟨rfl, rfl, rfl⟩
  obtain ⟨held, groups, queue⟩ := rest
  unfold Store.beginSend
  simp only [show (({ t with outputQueue := [] } : Store).move id .sending) = emptied.move id .sending from rfl]
  generalize emptied.move id .sending = v at *
  cases hold : f.hold with
  | false =>
    refine ⟨sending, queue, recorded.trans ?_, held.trans ?_, groups⟩
    · simp only [sentRecord, hold, Bool.false_and, Bool.or_false]
      exact congrArg some (congrArg (fun b => { f with hold := b }) hold.symm).symm
    · rw [if_neg (by rw [hold]; simp)]
  | true =>
    simp only [if_true, held]
    by_cases room : t.heldSet.length < 8
    · rw [if_pos room]
      refine ⟨sending, queue, (frame?_setFrame_same (g := fun r => { r with heldPlace := true }) (fun _ e => e)
        recorded).trans ?_, ?_, groups⟩
      · simp [sentRecord, hold, room, Nat.not_le.mpr room]
      · simp [hold, room]
    · rw [if_neg room]
      refine ⟨sending, queue, (frame?_setFrame_same (g := fun r => { r with flags := { r.flags with notHeld := true } })
        (fun _ e => e) recorded).trans ?_, held.trans ?_, groups⟩
      · simp [sentRecord, hold, room, Nat.not_lt.mp room]
      · simp [hold, room]

/-- An idle transmitter (R104). -/
structure Idle (u : Uplink) : Prop where
  up : u.up = true
  item : u.item = none
  trailer : u.trailer = none
  packet : u.packet = none
  regions : u.regions = []

/-- What the transmitter does with the first packet of a frame's item (R102, R103). -/
structure BeginsHeader (id : Nat) (sent : FrameRecord) (u v : Uplink) : Prop where
  waits : u.credits = 0 → v.item = some ⟨.frame, id, .header, 0, crc32Init⟩ ∧ v.packet = none ∧ v.waiting = true
  begins : 0 < u.credits → v.packet = some ⟨.header, headerPacket sent⟩ ∧ v.credits = u.credits - 1 ∧
    v.item = some ⟨.frame, id, if 0 < sent.height then .line 0 else .trailer, 0, crc32Init⟩

theorem beginPacket_header {sent : FrameRecord} (idle : Idle s.uplink) (found : s.store.frame? id = some sent) :
    BeginsHeader id sent s.uplink
      (s.setUplink (fun u => { u with item := some ⟨.frame, id, .header, 0, crc32Init⟩ })).beginPacket.uplink ∧
    (s.setUplink (fun u => { u with item := some ⟨.frame, id, .header, 0, crc32Init⟩ })).beginPacket.store = s.store := by
  obtain ⟨up, -, trailer, packet, -⟩ := idle
  have begun : (s.setUplink (fun u => { u with item := some ⟨.frame, id, .header, 0, crc32Init⟩ })).beginPacket =
      if s.uplink.credits = 0 then
        (s.setUplink (fun u => { u with item := some ⟨.frame, id, .header, 0, crc32Init⟩ })).creditWait
      else s.setUplink (fun u => { u with
        item := some ⟨.frame, id, if 0 < sent.height then .line 0 else .trailer, 0, crc32Init⟩
        packet := some ⟨.header, headerPacket sent⟩
        credits := u.credits - 1
        waiting := false }) := by
    unfold State.beginPacket
    simp only [State.setUplink, up, packet, trailer, found]
    rfl
  rw [begun]
  by_cases none_left : s.uplink.credits = 0
  · rw [if_pos none_left]
    refine ⟨⟨fun _ => ?_, fun some => absurd none_left (Nat.ne_of_gt some)⟩, ?_⟩
    · unfold State.creditWait
      split
      · next waiting => exact ⟨rfl, packet, waiting⟩
      · exact ⟨rfl, packet, rfl⟩
    · unfold State.creditWait
      split <;> rfl
  · rw [if_neg none_left]
    exact ⟨⟨fun zero => absurd zero none_left, fun _ => ⟨rfl, rfl, rfl⟩⟩, rfl⟩

/-- The frame that joins the empty output queue of an idle transmitter is sent at once. -/
theorem joinOutput_sends (found : s.store.frame? id = some f) (idle : Idle s.uplink) (empty : s.store.outputQueue = []) :
    Sends id f s.store (s.joinOutput id).store ∧
    BeginsHeader id (sentRecord s.store.heldSet.length f) s.uplink (s.joinOutput id).uplink := by
  let queued := s.setStore (fun t => { t.move id .queued with outputQueue := t.outputQueue ++ [id] })
  obtain ⟨buffers, moved⟩ := move_rest s.store id .queued
  have recorded : queued.store.frame? id = some f := (move_frame? s.store id .queued id).trans found
  have same : queued.store.heldSet = s.store.heldSet ∧ queued.store.groups = s.store.groups := by
    show (s.store.move id .queued).heldSet = _ ∧ (s.store.move id .queued).groups = _
    rw [moved]
    exact ⟨rfl, rfl⟩
  have alone : queued.store.outputQueue = [id] := by
    show s.store.outputQueue ++ [id] = [id]
    rw [empty, List.nil_append]
  obtain ⟨heldSet, groups⟩ := same
  obtain ⟨up, item, trailer, packet, regions⟩ := idle
  have chosen : s.joinOutput id = ((queued.setStore (·.beginSend id [] f)).setUplink (fun u => { u with
      item := some ⟨.frame, id, .header, 0, crc32Init⟩ })).beginPacket := by
    show queued.sendChoice = _
    unfold State.sendChoice
    rw [if_neg (by simp [queued, up, item, trailer, packet])]
    simp only [show queued.uplink.regions = [] from regions, alone, recorded]
  obtain ⟨buffer, queue, record, held, kept⟩ := beginSend_sends recorded
  rw [heldSet] at record held
  obtain ⟨header, store⟩ := beginPacket_header (s := queued.setStore (·.beginSend id [] f))
    ⟨up, item, trailer, packet, regions⟩ record
  rw [chosen, store]
  exact ⟨⟨buffer, queue, record, held, kept.trans groups⟩, header⟩

end Sys2Proof.Reception
end

section
/-!
PROOFS. The missing lines of a closed frame in the DRAM (R43), and the ambient check of its mean (R71, R72).
-/

namespace Sys2Proof.Reception

open Sys2Proof.Machine Sys2Proof.Safety Sys2Proof.Power Sys2Proof.Bounds

variable {s : State} {p : Port} {f : RxFrame}

/-! ## The missing lines (R43) -/

theorem mem_missing {k : Nat} : k ∈ f.missing ↔ k < f.height ∧ k ∉ f.stored := by
  simp [RxFrame.missing]

/-- The address `a` lies in line `k` of a frame. -/
def InLine (buffer : Fin 48) (width k a : Nat) : Prop := ∃ i, i < width * 2 ∧ a = bufferAddr buffer (k * width * 2 + i)

theorem zeroPixels_byte {width : Nat} {b : Byte} (h : b ∈ ((List.replicate width 0).map pixelBytes).flatten) : b = 0 := by
  obtain ⟨line, isLine, inLine⟩ := List.mem_flatten.mp h
  obtain ⟨v, isZero, rfl⟩ := List.mem_map.mp isLine
  rw [List.eq_of_mem_replicate isZero] at inLine
  simpa [pixelBytes] using inLine

theorem zeroPixels_length (width : Nat) : ((List.replicate width 0).map pixelBytes).flatten.length = width * 2 := by
  rw [pixelBytes_length, List.length_replicate]

theorem read_zeroLine {m : List Host.Cell} {buffer : Fin 48} {width k a : Nat} (wf : Memory.wf m = true)
    (fits : width * 2 ≤ 16777216) (inLine : InLine buffer width k a) :
    Memory.read (Memory.writeLine m buffer width k (List.replicate width 0)) a = 0 := by
  obtain ⟨i, inside, rfl⟩ := inLine
  have written := Memory.read_writeBytes_at buffer ((List.replicate width 0).map pixelBytes).flatten m (k * width * 2) i wf
    (by rwa [zeroPixels_length]) (by rwa [zeroPixels_length])
  exact written.trans (zeroPixels_byte (List.getElem_mem _))

theorem read_zeroLine_other {m : List Host.Cell} {buffer : Fin 48} {width k a : Nat} (wf : Memory.wf m = true)
    (away : ¬ InLine buffer width k a) :
    Memory.read (Memory.writeLine m buffer width k (List.replicate width 0)) a = Memory.read m a :=
  read_writeLine_other buffer width k wf (fun i hi e => away ⟨i, by rwa [List.length_replicate] at hi, e⟩)

theorem read_fillLines_other {buffer : Fin 48} {width a : Nat} : ∀ {ks : List Nat} {m : List Host.Cell},
    Memory.wf m = true → (∀ k ∈ ks, ¬ InLine buffer width k a) →
    Memory.read (Memory.fillLines m buffer width ks) a = Memory.read m a
  | [], _, _, _ => rfl
  | k :: ks, m, wf, away => by
    have rest := read_fillLines_other (ks := ks) (Memory.writeLine_wf m buffer width k (List.replicate width 0) wf)
      (fun j hj => away j (List.mem_cons_of_mem k hj))
    exact rest.trans (read_zeroLine_other wf (away k List.mem_cons_self))

/-- A byte of a filled line reads 0, for a later line of the list fills it with 0 again or leaves it. -/
theorem read_fillLines {buffer : Fin 48} {width a : Nat} (fits : width * 2 ≤ 16777216) :
    ∀ {ks : List Nat} {m : List Host.Cell}, Memory.wf m = true →
    (Memory.read m a = 0 ∨ ∃ k ∈ ks, InLine buffer width k a) →
    Memory.read (Memory.fillLines m buffer width ks) a = 0
  | [], _, _, h => h.resolve_right (by simp)
  | k :: ks, m, wf, h => by
    refine read_fillLines fits (ks := ks) (Memory.writeLine_wf m buffer width k (List.replicate width 0) wf) ?_
    by_cases here : InLine buffer width k a
    · exact .inl (read_zeroLine wf fits here)
    · rw [read_zeroLine_other wf here]
      refine h.imp_right (fun ⟨j, hj, inLine⟩ => ⟨j, ?_, inLine⟩)
      exact (List.mem_cons.mp hj).resolve_left (fun e => here (e ▸ inLine))

theorem readPixel_fillLines {m : List Host.Cell} {buffer : Fin 48} {width k x : Nat} {ks : List Nat}
    (wf : Memory.wf m = true) (fits : width * 2 ≤ 16777216) (filled : k ∈ ks) (inside : x < width) :
    Memory.readPixel (Memory.fillLines m buffer width ks) buffer (k * width + x) = 0 := by
  have zero : ∀ i, i < width * 2 → Memory.read (Memory.fillLines m buffer width ks)
      (bufferAddr buffer (k * width * 2 + i)) = 0 :=
    fun i hi => read_fillLines fits wf (.inr ⟨k, filled, i, hi, rfl⟩)
  unfold Memory.readPixel
  rw [show 2 * (k * width + x) = k * width * 2 + 2 * x by ring, Nat.add_assoc, zero _ (by omega), zero _ (by omega)]
  rfl

/-- The DRAM of a frame whose missing lines are filled (R43). -/
structure Filled (f : RxFrame) (before after : List Host.Cell) : Prop where
  zero : ∀ k x, k < f.height → k ∉ f.stored → x < f.width → Memory.readPixel after f.buffer (k * f.width + x) = 0
  rest : ∀ a, (∀ k i, k < f.height → k ∉ f.stored → i < f.width * 2 → a ≠ bufferAddr f.buffer (k * f.width * 2 + i)) →
    Memory.read after a = Memory.read before a

theorem fillLines_filled {m : List Host.Cell} (wf : Memory.wf m = true) (fits : f.height * f.width * 2 ≤ 16777216) :
    Filled f m (Memory.fillLines m f.buffer f.width f.missing) where
  zero k x inside missing pixel := by
    refine readPixel_fillLines wf ?_ (mem_missing.mpr ⟨inside, missing⟩) pixel
    nlinarith
  rest a away := read_fillLines_other wf (fun k hk ⟨i, hi, e⟩ =>
    away k i (mem_missing.mp hk).1 (mem_missing.mp hk).2 hi e)

/-! ## The ambient check (R71, R72) -/

/-- The flags with which a closed frame is checked: a missing line truncates it (R43). -/
def closedFlags (f : RxFrame) : FrameFlags := { f.flags with truncated := f.flags.truncated || !f.missing.isEmpty }

/-- A whole frame of a DARK position of a flashed slot whose mean is above its port's threshold (R71). -/
def High (s : State) (p : Port) (f : RxFrame) : Prop :=
  (∀ k, k < f.height → k ∈ f.stored) ∧ f.flags.truncated = false ∧ s.settings.ports[p].ambientThreshold < f.mean ∧
    s.settings.ports[p].ambientLimit ≠ .off ∧
    ∃ k, s.seq.slots[f.slot.val]? = some k ∧ 0 < k.used ∧ k.fire[f.position]? = some false

theorem missing_isEmpty : f.missing.isEmpty = true ↔ ∀ k, k < f.height → k ∈ f.stored := by
  rw [List.isEmpty_iff, List.eq_nil_iff_forall_not_mem]
  refine forall_congr' (fun k => ?_)
  rw [mem_missing, not_and, not_not]

theorem ambientApplies_iff {truncated : Bool} {slot : Fin 4} {position : Nat} :
    s.ambientApplies p slot position truncated = true ↔ truncated = false ∧ s.settings.ports[p].ambientLimit ≠ .off ∧
      ∃ k, s.seq.slots[slot.val]? = some k ∧ 0 < k.used ∧ k.fire[position]? = some false := by
  unfold State.ambientApplies Sequencer.slot?
  cases present : s.seq.slots[slot.val]? with
  | none => simp
  | some k =>
    simp only [Bool.and_eq_true, decide_eq_true_eq, bne_iff_ne, Bool.not_eq_true', Option.some.injEq]
    constructor
    · rintro ⟨⟨⟨used, dark⟩, limited⟩, whole⟩
      exact ⟨whole, limited, k, rfl, used, dark⟩
    · rintro ⟨whole, limited, _, rfl, used, dark⟩
      exact ⟨⟨⟨used, dark⟩, limited⟩, whole⟩

theorem ambientTest_iff : (s.ambientApplies p f.slot f.position (closedFlags f).truncated &&
    decide ((s.profileOf p).ambientThreshold < f.mean)) = true ↔ High s p f := by
  have whole : (closedFlags f).truncated = false ↔ f.flags.truncated = false ∧ ∀ k, k < f.height → k ∈ f.stored := by
    rw [closedFlags, Bool.or_eq_false_iff, Bool.not_eq_false', missing_isEmpty]
  rw [Bool.and_eq_true, decide_eq_true_eq, ambientApplies_iff, whole]
  constructor
  · rintro ⟨⟨⟨uncut, stored⟩, limited, dark⟩, above⟩
    exact ⟨stored, uncut, above, limited, dark⟩
  · rintro ⟨stored, uncut, above, limited, dark⟩
    exact ⟨⟨⟨uncut, stored⟩, limited, dark⟩, above⟩

/-- The AMBIENT notice of a frame (R72). -/
def ambientNotice (s : State) (p : Port) (f : RxFrame) : Notice :=
  ⟨some p, s.clock, .ambient f.slot f.cycle f.mean s.settings.ports[p].ambientThreshold s.settings.ports[p].ambientLimit⟩

/-- What the ambient check of a frame leaves (R71, R72), where `limit` high dark frames are told. -/
structure AmbientChecked (s : State) (p : Port) (f : RxFrame) (high : Bool) (limit : Nat) (t : State) : Prop where
  count : t.seq.exceed[p] = if high = true then if limit ≤ s.seq.exceed[p] + 1 then 0 else s.seq.exceed[p] + 1
    else s.seq.exceed[p]
  told : Posted (if high = true ∧ limit ≤ s.seq.exceed[p] + 1 then [ambientNotice s p f] else []) s.link t.link

theorem ambientHigh_checked {limit : Nat} (counts : (s.settings.ports[p].ambientLimit).count = some limit) :
    AmbientChecked s p f true limit (s.ambientHigh p f.slot f.cycle f.mean) := by
  have counted : s.ambientHigh p f.slot f.cycle f.mean = if limit ≤ s.seq.exceed[p] + 1 then
      State.post { s with seq := { s.seq with exceed := upd s.seq.exceed p (fun _ => 0) } } (some p)
        (ambientNotice s p f).body
      else { s with seq := { s.seq with exceed := upd s.seq.exceed p (fun _ => s.seq.exceed[p] + 1) } } := by
    unfold State.ambientHigh
    simp only [State.profileOf, counts]
    rfl
  rw [counted]
  by_cases reached : limit ≤ s.seq.exceed[p] + 1
  · rw [if_pos reached]
    refine ⟨?_, ?_⟩
    · rw [(post_changes _ _ _).seq (by decide), if_pos rfl, if_pos reached]
      exact upd_same _ _ _
    · rw [if_pos ⟨rfl, reached⟩]
      exact post_posted { s with seq := { s.seq with exceed := upd s.seq.exceed p (fun _ => 0) } } (some p)
        (ambientNotice s p f).body
  · rw [if_neg reached]
    refine ⟨?_, ?_⟩
    · rw [if_pos rfl, if_neg reached]
      exact upd_same _ _ _
    · rw [if_neg (fun h => reached h.2)]
      exact .refl _

theorem count_of_limits {limit : AmbientLimit} {n : Nat} (on : limit ≠ .off)
    (pair : (limit, n) ∈ [(AmbientLimit.off, 0), (.one, 1), (.eight, 8), (.thirtyTwo, 32)]) : limit.count = some n := by
  cases limit <;> simp_all [AmbientLimit.count]

theorem ambientCheck_flags {high : Bool} (isHigh : high = true ↔ High s p f) :
    (s.ambientCheck p f (closedFlags f) f.mean).2 =
      { closedFlags f with ambientHigh := f.flags.ambientHigh || high } := by
  unfold State.ambientCheck
  cases high with
  | true => rw [if_pos (ambientTest_iff.mpr (isHigh.mp rfl)), Bool.or_true]
  | false =>
    rw [if_neg (fun h => absurd (isHigh.mpr (ambientTest_iff.mp h)) (by decide)), Bool.or_false]
    rfl

theorem ambientCheck_checked {high : Bool} {limit : Nat} (isHigh : high = true ↔ High s p f)
    (pair : (s.settings.ports[p].ambientLimit, limit) ∈ [(AmbientLimit.off, 0), (.one, 1), (.eight, 8), (.thirtyTwo, 32)]) :
    AmbientChecked s p f high limit (s.ambientCheck p f (closedFlags f) f.mean).1 := by
  unfold State.ambientCheck
  cases high with
  | true =>
    have isOn := isHigh.mp rfl
    rw [if_pos (ambientTest_iff.mpr isOn)]
    obtain ⟨-, -, -, limited, -⟩ := isOn
    exact ambientHigh_checked (count_of_limits limited pair)
  | false =>
    rw [if_neg (fun h => absurd (isHigh.mpr (ambientTest_iff.mp h)) (by decide))]
    exact ⟨rfl, .refl _⟩

end Sys2Proof.Reception
end

section
/-!
PROOFS. The close of a reception window, and of the frame in reception (R40, R43 to R46): the lane, the DRAM, the notices, and
the record on its way to the output queue.
-/

namespace Sys2Proof.Reception

open Sys2Proof.Machine Sys2Proof.Safety Sys2Proof.Power Sys2Proof.Bounds

variable {s : State} {p : Port}

/-! ## The close of a window (R40, R65) -/

/-- The lane of a port whose reception window has closed. -/
def closedLane (l : Lane) : Lane := { l with window := none }

theorem closeWindow_eq (s : State) (p : Port) : ∃ c, s.closeWindow p =
    { s.setLane p closedLane with seq := { s.seq with current := c } } := by
  unfold State.closeWindow
  split
  · next closed =>
    refine ⟨s.seq.current, ?_⟩
    rw [setLane_self s p closedLane (congrArg (fun w => { s.lanes[p] with window := w }) closed.symm)]
  · exact ⟨_, rfl⟩

/-- The window of a port closes, and the end of its cycle is judged (R40, R65). -/
def windowEnds (s : State) (p : Port) : State := (s.closeWindow p).checkCycle

/-- Notices posted that are no AMBIENT notice. -/
def PostsOther (l m : Link) : Prop := ∃ more, (∀ n ∈ more, isAmbient n.body = false) ∧ Posted more l m

/-- What the close of a window and the end of its cycle leave. -/
structure WindowEnded (p : Port) (s t : State) : Prop where
  window : t.lanes[p].window = none
  frame : t.lanes[p].frame = s.lanes[p].frame
  counts : t.lanes[p].counts = s.lanes[p].counts
  lastMean : t.lanes[p].lastMean = s.lanes[p].lastMean
  dram : t.dram = s.dram
  exceed : t.seq.exceed = s.seq.exceed
  posts : PostsOther s.link t.link
  changes : Changes cycleParts s t

theorem windowEnds_leaves (s : State) (p : Port) : WindowEnded p s (windowEnds s p) := by
  obtain ⟨c, closed⟩ := closeWindow_eq s p
  have works : Works false (s.closeWindow p) (windowEnds s p) := (Works.refl false _).checkCycle
  have changes : Changes cycleParts s (windowEnds s p) :=
    ((closeWindow_changes s p).mono (by decide)).step (checkCycle_follows _).toChanges
  have lane : (s.closeWindow p).lanes[p] = closedLane s.lanes[p] := by
    rw [closed]
    exact upd_same _ _ _
  have same := works.lanes rfl p
  rw [lane] at same
  obtain ⟨window, frame, counts, lastMean⟩ := same
  obtain ⟨more, plain, posted⟩ := works.posts
  have link : (s.closeWindow p).link = s.link := by rw [closed]; rfl
  have dram : (s.closeWindow p).dram = s.dram := by rw [closed]; rfl
  have exceed : (s.closeWindow p).seq.exceed = s.seq.exceed := by rw [closed]
  exact ⟨window, frame, counts, lastMean, (works.dram rfl).trans dram, (works.exceed rfl).trans exceed,
    ⟨more, plain rfl, link ▸ posted⟩, changes⟩

theorem closeWindow_stock (s : State) (p : Port) : SameStock s (s.closeWindow p) := by
  obtain ⟨c, closed⟩ := closeWindow_eq s p
  rw [closed]
  exact ⟨rfl, rfl⟩

theorem windowEnds_queued {id : Nat} {b : Fin 48} {f : FrameRecord} {base : List Nat} (h : Queued id b f base s) (p : Port) :
    Queued id b f base (windowEnds s p) := (h.same (closeWindow_stock s p)).checkCycle

theorem windowEnds_frames (groups : s.store.groups = []) (p : Port) : SameFrames s (windowEnds s p) := by
  obtain ⟨store, uplink⟩ := closeWindow_stock s p
  obtain ⟨⟨n, kept⟩, sent⟩ := checkCycle_frames (s := s.closeWindow p) (by rw [store, groups])
  exact ⟨⟨n, store ▸ kept⟩, sent.trans uplink⟩

/-! ## The close of a frame (R45, R46) -/

variable {f : RxFrame} {high : Bool} {limit : Nat}

/-- A state whose frame is filled and counted, before the check of its mean. -/
def frameCounted (s : State) (p : Port) (f : RxFrame) : State :=
  State.setLane { s with dram := Memory.fillLines s.dram f.buffer f.width f.missing } p (fun l => { l with
    lastMean := f.mean, counts := { l.counts with closed := sat32 l.counts.closed } })

/-- The check of a frame that closes with no cut (R43, R71). -/
def frameChecked (s : State) (p : Port) (f : RxFrame) : State × FrameFlags :=
  (frameCounted s p f).ambientCheck p f (closedFlags f) f.mean

/-- A state whose frame is closed, its record not yet handed over. -/
def recordClosed (s : State) (p : Port) (f : RxFrame) : State :=
  (frameChecked s p f).1.setStore (fun t => t.setFrame f.id (fun r => { r with
    mean := some f.mean, flags := (frameChecked s p f).2 }))

theorem closeFrame_eq (s : State) (p : Port) (f : RxFrame) : s.closeFrame p f id =
    ((recordClosed s p f).handOver f.id).setLane p (fun l => { l with frame := none }) := rfl

theorem frameChecked_changes (s : State) (p : Port) (f : RxFrame) :
    Changes [.seq] (frameCounted s p f) (frameChecked s p f).1 := ambientCheck_changes _ _ _ _ _

theorem closeFrame_dram (s : State) (p : Port) (f : RxFrame) :
    (s.closeFrame p f id).dram = Memory.fillLines s.dram f.buffer f.width f.missing := by
  rw [closeFrame_eq]
  show ((recordClosed s p f).handOver f.id).dram = _
  rw [(handOver_changes _ _).dram (by decide)]
  exact (frameChecked_changes s p f).dram (by decide)

/-- What the close of a frame does with the ambient check and the notices. -/
theorem closeFrame_checked (isHigh : high = true ↔ High s p f)
    (pair : (s.settings.ports[p].ambientLimit, limit) ∈ [(AmbientLimit.off, 0), (.one, 1), (.eight, 8), (.thirtyTwo, 32)]) :
    ∃ u, AmbientChecked s p f high limit u ∧ (s.closeFrame p f id).seq.exceed = u.seq.exceed ∧
      PostsOther u.link (s.closeFrame p f id).link := by
  have checked : AmbientChecked (frameCounted s p f) p f high limit (frameChecked s p f).1 :=
    ambientCheck_checked isHigh pair
  have hands : Works false (recordClosed s p f) ((recordClosed s p f).handOver f.id) := (Works.refl false _).handOver
  obtain ⟨more, plain, posted⟩ := hands.posts
  exact ⟨(frameChecked s p f).1, ⟨checked.count, checked.told⟩, hands.exceed rfl, more, plain rfl, posted⟩

/-! ## The record of the closed frame (R81, R83) -/

variable {r routed : FrameRecord}

/-- The record of a frame that closes, as it is routed (R71, R83). -/
def closedRecord (s : State) (f : RxFrame) (high : Bool) (r : FrameRecord) : FrameRecord :=
  suspected (s.table.suspects r.port) { r with
    mean := some f.mean, flags := { closedFlags f with ambientHigh := f.flags.ambientHigh || high } }

theorem signAt_of_plan {q v : Sequencer} (plan : v.plan = q.plan) (slot : Fin 4) (position : Nat) :
    v.signAt slot position = q.signAt slot position := by
  unfold Sequencer.signAt Sequencer.slot? Sequencer.slots
  rw [plan]

theorem Routes.of_plan {t : State} {f : FrameRecord} (plan : t.seq.plan = s.seq.plan ∧ t.seq.state = s.seq.state)
    (h : Routes s f routed) : Routes t f routed := by
  unfold Routes
  rw [signAt_of_plan plan.1, plan.2]
  exact h

theorem Routes.named {f : FrameRecord} (h : Routes s f routed) : routed.id = f.id ∧ routed.buffer = f.buffer := by
  rcases h with ⟨-, rfl⟩ | ⟨-, -, rfl⟩ <;> exact ⟨rfl, rfl⟩

/-- A closed frame joins the output queue from a state with the store and the transmitter of before, but for its record. -/
theorem closeFrame_joins (isHigh : high = true ↔ High s p f) (found : s.store.frame? f.id = some r)
    (route : Routes s (closedRecord s f high r) routed) :
    ∃ u : State, u.uplink = s.uplink ∧ u.store = s.store.setFrame f.id (fun _ => routed) ∧
      SameStock (u.joinOutput f.id) (s.closeFrame p f id) := by
  have named : r.id = f.id := (Store.frame?_spec found).2
  have checks := frameChecked_changes s p f
  have store : (frameChecked s p f).1.store = s.store := checks.store (by decide)
  have flags : (frameChecked s p f).2 = { closedFlags f with ambientHigh := f.flags.ambientHigh || high } :=
    ambientCheck_flags isHigh
  have table : (frameChecked s p f).1.table = s.table := checks.table (by decide)
  let close : FrameRecord → FrameRecord := fun r => { r with mean := some f.mean, flags := (frameChecked s p f).2 }
  have recorded : (recordClosed s p f).store.frame? f.id = some (close r) :=
    frame?_setFrame_same (g := close) (fun _ e => e) (store.symm ▸ found)
  have routes : Routes (recordClosed s p f)
      (suspected ((recordClosed s p f).table.suspects (close r).port) (close r)) routed := by
    have same : suspected ((recordClosed s p f).table.suspects (close r).port) (close r) = closedRecord s f high r := by
      show suspected ((frameChecked s p f).1.table.suspects r.port) { r with
        mean := some f.mean, flags := (frameChecked s p f).2 } = _
      rw [table, flags]
      rfl
    rw [same]
    exact route.of_plan (checks.plan (by decide))
  refine ⟨(recordClosed s p f).setStore (·.setFrame f.id (fun _ => routed)), checks.uplink (by decide), ?_, ?_⟩
  · show ((frameChecked s p f).1.store.setFrame f.id close).setFrame f.id (fun _ => routed) = _
    rw [setFrame_setFrame (g := close) _ _ (fun _ e => e), store]
  · rw [closeFrame_eq, handOver_routes recorded routes]
    exact ⟨rfl, rfl⟩

theorem closeFrame_queued (isHigh : high = true ↔ High s p f) (found : s.store.frame? f.id = some r)
    (route : Routes s (closedRecord s f high r) routed) (busy : Busy s.uplink)
    (apart : ∀ g ∈ s.store.groups, ∀ i : Fin 8, g.places[i] ≠ some f.id) :
    Queued f.id r.buffer routed s.store.outputQueue (s.closeFrame p f id) := by
  obtain ⟨u, uplink, store, same⟩ := closeFrame_joins (p := p) isHigh found route
  have named : routed.id = f.id := route.named.1.trans (Store.frame?_spec found).2
  have recorded : u.store.frame? f.id = some routed := by
    rw [store]
    exact frame?_setFrame_same (fun _ _ => named) found
  have queued := joinOutput_queued recorded (by rw [uplink]; exact busy) (by rw [store]; exact apart)
  rw [store, route.named.2] at queued
  exact queued.same same

theorem closeFrame_sends (isHigh : high = true ↔ High s p f) (found : s.store.frame? f.id = some r)
    (route : Routes s (closedRecord s f high r) routed) (idle : Idle s.uplink) (empty : s.store.outputQueue = []) :
    Sends f.id routed s.store (s.closeFrame p f id).store ∧
    BeginsHeader f.id (sentRecord s.store.heldSet.length routed) s.uplink (s.closeFrame p f id).uplink := by
  obtain ⟨u, uplink, store, same⟩ := closeFrame_joins (p := p) isHigh found route
  have named : routed.id = f.id := route.named.1.trans (Store.frame?_spec found).2
  have recorded : u.store.frame? f.id = some routed := by
    rw [store]
    exact frame?_setFrame_same (fun _ _ => named) found
  have sends := joinOutput_sends recorded (by rw [uplink]; exact idle) (by rw [store]; exact empty)
  rw [uplink] at sends
  obtain ⟨⟨buffer, queue, record, taken, groups⟩, begins⟩ := sends
  have held : u.store.heldSet = s.store.heldSet := by rw [store]; rfl
  have apart : u.store.groups = s.store.groups := by rw [store]; rfl
  rw [held] at record taken begins
  rw [same.1, same.2]
  exact ⟨⟨buffer, queue, record, taken, groups.trans apart⟩, begins⟩

end Sys2Proof.Reception
end

section
/-!
PROOFS. FRAME_END, the reception deadline and the end of an exposure window (R40, R43 to R46).
-/

namespace Sys2Proof.Reception

open Sys2Proof.Machine Sys2Proof.Safety Sys2Proof.Power Sys2Proof.Bounds

variable {s : State} {p : Port} {w : RxWindow} {f : RxFrame} {high : Bool} {limit : Nat}

/-! ## FRAME_END by the window's state (R43, R45) -/

theorem exec_frameEnd (locked : s.lanes[p].state = .locked) (tag : Byte) (count : Nat) :
    exec (.frameEnd p tag count) s = finish (s.takeFrameEnd p tag count) := if_pos locked

theorem takeFrameEnd_stray (closed : s.lanes[p].window = none) (tag : Byte) (count : Nat) :
    s.takeFrameEnd p tag count = s.stray p := by
  unfold State.takeFrameEnd
  simp only [closed]

theorem takeFrameEnd_error {tag : Byte} (window : s.lanes[p].window = some w)
    (differs : w.rx = .awaitingStart ∨ tag ≠ w.tag) (count : Nat) : s.takeFrameEnd p tag count = s.protocolError p := by
  unfold State.takeFrameEnd
  simp only [window]
  split
  · rfl
  · next rx => exact if_neg (differs.resolve_left (by rw [rx]; decide))
  · next rx => exact if_neg (differs.resolve_left (by rw [rx]; decide))

theorem takeFrameEnd_dropped (window : s.lanes[p].window = some w) (rx : w.rx = .dropped) (count : Nat) :
    s.takeFrameEnd p w.tag count = windowEnds s p := by
  unfold State.takeFrameEnd
  simp only [window, rx, if_true]
  rfl

/-- What a frame's end makes of a lane's counts: the lines sent and not stored are lost (R43). -/
def linesLost (lost : Nat) (c : LaneCounts) : LaneCounts := { c with lostLines := satAdd 4294967295 c.lostLines lost }

/-- The frame in reception ends with its window, its lane's counts changed by `g`. -/
def frameEnds (s : State) (p : Port) (f : RxFrame) (g : LaneCounts → LaneCounts) : State :=
  windowEnds ((s.laneCount p g).closeFrame p f id) p

theorem takeFrameEnd_receiving (window : s.lanes[p].window = some w) (rx : w.rx = .receiving)
    (frame : s.lanes[p].frame = some f) (count : Nat) :
    s.takeFrameEnd p w.tag count = frameEnds s p f (linesLost (count - f.stored.length)) := by
  unfold State.takeFrameEnd
  simp only [window, rx, frame, if_true]
  rfl

/-! ## The deadline by the window's state (R44) -/

theorem exec_receptionDeadline (window : s.lanes[p].window = some w) (come : w.deadline ≤ s.clock) :
    exec (.receptionDeadline p) s = finish (s.deadlineClose p).checkCycle :=
  if_pos (by simp only [State.deadlineDue, window, come, decide_true])

/-- A window whose frame has not started is counted no-start, and the absence is told (R44, R84). -/
def noStart (s : State) (p : Port) (w : RxWindow) : State :=
  (s.laneCount p (fun c => { c with noStart := sat32 c.noStart })).reportAbsence w.slot p w.cycle w.position

theorem deadlineClose_waiting (window : s.lanes[p].window = some w) (rx : w.rx = .awaitingStart) :
    (s.deadlineClose p).checkCycle = windowEnds (noStart s p w) p := by
  unfold State.deadlineClose
  simp only [window, rx]
  rfl

/-- What a deadline makes of the counts of a lane in reception: a frame with lines missing is cut (R44). -/
def deadlineCounts (f : RxFrame) (c : LaneCounts) : LaneCounts :=
  { c with deadlineTruncations := if f.missing.isEmpty then c.deadlineTruncations else sat32 c.deadlineTruncations }

theorem deadlineClose_receiving (window : s.lanes[p].window = some w) (rx : w.rx = .receiving)
    (frame : s.lanes[p].frame = some f) : (s.deadlineClose p).checkCycle = frameEnds s p f (deadlineCounts f) := by
  have counted : (if f.missing.isEmpty then s
      else s.laneCount p (fun c => { c with deadlineTruncations := sat32 c.deadlineTruncations })) =
      s.laneCount p (deadlineCounts f) := by
    unfold deadlineCounts
    split
    · exact (setLane_self s p _ rfl).symm
    · rfl
  unfold State.deadlineClose
  simp only [window, rx, frame, counted]
  rfl

theorem missing_any : (!f.missing.isEmpty) = (List.range f.height).any (fun k => !f.stored.contains k) := by
  rw [Bool.eq_iff_iff, Bool.not_eq_true', ← Bool.not_eq_true, missing_isEmpty]
  simp

/-! ## The routes of the closed frame (R83) -/

/-- The sign of a frame's position, as the plan's slots hold it. -/
def SignedIn (s : State) (r : FrameRecord) : Prop :=
  ∃ k g, s.seq.slots[r.slot.val]? = some k ∧ k.signs[r.position]? = some g ∧ g ≠ .none

theorem signed_iff {r : FrameRecord} : (s.seq.signAt r.slot r.position).signed = true ↔ SignedIn s r := by
  unfold Sequencer.signAt Sequencer.slot? SignedIn
  cases slot : s.seq.slots[r.slot.val]? with
  | none => simp [Sign.signed]
  | some k =>
    cases sign : k.signs[r.position]? with
    | none => simp [Sign.signed, sign]
    | some g => cases g <;> simp [Sign.signed, sign]

theorem routes_of_signs {r closed routed : FrameRecord} (slot : closed.slot = r.slot) (position : closed.position = r.position)
    (h : ((∀ k g, s.seq.slots[r.slot.val]? = some k → k.signs[r.position]? = some g → g = .none) ∧ routed = closed) ∨
      ((s.seq.state = .empty ∨ s.seq.state = .loaded) ∧
        (∃ k g, s.seq.slots[r.slot.val]? = some k ∧ k.signs[r.position]? = some g ∧ g ≠ .none) ∧
        routed = { closed with flags := { closed.flags with uncombined := true } })) : Routes s closed routed := by
  have sign : s.seq.signAt closed.slot closed.position = s.seq.signAt r.slot r.position := by rw [slot, position]
  refine h.imp (fun ⟨unsigned, same⟩ => ⟨?_, same⟩) (fun ⟨idle, signed, same⟩ => ⟨?_, ?_, same⟩)
  · rw [sign, ← Bool.not_eq_true, signed_iff]
    rintro ⟨k, g, slot, sign, some⟩
    exact some (unsigned k g slot sign)
  · rcases idle with state | state <;> rw [state] <;> rfl
  · rw [sign]
    exact signed_iff.mpr signed

/-! ## What the end of a frame leaves -/

variable {g : LaneCounts → LaneCounts}

/-- What the end of a frame with its window leaves of the lane, the DRAM and the other parts (R43 to R46). -/
structure FrameEnded (p : Port) (f : RxFrame) (g : LaneCounts → LaneCounts) (s t : State) : Prop where
  window : t.lanes[p].window = none
  frame : t.lanes[p].frame = none
  lastMean : t.lanes[p].lastMean = f.mean
  counts : t.lanes[p].counts =
    { g s.lanes[p].counts with closed := sat32 (g s.lanes[p].counts).closed }
  dram : t.dram = Memory.fillLines s.dram f.buffer f.width f.missing
  changes : Changes (.dram :: cycleParts) s t

theorem frameEnds_leaves (s : State) (p : Port) (f : RxFrame) (g : LaneCounts → LaneCounts) :
    FrameEnded p f g s (frameEnds s p f g) := by
  have lane : ((s.laneCount p g).closeFrame p f id).lanes[p] = frameClosed f { s.lanes[p] with
      counts := g s.lanes[p].counts } := by
    rw [closeFrame_lanes, upd_same]
    exact congrArg (frameClosed f) (upd_same _ _ _)
  obtain ⟨window, frame, counts, lastMean, dram, -, -, changes⟩ :=
    windowEnds_leaves ((s.laneCount p g).closeFrame p f id) p
  rw [lane] at frame counts lastMean
  refine ⟨window, frame, lastMean, counts, dram.trans (closeFrame_dram _ p f), ?_⟩
  exact (((laneCount_changes s p g).mono (by decide)).step ((closeFrame_changes _ p f id).mono (by decide))).step
    (changes.mono (by simp))

/-- The count of high dark frames and the notices that the end of a frame leaves (R71, R72). -/
theorem frameEnds_checked (isHigh : high = true ↔ High s p f)
    (pair : (s.settings.ports[p].ambientLimit, limit) ∈ [(AmbientLimit.off, 0), (.one, 1), (.eight, 8), (.thirtyTwo, 32)]) :
    ∃ u, AmbientChecked s p f high limit u ∧ (frameEnds s p f g).seq.exceed = u.seq.exceed ∧
      PostsOther u.link (frameEnds s p f g).link := by
  obtain ⟨u, ⟨count, told⟩, exceed, more, plain, posted⟩ :=
    closeFrame_checked (s := s.laneCount p g) (p := p) isHigh pair
  obtain ⟨-, -, -, -, -, kept, ⟨later, others, after⟩, -⟩ :=
    windowEnds_leaves ((s.laneCount p g).closeFrame p f id) p
  refine ⟨u, ⟨count, told⟩, kept.trans exceed, more ++ later, fun n hn => ?_, posted.trans after⟩
  exact (List.mem_append.mp hn).elim (plain n) (others n)

theorem not_ambient {n : Notice} (h : isAmbient n.body = false) (slot : Fin 4) (cycle mean threshold : Nat)
    (lim : AmbientLimit) : n.body ≠ .ambient slot cycle mean threshold lim := by
  intro e
  rw [e] at h
  exact Bool.noConfusion h

/-! ## The end of an exposure window (R40) -/

theorem exposureEnds_idle {e : Exposure} (window : s.lanes[p].exposure = some e) (idle : s.seq.state.inService = false)
    (unwaiting : s.lenses[p].stage ≠ .windowWait) (begun : s.lenses[p].toBegin = false)
    (free : s.lenses[p].bus.waiting = []) (unswept : s.sweeps.sweep = none) :
    s.exposureEnds p = s.setLane p (fun l => { l with exposure := none }) := by
  have nobody : s.waitingPorts.filter (· = p) = [] := by
    refine List.filter_eq_nil_iff.mpr (fun q hq => ?_)
    have waits := mem_portsWhere.mp hq
    rw [Lens.waitsWindow, Bool.and_eq_true, decide_eq_true_eq] at waits
    rw [decide_eq_true_eq]
    rintro rfl
    exact unwaiting waits.1
  have pumped : (s.closeExposure p).busPump p = s.closeExposure p := by
    have bus : (s.closeExposure p).lenses[p].bus.waiting = [] := free
    have none_begun : (s.closeExposure p).lenses[p].toBegin = false := begun
    unfold State.busPump
    simp only [bus, none_begun, nextTxn, Bool.false_eq_true, if_false, ite_self]
  have resumed : (s.closeExposure p).sweepResume = s.closeExposure p := by
    unfold State.sweepResume
    simp only [show (s.closeExposure p).sweeps.sweep = none from unswept]
  unfold State.exposureEnds
  simp only [window, show (s.closeExposure p).seq.state.inService = false from idle, Bool.false_and, Bool.false_eq_true,
    if_false, nobody]
  show (State.busPump (s.closeExposure p) p).sweepResume = _
  rw [pumped, resumed]
  rfl

end Sys2Proof.Reception
end

section
/-!
PROOFS. The closed frame on its way to the output queue after the end of its cycle (R83, R92, R104), and O30.
-/

namespace Sys2Proof.Reception

open Sys2Proof.Machine Sys2Proof.Safety Sys2Proof.Power Sys2Proof.Bounds

variable {s : State} {p : Port} {f : RxFrame} {high : Bool} {limit : Nat} {g : LaneCounts → LaneCounts}
  {r routed : FrameRecord}

theorem frameEnds_queued (isHigh : high = true ↔ High s p f) (found : s.store.frame? f.id = some r)
    (route : Routes s (closedRecord s f high r) routed) (busy : Busy s.uplink)
    (apart : ∀ g ∈ s.store.groups, ∀ i : Fin 8, g.places[i] ≠ some f.id) :
    Queued f.id r.buffer routed s.store.outputQueue (frameEnds s p f g) :=
  windowEnds_queued (closeFrame_queued (s := s.laneCount p g) isHigh found route busy apart) p

theorem frameEnds_sends (isHigh : high = true ↔ High s p f) (found : s.store.frame? f.id = some r)
    (route : Routes s (closedRecord s f high r) routed) (idle : Idle s.uplink) (empty : s.store.outputQueue = [])
    (groups : s.store.groups = []) : Sends f.id routed s.store (frameEnds s p f g).store ∧
    BeginsHeader f.id (sentRecord s.store.heldSet.length routed) s.uplink (frameEnds s p f g).uplink := by
  obtain ⟨⟨buffer, queue, record, held, kept⟩, begins⟩ :=
    closeFrame_sends (s := s.laneCount p g) (p := p) isHigh found route idle empty
  obtain ⟨⟨n, store⟩, uplink⟩ := windowEnds_frames (kept.trans groups) p
  unfold frameEnds
  rw [store, uplink]
  exact ⟨⟨buffer, queue, record, held, kept⟩, begins⟩

theorem closedRecord_eq (s : State) (f : RxFrame) (high : Bool) (r : FrameRecord) : closedRecord s f high r = { r with
    mean := some (f.pixelSum / (f.width * f.height))
    flags := { f.flags with
      truncated := f.flags.truncated || (List.range f.height).any (fun k => !f.stored.contains k)
      ambientHigh := f.flags.ambientHigh || high
      cableSuspect := f.flags.cableSuspect || s.table.records.any (fun b => b.port = r.port &&
        (b.kind = .dataErrors || b.kind = .reflection) && b.state != .cleared) } } := by
  rw [← missing_any]
  rfl

/-- A frame in reception ends with its window, at its FRAME_END or at the deadline, with one change of the lane's counts. -/
theorem frameEnds_of_command {w : RxWindow} {c : Instr} {tag : Byte} {count : Nat} (window : s.lanes[p].window = some w)
    (rx : w.rx = .receiving) (frame : s.lanes[p].frame = some f)
    (command : (c = .frameEnd p tag count ∧ s.lanes[p].state = .locked ∧ tag = w.tag) ∨
      (c = .receptionDeadline p ∧ w.deadline ≤ s.clock)) :
    ∃ g, exec c s = finish (frameEnds s p f g) ∧ (∀ n, (g n).closed = n.closed) ∧
      (c = .frameEnd p tag count → ∀ n, (g n).lostLines = min 4294967295 (n.lostLines + (count - f.stored.length))) ∧
      (c = .receptionDeadline p → ∀ n, (g n).deadlineTruncations =
        if ∃ k ∈ List.range f.height, k ∉ f.stored then sat32 n.deadlineTruncations else n.deadlineTruncations) := by
  rcases command with ⟨rfl, locked, rfl⟩ | ⟨rfl, come⟩
  · refine ⟨linesLost (count - f.stored.length), ?_, fun _ => rfl, fun _ _ => rfl, nofun⟩
    rw [exec_frameEnd locked, takeFrameEnd_receiving window rx frame]
  · refine ⟨deadlineCounts f, ?_, fun _ => rfl, nofun, fun _ n => ?_⟩
    · rw [exec_receptionDeadline window come, deadlineClose_receiving window rx frame]
    · have cut : f.missing.isEmpty = true ↔ ¬ ∃ k ∈ List.range f.height, k ∉ f.stored := by
        rw [missing_isEmpty]
        simp
      unfold deadlineCounts
      by_cases whole : f.missing.isEmpty = true
      · simp only [if_pos whole, if_neg (cut.mp whole)]
      · simp only [if_neg whole, if_pos (not_not.mp (fun none_cut => whole (cut.mpr none_cut)))]

/-- Settles O30: a frame's end is `frameEnds`, whose lane, DRAM, check, notices and record each lemma above gives; a window
without a frame ends by `windowEnds`. -/
theorem frameEndAndDeadlineCloseWindow : Obligations.FrameEndAndDeadlineCloseWindow := by
  intro s p
  refine ⟨fun tag count locked closed => ?_, fun w tag count window => ⟨fun locked => ⟨fun differs => ?_, fun rx same => ?_⟩,
    fun come rx => ?_, fun f c rx frame wf fits command => ?_⟩, fun e exposure come idle unwaiting begun free unswept => ?_⟩
  · rw [exec_frameEnd locked, takeFrameEnd_stray closed]
    rfl
  · rw [exec_frameEnd locked, takeFrameEnd_error window differs]
    rfl
  · obtain ⟨ended, -, counts, -, dram, -, -, changes⟩ := windowEnds_leaves s p
    rw [exec_frameEnd locked, same, takeFrameEnd_dropped window rx]
    exact ⟨_, rfl, ended, counts, dram, changes.monitor (by decide)⟩
  · have absent : Changes [.lanes, .store, .uplink] s (noStart s p w) :=
      ((laneCount_changes _ _ _).mono (by decide)).step ((reportAbsence_changes _ _ _ _ _).mono (by decide))
    have lanes : (noStart s p w).lanes = _ := (reportAbsence_changes _ _ _ _ _).lanes (by decide)
    obtain ⟨ended, -, counts, -, dram, -, -, changes⟩ := windowEnds_leaves (noStart s p w) p
    rw [lanes] at counts
    rw [exec_receptionDeadline window come, deadlineClose_waiting window rx]
    exact ⟨_, rfl, ended, counts.trans (congrArg Lane.counts (upd_same _ _ _)), dram.trans (absent.dram (by decide)),
      (changes.monitor (by decide)).trans (absent.monitor (by decide)),
      (changes.table (by decide)).trans (absent.table (by decide))⟩
  · obtain ⟨g, runs, closed, lost, cut⟩ := frameEnds_of_command window rx frame command
    obtain ⟨ended, unframed, lastMean, counts, dram, changes⟩ := frameEnds_leaves s p f g
    obtain ⟨zero, rest⟩ := fillLines_filled wf fits
    rw [← dram] at zero rest
    have checked := fun high limit => frameEnds_checked (s := s) (p := p) (f := f) (high := high) (limit := limit) (g := g)
    have queued := fun high r routed =>
      frameEnds_queued (s := s) (p := p) (f := f) (high := high) (g := g) (r := r) (routed := routed)
    have sends := fun high r routed =>
      frameEnds_sends (s := s) (p := p) (f := f) (high := high) (g := g) (r := r) (routed := routed)
    generalize frameEnds s p f g = t at *
    refine ⟨_, runs, ended, unframed, lastMean, ?_, fun isEnd => ?_, fun isDeadline => ?_, zero, rest,
      changes.monitor (by decide), changes.settings (by decide), changes.clock, changes.profile,
      fun high limit isHigh pair => ?_⟩
    · exact (congrArg LaneCounts.closed counts).trans (congrArg sat32 (closed _))
    · exact (congrArg LaneCounts.lostLines counts).trans (lost isEnd _)
    · exact (congrArg LaneCounts.deadlineTruncations counts).trans (cut isDeadline _)
    · obtain ⟨u, ⟨count, told⟩, exceed, more, plain, posted⟩ := checked high limit isHigh pair
      have all := told.trans posted
      refine ⟨(congrArg (fun v : Vector Nat 8 => v[p]) exceed).trans count, ⟨_, more, rfl, all.sending,
        fun n hn => not_ambient (plain n hn), all.notices⟩, fun r closedAs found apart isClosed routed routing => ?_⟩
      rw [← closedRecord_eq] at isClosed
      have route : Routes s (closedRecord s f high r) routed := by
        rw [← isClosed]
        exact routes_of_signs (by rw [isClosed]; rfl) (by rw [isClosed]; rfl) routing
      refine ⟨fun busy => ?_, fun up item trailer packet regions empty groups => ?_⟩
      · obtain ⟨record, buffer, queue, -, -⟩ := queued high r routed isHigh found route busy apart
        exact ⟨record, buffer, queue⟩
      · obtain ⟨⟨buffer, queue, record, held, -⟩, waits, begins⟩ :=
          sends high r routed isHigh found route ⟨up, item, trailer, packet, regions⟩ empty groups
        have same : t.store.buffers[routed.buffer] = t.store.buffers[r.buffer] := get_congr _ route.named.2
        exact ⟨same.symm.trans buffer, queue, _, record, rfl, held, waits, begins⟩
  · have outOfService : s.seq.state.inService = false := by rcases idle with h | h <;> rw [h] <;> rfl
    have due : s.exposureDue p = true := by simp only [State.exposureDue, exposure, come, decide_true]
    rw [show exec (.exposureWindowEnd p) s = finish (s.exposureEnds p) from if_pos due,
      exposureEnds_idle exposure outOfService unwaiting begun free unswept]
    rfl

end Sys2Proof.Reception
end

section
/-!
PROOFS. Cycle starts (R60 to R63, R66): what the sequencer makes of a start by its plan state, and how an edge, an expiry and
PLAN_FIRE come to be starts.
-/

namespace Sys2Proof.Capture

open Sys2Proof.Machine Sys2Proof.Safety Sys2Proof.Power

variable {s : State} {plan : Plan} {source : StartSource} {edge : Edge}

/-! ## The beginning of a cycle (R63) -/

/-- The sequencer when a cycle has begun. -/
def cycleBegun (plan : Plan) (now : Time) (delayed : Bool) (q : Sequencer) : Sequencer :=
  { q with
    state := .running
    cycleCounter := q.cycleCounter + 1
    current := some ⟨q.cycleCounter, q.cycleCounter % plan.length, now, delayed, [], []⟩
    pending := none
    nextExpiry := plan.period.map (now + ·)
    begun := sat32 q.begun
    delayed := if delayed then sat32 q.delayed else q.delayed }

/-- A cycle below the last number begins with one change of the sequencer, and then the presets are posted (R63, R68). -/
theorem beginCycle_posts (loaded : s.seq.plan = some plan) (small : s.seq.cycleCounter < 18446744073709551615)
    (delayed : Bool) : s.beginCycle delayed =
      (State.forPorts (fun p u => u.postSlot p (u.seq.firstPreset p)) allPorts
        (s.setSeq (cycleBegun plan s.clock delayed))).sweepResume := by
  have more : ¬ s.seq.cycleCounter = 18446744073709551615 := Nat.ne_of_lt small
  simp only [State.beginCycle, loaded, if_neg more]
  rfl

/-- With no preset to post and no sweep in progress, the change of the sequencer is all that a cycle's beginning does. -/
theorem beginCycle_unposted (loaded : s.seq.plan = some plan) (small : s.seq.cycleCounter < 18446744073709551615)
    (unset : ∀ k ∈ s.seq.slots, k.preset = none) (idle : s.sweeps.sweep = none) (delayed : Bool) :
    s.beginCycle delayed = s.setSeq (cycleBegun plan s.clock delayed) := by
  have unposted : ∀ p : Port, (s.setSeq (cycleBegun plan s.clock delayed)).postSlot p
      ((s.setSeq (cycleBegun plan s.clock delayed)).seq.firstPreset p) = s.setSeq (cycleBegun plan s.clock delayed) :=
    fun p => by rw [firstPreset_none (by exact unset)]; rfl
  rw [beginCycle_posts loaded small, forPorts_same unposted]
  exact sweepResume_idle idle

/-! ## A start by the plan state (R60 to R62) -/

theorem takeStart_unloaded (state : s.seq.state = .empty ∨ s.seq.state = .loaded) :
    s.takeStart source = (s, .ignored) := by
  unfold State.takeStart
  rcases state with h | h <;> rw [h]

theorem takeStart_stopping (state : s.seq.state = .stopping) :
    s.takeStart source = (s.setSeq (fun q => { q with ignored := sat32 q.ignored }), .ignored) := by
  unfold State.takeStart
  rw [state]

theorem takeStart_held (state : s.seq.state = .armed) (clear : s.seq.pending = none) (quiet : PlanQuiet s) :
    s.takeStart source = (s.setSeq (fun q => { q with pending := some ⟨source, s.clock, true⟩ }), .held) := by
  simp only [State.takeStart, state, clear, (planQuiet_iff s).mpr quiet, Option.isSome_none, Bool.false_eq_true, if_false, if_true]

theorem takeStart_started (state : s.seq.state = .armed) (clear : s.seq.pending = none) (loud : ¬ PlanQuiet s) :
    s.takeStart source = (s.beginCycle false, .started) := by
  have unheld : s.planQuiet = false := Bool.eq_false_iff.mpr (fun h => loud ((planQuiet_iff s).mp h))
  simp only [State.takeStart, state, clear, unheld, Option.isSome_none, Bool.false_eq_true, if_false]

theorem takeStart_pending (state : s.seq.state = .running) (clear : s.seq.pending = none) :
    s.takeStart source = (s.setSeq (fun q => { q with pending := some ⟨source, s.clock, false⟩ }), .pending) := by
  simp only [State.takeStart, state, clear, Option.isSome_none, Bool.false_eq_true, if_false]

/-- A start that finds one present is counted and told as an overrun (R61). -/
theorem takeStart_overrun {g : PendingTrigger} (state : s.seq.state = .armed ∨ s.seq.state = .running)
    (present : s.seq.pending = some g) : s.takeStart source =
      ((s.setSeq (fun q => { q with overruns := sat32 q.overruns })).post none (.triggerOverrun source s.clock
        (s.seq.current.map (fun (c : Cycle) => c.number)) g.held (sat32 s.seq.overruns)), .overrun) := by
  have told : s.overrun source = (s.setSeq (fun q => { q with overruns := sat32 q.overruns })).post none
      (.triggerOverrun source s.clock (s.seq.current.map (fun (c : Cycle) => c.number)) g.held (sat32 s.seq.overruns)) := by
    simp only [State.overrun, present, Option.any_some, State.setSeq_seq]
  rw [← told]
  rcases state with h | h <;> simp only [State.takeStart, h, present, Option.isSome_some, if_true]

/-! ## How a start comes (R60, R66) -/

theorem takesEdge_iff : s.seq.takesEdge edge = true ↔ RunsOnEdge s edge := by
  unfold Sequencer.takesEdge RunsOnEdge
  cases s.seq.plan <;> simp

theorem lineTrigger_of_edge (runs : RunsOnEdge s edge) : s.seq.lineTrigger = true := by
  obtain ⟨q, loaded, line, -⟩ := runs
  simp only [Sequencer.lineTrigger, loaded, line, decide_true]

theorem lineTrigger_of_free (runs : RunsFree s) : s.seq.lineTrigger = false := by
  obtain ⟨q, loaded, free⟩ := runs
  simp only [Sequencer.lineTrigger, loaded, free, reduceCtorEq, decide_false]

theorem freeRun_of_free (runs : RunsFree s) : s.seq.freeRun = true := by
  obtain ⟨q, loaded, free⟩ := runs
  rw [freeRun_eq loaded, free]
  rfl

theorem planFire_serves {tag : Byte} (h : Serves s 0x0E tag []) : exec .planFire s = .next s.planFire.transmit :=
  serve_owner h rfl (fun _ s => s.planFire)

theorem planFire_refused (away : s.seq.state = .empty ∨ s.seq.state = .loaded ∨ s.seq.state = .stopping ∨ RunsFree s) :
    s.planFire = s.reply .wrongState := by
  unfold State.planFire
  rcases away with h | h | h | free
  · rw [h]
  · rw [h]
  · rw [h]
  · rw [lineTrigger_of_free free]
    split <;> rfl

theorem planFire_takes (state : s.seq.state = .armed ∨ s.seq.state = .running) (runs : RunsOnEdge s edge) :
    s.planFire = (s.takeStart .fire).1.answer .ok (num1 (s.takeStart .fire).2.code) := by
  unfold State.planFire
  rw [lineTrigger_of_edge runs]
  rcases state with h | h <;> rw [h] <;> rfl

theorem expiryDue_of {at_ : Time} (runs : RunsFree s) (next : s.seq.nextExpiry = some at_) (come : at_ ≤ s.clock)
    (state : s.seq.state = .armed ∨ s.seq.state = .running) (taken : ∀ g, s.seq.pending = some g → g.source ≠ .timer) :
    s.expiryDue = true := by
  have untaken : s.seq.pending.any (fun t => t.source = .timer) = false := by
    cases h : s.seq.pending with
    | none => rfl
    | some g => simpa using taken g h
  simp only [State.expiryDue, freeRun_of_free runs, untaken, next, due, Bool.true_and, Bool.not_false, Bool.and_true,
    Bool.and_eq_true, Bool.or_eq_true, decide_eq_true_eq]
  exact ⟨state, come⟩

/-- A command is a start from a source: the sequencer takes it, and what ends the command is told the outcome while the plan
is ARMED or RUNNING. -/
structure Starts (s : State) (c : Instr) (source : StartSource) (wrap : State → Nat → State) : Prop where
  dormant : s.seq.state ≠ .armed → s.seq.state ≠ .running → exec c s = .next (s.takeStart source).1.transmit
  served : s.seq.state = .armed ∨ s.seq.state = .running →
    exec c s = .next (wrap (s.takeStart source).1 (s.takeStart source).2.code)

theorem edge_starts (runs : RunsOnEdge s edge) : Starts s (.trigInEdge edge) .line (fun u _ => u.transmit) :=
  have takes : exec (.trigInEdge edge) s = .next (s.takeStart .line).1.transmit := if_pos (takesEdge_iff.mpr runs)
  ⟨fun _ _ => takes, fun _ => takes⟩

theorem expiry_starts (come : s.expiryDue = true) : Starts s .periodExpiry .timer (fun u _ => u.transmit) :=
  have takes : exec .periodExpiry s = .next (s.takeStart .timer).1.transmit := if_pos come
  ⟨fun _ _ => takes, fun _ => takes⟩

theorem fire_starts {tag : Byte} (h : Serves s 0x0E tag []) (runs : RunsOnEdge s edge)
    (state : s.seq.state = .armed ∨ s.seq.state = .running) :
    Starts s .planFire .fire (fun u n => (u.answer .ok (num1 n)).transmit) where
  dormant := fun armed running => (state.elim armed running).elim
  served := fun _ => by rw [planFire_serves h, planFire_takes state runs]

theorem heldDue_of {g : PendingTrigger} (state : s.seq.state = .armed) (present : s.seq.pending = some g)
    (held : g.held = true) (loud : ¬ PlanQuiet s) : s.heldDue = true := by
  have unquiet : s.planQuiet = false := Bool.eq_false_iff.mpr (fun h => loud ((planQuiet_iff s).mp h))
  simp [State.heldDue, state, present, held, unquiet]

/-- Settles O33: each command is a start, and a start is taken by the plan state. -/
theorem startsByPlanState : Obligations.StartsByPlanState := by
  refine ⟨fun s tag edge c source wrap comes => ?_, fun s tag edge => ⟨fun away => ?_, fun h away => ?_,
    fun q g state loaded present held loud small unset idle => ?_⟩⟩
  · have starts : Starts s c source wrap := by
      rcases comes with ⟨rfl, runs, rfl, rfl⟩ | ⟨rfl, runs, rfl, ⟨at_, next, come⟩, state, taken, rfl⟩ |
        ⟨rfl, ⟨e, runs⟩, rfl, h, state, rfl⟩
      · exact edge_starts runs
      · exact expiry_starts (expiryDue_of runs next come state taken)
      · exact fire_starts h runs state
    refine ⟨fun state => ?_, fun state => ?_, fun state clear quiet => ?_, fun state clear loud small unset idle q loaded => ?_,
      fun state clear => ?_, fun g state present => ?_⟩
    · rw [starts.dormant (by rcases state with h | h <;> simp [h]) (by rcases state with h | h <;> simp [h]),
        takeStart_unloaded state]
    · rw [starts.dormant (by simp [state]) (by simp [state]), takeStart_stopping state]
      rfl
    · rw [starts.served (.inl state), takeStart_held state clear quiet]
      rfl
    · rw [starts.served (.inl state), takeStart_started state clear loud, beginCycle_unposted loaded small unset idle]
      rfl
    · rw [starts.served (.inr state), takeStart_pending state clear]
      rfl
    · rw [starts.served state, takeStart_overrun state present]
      rfl
  · exact if_neg (fun takes => away (takesEdge_iff.mp takes))
  · rw [planFire_serves h, planFire_refused away]
  · have begins : exec .heldCycleStart s = .next (s.beginCycle true).transmit :=
      if_pos (heldDue_of state present held loud)
    rw [begins, beginCycle_unposted loaded small unset idle]
    rfl

end Sys2Proof.Capture
end

section
/-!
PROOFS. The body of a PLAN_LOAD: each field is read where R174 puts it, and the ranges of its fields are those of R51 check 1.
-/

namespace Sys2Proof.Capture

open Sys2Proof.Machine Sys2Proof.Safety Sys2Proof.Power

variable {q : Plan} {k : Slot}

/-! ## Single bytes and port masks (R174) -/

/-- A byte of the list that a body begins with. -/
theorem numAt_index {bytes : List Byte} {i : Nat} {x : Byte} (h : bytes[i]? = some x) (rest : List Byte) :
    numAt (bytes ++ rest) i 1 = x.toNat := by
  obtain ⟨small, rfl⟩ := List.getElem?_eq_some_iff.mp h
  rw [numAt, List.drop_append_of_le_length (Nat.le_of_lt small), List.drop_eq_getElem_cons small, List.cons_append,
    List.take_succ_cons, List.take_zero]
  simp [bytesNum]

theorem numAt_afterOpt (size : Nat) (o : Option Nat) (rest : List Byte) (i n : Nat) :
    numAt (optNum size o ++ rest) (size + 1 + i) n = numAt rest i n := by
  rw [numAt_skip _ _ _ _ (by rw [optNum_length]; omega), optNum_length, Nat.add_sub_cancel_left]

theorem portBit (p r : Port) : (1#8 <<< p.val).getLsbD r.val = decide (r = p) := by
  revert p r
  decide

/-- The bits of a port mask are the ports of its list. -/
theorem maskBit (r : Port) : ∀ (ports : List Port) (m : Byte),
    (ports.foldl (fun m p => m ||| (1#8 <<< p.val)) m).getLsbD r.val = (m.getLsbD r.val || decide (r ∈ ports))
  | [], m => by simp
  | p :: ports, m => by
    rw [List.foldl_cons, maskBit r ports, BitVec.getLsbD_or, portBit, Bool.or_assoc, ← Bool.decide_or]
    simp only [List.mem_cons]

/-- The mask byte of the ports that a slot marks. -/
def markByte (k : Slot) : Byte := (allPorts.filter k.marks).foldl (fun m p => m ||| (1#8 <<< p.val)) 0

theorem markByte_bit (k : Slot) (p : Port) : (markByte k).getLsbD p.val = k.marks p := by
  rw [markByte, maskBit]
  simp [mem_allPorts]

theorem maskPorts_markByte (k : Slot) : maskPorts (markByte k) = k.ports := by
  refine Vector.ext (fun i small => ?_)
  rw [maskPorts, Vector.getElem_ofFn]
  exact markByte_bit k ⟨i, small⟩

theorem markByte_zero (k : Slot) : (markByte k).toNat ≠ 0 ↔ ∃ p : Port, k.marks p = true := by
  constructor
  · intro marked
    by_contra none_marked
    refine marked (congrArg BitVec.toNat (BitVec.eq_of_getLsbD_eq (x := markByte k) (y := 0#8) (fun i small => ?_)))
    rw [markByte_bit k ⟨i, small⟩, BitVec.getLsbD_zero]
    exact Bool.eq_false_iff.mpr (fun marks => none_marked ⟨_, marks⟩)
  · rintro ⟨p, marks⟩ zero
    have bit := markByte_bit k p
    rw [show markByte k = 0#8 from BitVec.eq_of_toNat_eq zero, BitVec.getLsbD_zero, marks] at bit
    cases bit

/-! ## The fields of a slot (section 3.2, R174) -/

/-- The first 18 bytes of a slot: its fields of a fixed size. -/
def slotHead (k : Slot) : List Byte :=
  markByte k :: (num4 k.offset ++ (num4 k.exposure ++ (num1 k.pulses ++ (num4 k.firstPulse ++
    (num2 k.pulseWidth ++ num2 k.pulsePeriod)))))

def fireBytes (k : Slot) : List Byte := k.fire.map (fun f => if f then 0 else 1)

def signBytes (k : Slot) : List Byte := k.signs.map (fun g => BitVec.ofNat 8 g.code)

theorem slotBody_eq (k : Slot) (rest : List Byte) : slotBody k ++ rest =
    slotHead k ++ (fireBytes k ++ (signBytes k ++ (optNum 1 (k.preset.map (·.val)) ++ (flagByte k.hold ++ rest)))) := by
  simp only [slotBody, slotHead, fireBytes, signBytes, portMask, markByte, List.append_assoc, List.cons_append, List.nil_append]

theorem slotHead_length (k : Slot) : (slotHead k).length = 18 := by
  simp [slotHead]

/-- The numbers of a slot fit the bytes that carry them, and its patterns have `l` marks. -/
structure SlotFits (l : Nat) (k : Slot) : Prop where
  offset : k.offset < 4294967296
  exposure : k.exposure < 4294967296
  pulses : k.pulses < 256
  firstPulse : k.firstPulse < 4294967296
  pulseWidth : k.pulseWidth < 65536
  pulsePeriod : k.pulsePeriod < 65536
  fire : k.fire.length = l
  signs : k.signs.length = l
  used : k.used = k.pulses

/-- A body gives the fields of a slot from its first byte on. -/
structure ReadsSlot (b : List Byte) (l : Nat) (k : Slot) : Prop where
  ports : numAt b 0 1 = (markByte k).toNat
  offset : numAt b 1 4 = k.offset
  exposure : numAt b 5 4 = k.exposure
  pulses : numAt b 9 1 = k.pulses
  firstPulse : numAt b 10 4 = k.firstPulse
  pulseWidth : numAt b 14 2 = k.pulseWidth
  pulsePeriod : numAt b 16 2 = k.pulsePeriod
  fire : ∀ (i : Nat) (f : Bool), k.fire[i]? = some f → numAt b (18 + i) 1 = if f then 0 else 1
  signs : ∀ (i : Nat) (g : Sign), k.signs[i]? = some g → numAt b (18 + l + i) 1 = g.code
  preset : optAt b (18 + 2 * l) 1 = k.preset.map (·.val)
  presetOk : flagOkAt b (18 + 2 * l) = true
  hold : numAt b (20 + 2 * l) 1 = k.hold.toNat

theorem sign_code (g : Sign) : g.code ≤ 2 ∧ signOf g.code = g := by
  cases g <;> exact ⟨by decide, rfl⟩

theorem slotBody_reads {l : Nat} (fits : SlotFits l k) (rest : List Byte) : ReadsSlot (slotBody k ++ rest) l k := by
  have skipHead : ∀ (i n : Nat) (more : List Byte), numAt (slotHead k ++ more) (18 + i) n = numAt more i n := fun i n more => by
    rw [numAt_skip _ _ _ _ (by rw [slotHead_length]; omega), slotHead_length, Nat.add_sub_cancel_left]
  have fireLength : (fireBytes k).length = l := by rw [fireBytes, List.length_map, fits.fire]
  have signLength : (signBytes k).length = l := by rw [signBytes, List.length_map, fits.signs]
  have skipFire : ∀ (i n : Nat) (more : List Byte), numAt (fireBytes k ++ more) (l + i) n = numAt more i n := fun i n more => by
    rw [numAt_skip _ _ _ _ (by omega), fireLength, Nat.add_sub_cancel_left]
  have skipSigns : ∀ (i n : Nat) (more : List Byte), numAt (signBytes k ++ more) (l + i) n = numAt more i n := fun i n more => by
    rw [numAt_skip _ _ _ _ (by omega), signLength, Nat.add_sub_cancel_left]
  have skipMarks : ∀ i n : Nat, numAt (slotBody k ++ rest) (18 + 2 * l + i) n =
      numAt (optNum 1 (k.preset.map (·.val)) ++ (flagByte k.hold ++ rest)) i n := fun i n => by
    rw [slotBody_eq, show 18 + 2 * l + i = 18 + (l + (l + i)) by omega, skipHead, skipFire, skipSigns]
  have small : ∀ n, k.preset.map (·.val) = some n → n < 256 ^ 1 := fun n preset => by
    obtain ⟨i, -, rfl⟩ := Option.map_eq_some_iff.mp preset
    have := i.isLt
    omega
  obtain ⟨offset, exposure, pulses, firstPulse, pulseWidth, pulsePeriod, -, -, -⟩ := fits
  refine ⟨?ports, ?offset, ?exposure, ?pulses, ?firstPulse, ?pulseWidth, ?pulsePeriod, fun i f mark => ?fire,
    fun i g mark => ?signs, ?preset, ?presetOk, ?hold⟩
  case ports => rw [slotBody_eq, slotHead, List.cons_append, numAt_one_byte]
  case fire =>
    rw [slotBody_eq, skipHead, numAt_index (x := if f then 0 else 1) (by rw [fireBytes, List.getElem?_map, mark]; rfl)]
    cases f <;> rfl
  case signs =>
    rw [slotBody_eq, Nat.add_assoc, skipHead, skipFire, numAt_index (by rw [signBytes, List.getElem?_map, mark]; rfl)]
    cases g <;> rfl
  case preset =>
    have read := optAt_optNum (size := 1) (flagByte k.hold ++ rest) small
    rw [optAt, flagAt, ← skipMarks 0, ← skipMarks (0 + 1)] at read
    exact read
  case presetOk =>
    have read := flagOkAt_optNum 1 (k.preset.map (·.val)) (flagByte k.hold ++ rest)
    rw [flagOkAt, ← skipMarks 0] at read
    exact read
  case hold =>
    rw [show 20 + 2 * l = 18 + 2 * l + 2 by omega, skipMarks, numAt_afterOpt 1 _ _ 0 1, numAt_flagByte]
  all_goals
    rw [slotBody_eq, slotHead]
    simp only [List.cons_append, List.append_assoc, numAt_tail, numAt_after1, numAt_after2, numAt_after4, numAt_num1,
      numAt_num2, numAt_num4, *]

/-- A slot is read at an offset as it is from the body's bytes from there on. -/
theorem slotAt_drop (b : List Byte) (l o : Nat) : slotAt b l o = slotAt (b.drop o) l 0 := by
  simp only [slotAt, optAt, flagAt, numAt, List.drop_drop, Nat.zero_add, Nat.add_assoc, Nat.add_zero]

theorem slotInRange_drop (b : List Byte) (l o : Nat) : slotInRange b l o = slotInRange (b.drop o) l 0 := by
  simp only [slotInRange, optAt, flagAt, flagOkAt, numAt, List.drop_drop, Nat.zero_add, Nat.add_assoc, Nat.add_zero]
  rfl

/-- A list whose entries are each read from their places. -/
theorem range_map_eq {α : Type} {f : Nat → α} {marks : List α} {l : Nat} (length : marks.length = l)
    (reads : ∀ (i : Nat) (x : α), marks[i]? = some x → f i = x) : (List.range l).map f = marks := by
  refine List.ext_getElem (by simp [length]) (fun i _ small => ?_)
  rw [List.getElem_map, List.getElem_range]
  exact reads i _ (List.getElem?_eq_getElem small)

theorem ReadsSlot.slot {b : List Byte} {l : Nat} (h : ReadsSlot b l k) (fits : SlotFits l k) : slotAt b l 0 = k := by
  have fire : (List.range l).map (fun i => decide (numAt b (18 + i) 1 = 0)) = k.fire :=
    range_map_eq fits.fire (fun i f mark => by rw [h.fire i f mark]; cases f <;> rfl)
  have signs : (List.range l).map (fun i => signOf (numAt b (18 + l + i) 1)) = k.signs :=
    range_map_eq fits.signs (fun i g mark => by rw [h.signs i g mark, (sign_code g).2])
  have preset : (optAt b (18 + 2 * l) 1).bind (fun n => if h : n < 8 then some (⟨n, h⟩ : Fin 8) else none) = k.preset := by
    rw [h.preset]
    cases k.preset with
    | none => rfl
    | some i => exact dif_pos i.isLt
  have ports : maskPorts (BitVec.ofNat 8 (numAt b 0 1)) = k.ports := by
    rw [h.ports, BitVec.ofNat_toNat, BitVec.setWidth_eq, maskPorts_markByte]
  simp only [slotAt, Nat.zero_add, ports, h.offset, h.exposure, h.pulses, h.firstPulse, h.pulseWidth, h.pulsePeriod, fire,
    signs, preset, flagAt_toNat h.hold]
  exact (congrArg (fun n => { k with used := n }) fits.used).symm

/-- The fields of a slot lie in their ranges, and it marks a port (R51 check 1). -/
abbrev SlotInRange (k : Slot) : Prop :=
  (∃ p : Port, k.marks p = true) ∧ k.offset ≤ 1000000 ∧ 10 ≤ k.exposure ∧ k.exposure ≤ 100000 ∧ k.pulses ≤ 16 ∧
    k.firstPulse ≤ 100000 ∧ 2 ≤ k.pulseWidth ∧ k.pulseWidth ≤ 1000 ∧ k.pulseWidth + 2 ≤ k.pulsePeriod ∧
    k.pulsePeriod ≤ 10000

theorem ReadsSlot.inRange {b : List Byte} {l : Nat} (h : ReadsSlot b l k) (fits : SlotFits l k) :
    slotInRange b l 0 = true ↔ SlotInRange k := by
  have fire : (List.range l).all (fun i => numAt b (18 + i) 1 ≤ 1) = true := List.all_eq_true.mpr (fun i inside => by
    have small : i < k.fire.length := fits.fire.symm ▸ List.mem_range.mp inside
    rw [h.fire i _ (List.getElem?_eq_getElem small)]
    split <;> rfl)
  have signs : (List.range l).all (fun i => numAt b (18 + l + i) 1 ≤ 2) = true := List.all_eq_true.mpr (fun i inside => by
    have small : i < k.signs.length := fits.signs.symm ▸ List.mem_range.mp inside
    rw [h.signs i _ (List.getElem?_eq_getElem small)]
    exact decide_eq_true (sign_code _).1)
  have preset : optInRange 0 7 (k.preset.map (·.val)) = true := by
    cases k.preset with
    | none => rfl
    | some i => exact (inRange_iff _ _ _).mpr ⟨Nat.zero_le _, Nat.le_of_lt_succ i.isLt⟩
  simp only [slotInRange, Nat.zero_add, h.ports, h.offset, h.exposure, h.pulses, h.firstPulse, h.pulseWidth, h.pulsePeriod,
    fire, signs, h.preset, preset, h.presetOk, flagOkAt_toNat h.hold, Bool.and_eq_true, decide_eq_true_eq, inRange_iff,
    Nat.zero_le, true_and, and_true, and_assoc, markByte_zero]

end Sys2Proof.Capture
end

section
/-! PROOFS. PLAN_LOAD reads back the plan that its body spells, and checks 2 to 4 of R51 by what they look for. -/

namespace Sys2Proof.Capture

open Sys2Proof.Machine Sys2Proof.Safety Sys2Proof.Power

variable {s : State} {q : Plan} {k : Slot}

/-! ## The plan fields at the head of the body -/

theorem flagAt_of_some {b : List Byte} {o size n : Nat} (h : optAt b o size = some n) :
    flagAt b o = true ∧ numAt b (o + 1) size = n := by
  unfold optAt at h
  split at h
  · next present => exact ⟨present, Option.some.inj h⟩
  · cases h

theorem flagAt_of_none {b : List Byte} {o size : Nat} (h : optAt b o size = none) : flagAt b o = false := by
  unfold optAt at h
  split at h
  · cases h
  · next absent => exact Bool.eq_false_iff.mpr absent

/-- A body gives the plan fields, and the slots are what follows. -/
structure ReadsPlan (b : List Byte) (q : Plan) : Prop where
  count : numAt b 0 1 = q.slots.length
  length : numAt b 1 1 = q.length
  mode : numAt b 2 1 = q.mode.code
  period : optAt b 3 4 = q.period
  periodOk : flagOkAt b 3 = true
  edge : optAt b 8 1 = q.edge.map edgeCode
  edgeOk : flagOkAt b 8 = true
  slots : b.drop 10 = (q.slots.map slotBody).flatten

theorem planBody_reads (fits : PlanFits q) : ReadsPlan (planBody q) q := by
  obtain ⟨count, length, period, -⟩ := fits
  have mode : q.mode.code < 256 := by cases q.mode <;> decide
  have edge : ∀ n, q.edge.map edgeCode = some n → n < 256 ^ 1 := fun n named => by
    obtain ⟨e, -, rfl⟩ := Option.map_eq_some_iff.mp named
    cases e <;> decide
  have shape : planBody q = num1 q.slots.length ++ (num1 q.length ++ (num1 q.mode.code ++ (optNum 4 q.period ++
      (optNum 1 (q.edge.map edgeCode) ++ (q.slots.map slotBody).flatten)))) := by
    simp only [planBody, List.append_assoc]
  rw [shape]
  constructor
  case count => rw [numAt_num1 _ _ count]
  case length => rw [numAt_after1, numAt_num1 _ _ length]
  case mode => rw [numAt_after1 _ _ 1, numAt_after1 _ _ 0, numAt_num1 _ _ mode]
  case period => simp [optAt_skip, optAt_optNum (size := 4) _ period]
  case periodOk => simp [flagOkAt_skip, flagOkAt_optNum]
  case edge => simp [optAt_skip, optNum_length, optAt_optNum (size := 1) _ edge]
  case edgeOk => simp [flagOkAt_skip, optNum_length, flagOkAt_optNum]
  case slots =>
    rw [← shape]
    exact List.drop_left' (by simp [optNum_length])

/-- The plan fields lie in their ranges, the period present exactly in FREE_RUN and the edge in LINE_TRIGGER. -/
abbrev HeaderInRange (q : Plan) : Prop :=
  1 ≤ q.slots.length ∧ q.slots.length ≤ 4 ∧ 1 ≤ q.length ∧ q.length ≤ 8 ∧
  (q.mode = .freeRun → q.edge = none ∧ ∃ n, q.period = some n ∧ 1000 ≤ n ∧ n ≤ 1000000) ∧
  (q.mode = .lineTrigger → q.period = none ∧ q.edge.isSome = true)

theorem planInRange_iff : PlanInRange q ↔ HeaderInRange q ∧ ∀ k ∈ q.slots, SlotInRange k := by
  simp only [PlanInRange, HeaderInRange, SlotInRange, and_assoc]

theorem ReadsPlan.freeRun {b : List Byte} (h : ReadsPlan b q) :
    (flagAt b 3 && inRange 1000 1000000 (numAt b 4 4) && !flagAt b 8) = true ↔
      q.edge = none ∧ ∃ n, q.period = some n ∧ 1000 ≤ n ∧ n ≤ 1000000 := by
  have period := h.period
  have edge := h.edge
  cases hp : q.period with
  | none => simp [flagAt_of_none (hp ▸ period)]
  | some n =>
    obtain ⟨present, number⟩ := flagAt_of_some (hp ▸ period)
    cases he : q.edge with
    | none => simp [present, number, flagAt_of_none (show optAt b 8 1 = none by rw [edge, he]; rfl), inRange_iff]
    | some e => simp [(flagAt_of_some (show optAt b 8 1 = some (edgeCode e) by rw [edge, he]; rfl)).1]

theorem ReadsPlan.lineTrigger {b : List Byte} (h : ReadsPlan b q) :
    (!flagAt b 3 && flagAt b 8 && inRange 0 1 (numAt b 9 1)) = true ↔ q.period = none ∧ q.edge.isSome = true := by
  have period := h.period
  have edge := h.edge
  cases he : q.edge with
  | none => simp [flagAt_of_none (show optAt b 8 1 = none by rw [edge, he]; rfl)]
  | some e =>
    obtain ⟨present, number⟩ := flagAt_of_some (show optAt b 8 1 = some (edgeCode e) by rw [edge, he]; rfl)
    have small : edgeCode e ≤ 1 := by cases e <;> decide
    cases hp : q.period with
    | none => simp [flagAt_of_none (hp ▸ period), present, number, inRange_iff, small]
    | some n => simp [(flagAt_of_some (hp ▸ period)).1]

theorem ReadsPlan.header {b : List Byte} (h : ReadsPlan b q) : planHeaderInRange b = true ↔ HeaderInRange q := by
  have known : inRange 0 1 q.mode.code = true := by cases q.mode <;> rfl
  simp only [planHeaderInRange, h.count, h.length, h.mode, h.periodOk, h.edgeOk, known, Bool.and_true, Bool.and_eq_true,
    inRange_iff, and_assoc]
  cases mode : q.mode with
  | freeRun =>
    rw [if_pos (by rfl), h.freeRun]
    simp only [HeaderInRange, mode, true_implies, reduceCtorEq, false_implies, and_true]
  | lineTrigger =>
    rw [if_neg (by decide), h.lineTrigger]
    simp only [HeaderInRange, mode, true_implies, reduceCtorEq, false_implies, true_and]

/-! ## The slots of the body -/

theorem planFits_slot (fits : PlanFits q) (mem : k ∈ q.slots) : SlotFits q.length k := by
  obtain ⟨-, -, -, slots⟩ := fits
  obtain ⟨offset, exposure, pulses, firstPulse, pulseWidth, pulsePeriod, fire, signs, used⟩ := slots k mem
  exact ⟨offset, exposure, pulses, firstPulse, pulseWidth, pulsePeriod, fire, signs, used⟩

theorem slotBody_length {l : Nat} (fits : SlotFits l k) : (slotBody k).length = slotSize l := by
  have shape := slotBody_eq k []
  rw [List.append_nil] at shape
  simp only [shape, List.length_append, slotHead_length, fireBytes, signBytes, List.length_map, fits.fire, fits.signs,
    optNum_length, flagByte_length, List.length_nil, slotSize]
  omega

/-- Rows of one length: the row at a place begins after those before it. -/
theorem drop_flatten {α : Type} {n : Nat} : ∀ {rows : List (List α)} {i : Nat} {row : List α},
    (∀ r ∈ rows, r.length = n) → rows[i]? = some row → ∃ rest, rows.flatten.drop (i * n) = row ++ rest
  | [], _, _, _, found => by cases found
  | r :: rows, 0, row, _, found => by
    cases found
    exact ⟨rows.flatten, by rw [Nat.zero_mul, List.drop_zero, List.flatten_cons]⟩
  | r :: rows, i + 1, row, sizes, found => by
    obtain ⟨rest, later⟩ := drop_flatten (fun r hr => sizes r (List.mem_cons_of_mem _ hr))
      (show rows[i]? = some row from found)
    refine ⟨rest, ?_⟩
    have size : r.length = n := sizes r List.mem_cons_self
    rw [List.flatten_cons, Nat.succ_mul, Nat.add_comm, ← later, ← List.drop_drop, ← size, List.drop_left]

theorem slotBodies_length (fits : PlanFits q) : ∀ r ∈ q.slots.map slotBody, r.length = slotSize q.length := by
  intro r mem
  obtain ⟨k, member, rfl⟩ := List.mem_map.mp mem
  exact slotBody_length (planFits_slot fits member)

/-- The slot at a place of a plan is read at its offset. -/
theorem planBody_slot (fits : PlanFits q) {i : Nat} (found : q.slots[i]? = some k) :
    ReadsSlot ((planBody q).drop (slotOffset q.length i)) q.length k := by
  obtain ⟨rest, body⟩ := drop_flatten (slotBodies_length fits) (show (q.slots.map slotBody)[i]? = some (slotBody k) by
    rw [List.getElem?_map, found]; rfl)
  rw [slotOffset, ← List.drop_drop, (planBody_reads fits).slots, body]
  exact slotBody_reads (planFits_slot fits (List.mem_of_getElem? found)) rest

theorem planOf_planBody (fits : PlanFits q) : planOf (planBody q) = q := by
  have reads := planBody_reads fits
  have mode : (if q.mode.code = 0 then CycleMode.freeRun else .lineTrigger) = q.mode := by cases q.mode <;> rfl
  have edge : (q.edge.map edgeCode).map (fun n => if n = 0 then Edge.rising else .falling) = q.edge := by
    cases q.edge with
    | none => rfl
    | some e => cases e <;> rfl
  have slots : (List.range q.slots.length).map (fun i => slotAt (planBody q) q.length (slotOffset q.length i)) = q.slots :=
    range_map_eq rfl (fun i k found => by
      rw [slotAt_drop]
      exact (planBody_slot fits found).slot (planFits_slot fits (List.mem_of_getElem? found)))
  simp only [planOf, reads.count, reads.length, reads.mode, reads.period, reads.edge, mode, edge, slots]

theorem planLengthOk_planBody (fits : PlanFits q) : planLengthOk (planBody q) = true := by
  have reads := planBody_reads fits
  have slots : ((planBody q).drop 10).length = q.slots.length * slotSize q.length := by
    rw [reads.slots, List.length_flatten, List.map_eq_replicate_iff.mpr (slotBodies_length fits), List.sum_replicate_nat,
      List.length_map]
  have head : 10 ≤ (planBody q).length := by
    simp only [planBody, List.length_append, num1_length, optNum_length]
    omega
  rw [List.length_drop] at slots
  rw [planLengthOk, reads.count, reads.length, slotOffset, Bool.and_eq_true, decide_eq_true_eq, decide_eq_true_eq]
  omega

/-! ## Check 1 of R51 -/

theorem badSlot_none (fits : PlanFits q) : badSlot (planBody q) = none ↔ ∀ k ∈ q.slots, SlotInRange k := by
  have reads := planBody_reads fits
  have judged : ∀ (i : Nat) (k : Slot), q.slots[i]? = some k →
      (slotInRange (planBody q) q.length (slotOffset q.length i) = true ↔ SlotInRange k) := fun i k found => by
    rw [slotInRange_drop]
    exact (planBody_slot fits found).inRange (planFits_slot fits (List.mem_of_getElem? found))
  simp only [badSlot, reads.count, reads.length, List.find?_eq_none, List.mem_range, Bool.not_eq_true', Bool.not_eq_false]
  constructor
  · intro all k mem
    obtain ⟨i, small, rfl⟩ := List.getElem_of_mem mem
    exact (judged i _ (List.getElem?_eq_getElem small)).mp (all i small)
  · intro all i small
    exact (judged i _ (List.getElem?_eq_getElem small)).mpr (all _ (List.getElem_mem small))

theorem planOutOfRange_none (fits : PlanFits q) : planOutOfRange (planBody q) = none ↔ PlanInRange q := by
  rw [planInRange_iff, ← badSlot_none fits, ← (planBody_reads fits).header, planOutOfRange]
  cases planHeaderInRange (planBody q) <;> simp

theorem planOutOfRange_check {b : List Byte} {f : PlanFailure} (h : planOutOfRange b = some f) :
    f.status = .outOfRange ∧ f.check = 1 := by
  unfold planOutOfRange at h
  split at h
  · cases h
    exact ⟨rfl, rfl⟩
  · obtain ⟨k, -, rfl⟩ := Option.map_eq_some_iff.mp h
    exact ⟨rfl, rfl⟩

/-! ## Checks 2 to 4 of R51 -/

theorem firstPort_none {f : Nat → Slot → Port → Bool} :
    q.firstPort f = none ↔ ∀ (i : Nat) (k : Slot) (p : Port), q.slots[i]? = some k → f i k p = false := by
  simp only [Plan.firstPort, List.find?_eq_none, List.mem_flatMap, List.mem_range, List.mem_map]
  constructor
  · intro all i k p found
    have small : i < q.slots.length := (List.getElem?_eq_some_iff.mp found).1
    have unmet := all (i, p) ⟨i, small, p, mem_allPorts p, rfl⟩
    simp only [found] at unmet
    exact Bool.eq_false_iff.mpr unmet
  · rintro all c ⟨i, small, p, -, rfl⟩
    simp only [List.getElem?_eq_getElem small, all i _ p (List.getElem?_eq_getElem small)]
    decide

/-- A test of each slot by itself. -/
theorem firstPort_each {f : Slot → Port → Bool} :
    q.firstPort (fun _ => f) = none ↔ ∀ k ∈ q.slots, ∀ p, f k p = false := by
  rw [firstPort_none]
  constructor
  · intro all k mem p
    obtain ⟨i, small, rfl⟩ := List.getElem_of_mem mem
    exact all i _ p (List.getElem?_eq_getElem small)
  · exact fun all i k p found => all k (List.mem_of_getElem? found) p

/-- A test of each slot with those before it. -/
theorem firstPort_pairs {f : Slot → Slot → Port → Bool} :
    q.firstPort (fun j b p => (q.slots.take j).any (fun a => f a b p)) = none ↔
      ∀ (i j : Nat) (a b : Slot) (p : Port), i < j → q.slots[i]? = some a → q.slots[j]? = some b → f a b p = false := by
  rw [firstPort_none]
  constructor
  · intro all i j a b p before ha hb
    have unmet := List.any_eq_false.mp (all j b p hb) a
      (List.mem_of_getElem? (i := i) (by rw [List.getElem?_take, if_pos before, ha]))
    exact Bool.eq_false_iff.mpr unmet
  · intro all j b p hb
    refine List.any_eq_false.mpr (fun a mem => ?_)
    obtain ⟨i, found⟩ := List.getElem?_of_mem mem
    rw [List.getElem?_take] at found
    split at found
    · next before =>
      rw [all i j a b p before found hb]
      decide
    · cases found

/-- Two slots that both mark a port and overlap on it (R52). -/
theorem slotsConflict_false {a b : Slot} {p : Port} : s.slotsConflict a b p = false ↔
    (a.marks p = true → b.marks p = true → s.spanEnd b p ≤ a.offset ∨ s.spanEnd a p ≤ b.offset) := by
  simp only [State.slotsConflict, Bool.eq_false_iff, Ne, Bool.and_eq_true, decide_eq_true_eq, ← Nat.not_lt]
  tauto

theorem planFailure_some {c : Option (Nat × Port)} (found : c ≠ none) (status : Status) (check : Nat) :
    ∃ k p, planFailure status check c = some ⟨status, check, some k, some p⟩ := by
  obtain ⟨⟨k, p⟩, rfl⟩ := Option.ne_none_iff_exists'.mp found
  exact ⟨k, p, rfl⟩

/-- Check 4 of R51: in FREE_RUN the spans end within the period. -/
def periodFails (s : State) (q : Plan) : Option PlanFailure :=
  match q.mode, q.period with
  | .freeRun, some period => planFailure .conflict 4 (q.firstPort (fun _ k p => k.marks p && period < s.spanEnd k p))
  | _, _ => none

theorem periodFails_free {period : Nat} (mode : q.mode = .freeRun) (h : q.period = some period) : periodFails s q =
    planFailure .conflict 4 (q.firstPort (fun _ k p => k.marks p && period < s.spanEnd k p)) := by
  unfold periodFails
  rw [mode, h]

theorem periodFails_none (h : q.mode = .lineTrigger ∨ (∃ period, q.period = some period ∧
    ∀ k ∈ q.slots, ∀ p : Port, k.marks p = true → s.spanEnd k p ≤ period)) : periodFails s q = none := by
  cases mode : q.mode with
  | lineTrigger =>
    unfold periodFails
    rw [mode]
  | freeRun =>
    obtain ⟨period, some_period, within⟩ := h.resolve_left (by rw [mode]; decide)
    rw [periodFails_free mode some_period, firstPort_each.mpr]
    · rfl
    · intro k mem p
      cases marks : k.marks p with
      | false => rfl
      | true => exact decide_eq_false (Nat.not_lt.mpr (within k mem p marks))

/-- The slots mark configured ports alone (R51 check 2). -/
abbrev AllConfigured (s : State) (q : Plan) : Prop :=
  ∀ k ∈ q.slots, ∀ p : Port, k.marks p = true → s.settings.ports[p].configured = true

/-- No two slots overlap on a port (R51 check 3). -/
abbrev NoOverlap (s : State) (q : Plan) : Prop :=
  ∀ (i j : Nat) (a b : Slot) (p : Port), i < j → q.slots[i]? = some a → q.slots[j]? = some b → a.marks p = true →
    b.marks p = true → s.spanEnd b p ≤ a.offset ∨ s.spanEnd a p ≤ b.offset

theorem configured_iff : q.firstPort (fun _ k p => k.marks p && !(s.profileOf p).configured) = none ↔ AllConfigured s q := by
  rw [firstPort_each (f := fun k p => k.marks p && !(s.profileOf p).configured)]
  simp only [State.profileOf, Bool.and_eq_false_imp, Bool.not_eq_eq_eq_not, Bool.not_false]

theorem noOverlap_iff : q.firstPort (fun i k p => (q.slots.take i).any (fun j => s.slotsConflict j k p)) = none ↔
    NoOverlap s q := by
  rw [firstPort_pairs (f := s.slotsConflict)]
  simp only [slotsConflict_false]

theorem planFails_unconfigured (unmet : ¬ AllConfigured s q) :
    ∃ k p, s.planFails q = some ⟨.wrongState, 2, some k, some p⟩ := by
  obtain ⟨k, p, fails⟩ := planFailure_some (fun none_found => unmet (configured_iff.mp none_found)) .wrongState 2
  refine ⟨k, p, ?_⟩
  rw [State.planFails, fails]
  rfl

theorem planFails_overlap (met : AllConfigured s q) (unmet : ¬ NoOverlap s q) :
    ∃ k p, s.planFails q = some ⟨.conflict, 3, some k, some p⟩ := by
  obtain ⟨k, p, fails⟩ := planFailure_some (fun none_found => unmet (noOverlap_iff.mp none_found)) .conflict 3
  refine ⟨k, p, ?_⟩
  rw [State.planFails, configured_iff.mpr met, fails]
  rfl

theorem planFails_period (met : AllConfigured s q) (apart : NoOverlap s q) : s.planFails q = periodFails s q := by
  unfold State.planFails
  rw [configured_iff.mpr met, noOverlap_iff.mpr apart]
  rfl

/-! ## PLAN_LOAD (R51, R53) -/

theorem planLoad_serves {tag : Byte} (h : Serves s 0x09 tag (planBody q)) :
    exec .planLoad s = .next (State.planLoad (planBody q) s).transmit :=
  serveWhen_owner (lengthOk := fun _ => true) (ofRow := fun _ => true) h rfl rfl State.planLoad

theorem planLoad_inService {b : List Byte} (service : s.seq.state.inService = true) :
    State.planLoad b s = s.reply .wrongState := if_pos service

/-- The first failure of a plan, of its ranges and then of checks 2 to 4. -/
abbrev firstFailure (s : State) (q : Plan) : Option PlanFailure := planOutOfRange (planBody q) <|> s.planFails q

/-- Out of service PLAN_LOAD answers the first check that fails. -/
theorem planLoad_refuses {f : PlanFailure} (fits : PlanFits q) (free : s.seq.state.inService = false)
    (fails : firstFailure s q = some f) : State.planLoad (planBody q) s = s.refusePlan f := by
  simp only [State.planLoad, free, planLengthOk_planBody fits, planOf_planBody fits, fails, Bool.not_true, Bool.false_eq_true,
    if_false]

/-- It holds a plan that passes them all, with its strobe counts used. -/
theorem planLoad_holds (fits : PlanFits q) (free : s.seq.state.inService = false) (passes : firstFailure s q = none) :
    State.planLoad (planBody q) s = s.holdPlan q.withUsed := by
  simp only [State.planLoad, free, planLengthOk_planBody fits, planOf_planBody fits, passes, Bool.not_true, Bool.false_eq_true,
    if_false]

theorem clamped_iff : q.clamped = true ↔ ∃ k ∈ q.slots, k.used < k.pulses := by
  simp [Plan.clamped]

/-- With no sweep in progress the plan is held with one change, one notice and the reply (R53, R59). -/
theorem holdPlan_idle (idle : s.sweeps.sweep = none) (q : Plan) : s.holdPlan q =
    (({ s with seq := { s.seq with plan := some q, state := .loaded } }).post none
      (.planState .loaded s.seq.state .load s.seq.cycleCounter 0)).answer (if q.clamped then .clamped else .ok)
      (num1 q.slots.length ++ (q.slots.map (fun (k : Slot) => num1 k.used)).flatten) := by
  unfold State.holdPlan State.planNotice
  rw [strobePart_outOfService (by rfl)]
  simp only
  rw [sweepResume_idle (by rw [(post_changes _ _ _).sweeps (by simp)]; exact idle)]
  rfl

/-- Settles O31: the body gives back its plan, and the checks are made in their order. -/
theorem planLoadChecksThePlan : Obligations.PlanLoadChecksThePlan := by
  refine ⟨fun s tag q fits h => ⟨fun service => ?_, fun idle => ?_⟩, fun s q ends spans => ?_⟩
  · rw [planLoad_serves h, planLoad_inService ((inService_iff _).mpr service)]
  · have free : s.seq.state.inService = false := by rcases idle with e | e <;> rw [e] <;> rfl
    rw [planLoad_serves h]
    refine ⟨fun out => ?_, fun range => ?_⟩
    · obtain ⟨f, found⟩ := Option.ne_none_iff_exists'.mp (fun e => out ((planOutOfRange_none fits).mp e))
      obtain ⟨status, check⟩ := planOutOfRange_check found
      refine ⟨optNum 1 f.slot ++ optNum 1 (f.port.map (·.val)), ?_⟩
      rw [planLoad_refuses fits free (f := f) (by rw [firstFailure, found]; rfl), State.refusePlan, status, failureFields, check]
      rfl
    · have first : firstFailure s q = s.planFails q := by rw [firstFailure, (planOutOfRange_none fits).mpr range]; rfl
      refine ⟨fun f fails => ?_, fun passes unswept => ?_⟩
      · rw [planLoad_refuses fits free (first.trans fails)]
        rfl
      · rw [planLoad_holds fits free (first.trans passes)]
        refine ⟨q.withUsed, if q.withUsed.clamped then .clamped else .ok, ?_, rfl, ?_, ?_⟩
        · have count : q.slots.length = q.withUsed.slots.length := (List.length_map _).symm
          rw [count, ← holdPlan_idle unswept]
        · rw [← clamped_iff]
          cases q.withUsed.clamped <;> simp
        · cases q.withUsed.clamped <;> simp
  · obtain rfl : ends = s.spanEnd := funext (fun k => funext (spans k))
    refine ⟨?_, fun met => ⟨?_, fun apart => ⟨fun period mode some_period over_ => ?_, fun within => ?_⟩⟩⟩
    · rintro ⟨k, mem, p, marks, unconfigured⟩
      refine planFails_unconfigured (fun all => ?_)
      rw [all k mem p marks] at unconfigured
      cases unconfigured
    · rintro ⟨i, j, a, b, p, before, ha, hb, ma, mb, early, late⟩
      exact planFails_overlap met (fun all => (all i j a b p before ha hb ma mb).elim (Nat.not_le.mpr early)
        (Nat.not_le.mpr late))
    · obtain ⟨k, mem, p, marks, long⟩ := over_
      rw [planFails_period met apart, periodFails_free mode some_period]
      have found : q.firstPort (fun _ k p => k.marks p && decide (period < s.spanEnd k p)) ≠ none := fun none_found => by
        have unmet := (firstPort_each (f := fun k p => k.marks p && decide (period < s.spanEnd k p))).mp none_found k mem p
        simp [marks, long] at unmet
      exact planFailure_some found _ _
    · rw [planFails_period met apart, periodFails_none within]

end Sys2Proof.Capture
end

section
/-!
PROOFS. A pending move that begins or waits (R121 to R125): with its claim granted, or granted as it is raised, a move that
passes its tests leaves as one change of its lens.
-/

namespace Sys2Proof.Capture

open Sys2Proof.Machine Sys2Proof.Safety Sys2Proof.Power

variable {s : State} {p : Port} {m : Move} {f g : Lens → Lens}

/-! ## Changes of one lens -/

theorem setLens_setLens (s : State) (p : Port) (f g : Lens → Lens) :
    (s.setLens p f).setLens p g = s.setLens p (fun l => g (f l)) := by
  unfold State.setLens
  rw [upd_upd]

theorem setLens_congr (h : f s.lenses[p] = g s.lenses[p]) : s.setLens p f = s.setLens p g := by
  unfold State.setLens
  rw [upd_congr s.lenses p h]

theorem setLens_same (s : State) (p : Port) (f : Lens → Lens) : (s.setLens p f).lenses[p] = f s.lenses[p] := upd_same _ _ _

/-- The estimate of a move reads of its lens the positions alone (R121). -/
theorem estimate_setLens (position : (f s.lenses[p]).position = s.lenses[p].position) (m : Move) :
    (s.setLens p f).estimate p m = s.estimate p m := by
  unfold State.estimate
  rw [setLens_same, position]
  rfl

/-- The fit test reads of the lens the positions alone (R122). -/
theorem fits_setLens (position : (f s.lenses[p]).position = s.lenses[p].position) (m : Move) :
    (s.setLens p f).fits p m = s.fits p m := by
  unfold State.fits
  rw [estimate_setLens position]
  rfl

/-- Out of service every move fits. -/
theorem fits_free (free : s.seq.state.inService = false) (m : Move) : s.fits p m = true := by
  unfold State.fits
  rw [free]
  rfl

theorem covers_of (h : (m.targets.focus ≠ none → s.lenses[p].position.focus ≠ none) ∧
    (m.targets.iris ≠ none → s.lenses[p].position.iris ≠ none) ∧
    (m.targets.zoom ≠ none → s.lenses[p].position.zoom ≠ none)) : s.lenses[p].position.covers m.targets = true := by
  obtain ⟨focus, iris, zoom⟩ := h
  simp only [Axes.covers, Bool.and_eq_true, Bool.or_eq_true, Option.isNone_iff_eq_none, Option.isSome_iff_ne_none]
  tauto

/-! ## A move begun (R125) -/

/-- The lens whose move has begun: its SEEK or FIND_HOME is under way on the bus, and it is the move in flight. -/
def moveBegun (s : State) (p : Port) (m : Move) (l : Lens) : Lens :=
  { l with
    state := if m.kind = MoveKind.seek then LensState.moving else LensState.homing
    pending := none
    stage := .none
    toBegin := false
    waits := 0
    claim := .granted
    flight := some ⟨m, s.estimate p m, s.clock + moveDeadline m.kind (s.estimate p m), s.clock + 10000, false, none⟩
    counts := { l.counts with begun := sat32 l.counts.begun }
    bus := ⟨.hub, some ⟨.motion, 0, motionBytes m⟩, []⟩ }

/-- The lens whose move waits for a window, its wait counted (R123). -/
def moveWaits (l : Lens) : Lens :=
  { l with
    stage := .windowWait
    toBegin := false
    waits := l.waits + 1
    counts := { l.counts with waits := sat32 l.counts.waits } }

theorem moveBegun_setLens (position : (f s.lenses[p]).position = s.lenses[p].position) :
    moveBegun (s.setLens p f) p m = moveBegun s p m := by
  unfold moveBegun
  rw [estimate_setLens position]
  rfl

theorem windowWait_counts (few : s.lenses[p].waits < 8) : s.windowWait p = s.setLens p moveWaits :=
  setLens_congr (if_pos few)

/-- What lets a move of a lens begin once it fits and its claim is granted: its estimate is known, its port does not expose,
and its bus is idle. -/
structure Ready (s : State) (p : Port) (m : Move) : Prop where
  covered : m.kind = .seek → s.lenses[p].position.covers m.targets = true
  unexposed : s.lanes[p].exposure = none
  bus : BusIdle s p

/-- A change of a lens that keeps its positions and its bus. -/
theorem Ready.kept (ready : Ready s p m) (position : (f s.lenses[p]).position = s.lenses[p].position)
    (bus : (f s.lenses[p]).bus = s.lenses[p].bus) : Ready (s.setLens p f) p m where
  covered := fun seek => by rw [setLens_same, position]; exact ready.covered seek
  unexposed := ready.unexposed
  bus := by rw [BusIdle, setLens_same, bus]; exact ready.bus

theorem beginMove_eq (ready : Ready s p m) (granted : s.lenses[p].claim = .granted) :
    s.beginMove p m = s.setLens p (moveBegun s p m) := by
  have known : (m.kind = .seek && !s.lenses[p].position.covers m.targets) = false := by
    rw [Bool.and_eq_false_imp, decide_eq_true_eq]
    intro seek
    rw [ready.covered seek]
    rfl
  unfold State.beginMove
  extract_lets estimate t
  rw [known, if_neg (by decide)]
  refine setLens_congr ?_
  simp only [moveBegun, show s.lenses[p].bus = _ from ready.bus, granted]
  cases m.kind <;> rfl

theorem beginOrWait_begins (ready : Ready s p m) (granted : s.lenses[p].claim = .granted)
    (pending : s.lenses[p].pending = some m) : s.beginOrWait p = s.setLens p (moveBegun s p m) := by
  have unexposed : s.exposing p = false := by rw [State.exposing, ready.unexposed]; rfl
  have free : s.lenses[p].bus.state = .free := by rw [show s.lenses[p].bus = _ from ready.bus]
  simp only [State.beginOrWait, pending, unexposed, free, Bool.false_eq_true, if_false, if_true]
  exact beginMove_eq ready granted

/-! ## A claim granted as it is raised (R21, R124) -/

/-- A lens claim that finds no other and fits the capacity is granted by the walk after it. -/
theorem joinClaim_granted {t : State} {need : Nat} (unclaimed : t.supply.claims = []) (normal : t.supply.low = none)
    (fits : t.committed + need ≤ t.settings.capacity) : (t.joinClaim p .lens need).walk = t.lensGranted p := by
  have claims : (t.joinClaim p .lens need).supply.claims = [⟨p, .lens, need, (t.profileOf p).priority, t.clock⟩] := by
    rw [State.joinClaim_supply]
    exact congrArg (insertClaim _) unclaimed
  have same : (t.joinClaim p .lens need).committed = t.committed :=
    committed_congr rfl (fun _ => rfl) (fun _ => rfl) rfl rfl
  have dropped : (t.joinClaim p .lens need).setClaims (fun _ => []) = t := by
    show { t with supply := { t.supply with claims := [] } } = t
    rw [← unclaimed]
  have granted : (t.joinClaim p .lens need).grant ⟨p, .lens, need, (t.profileOf p).priority, t.clock⟩ [] =
      t.lensGranted p := by
    unfold State.grant
    rw [dropped]
  rw [walk_grants claims ((admits_iff _ _).mpr ⟨normal, by rw [same]; exact fits⟩), granted]
  exact walk_nil (by rw [(lensGranted_changes _ _).supply (by decide)]; exact unclaimed)

/-- The lens whose claim has just been raised. -/
def claimRaised (l : Lens) : Lens := { l with claim := .standing, stage := .claimWait }

theorem claimRaised_committed (s : State) (p : Port) : (s.setLens p claimRaised).committed ≤ s.committed :=
  committed_le rfl (fun _ => id) (fun q => by
    rw [State.setLens_lenses, upd_get]
    split
    · intro granted
      cases granted
    · exact id) (Nat.le_of_eq (strobePart_congr rfl rfl rfl))

theorem raiseLensClaim_granted (fits : SurgeFits s p) :
    s.raiseLensClaim p = (s.setLens p claimRaised).lensGranted p := by
  obtain ⟨unclaimed, normal, covers⟩ := fits
  exact joinClaim_granted unclaimed normal (Nat.le_trans (Nat.add_le_add_right (claimRaised_committed s p) _) covers)

theorem lensGranted_begins (ready : Ready s p m) (pending : s.lenses[p].pending = some m)
    (passes : 8 ≤ s.lenses[p].waits ∨ s.fits p m = true) : s.lensGranted p = s.setLens p (moveBegun s p m) := by
  have same : (s.setLens p (fun l => { l with claim := .granted })).lenses[p] =
      { s.lenses[p] with claim := .granted } := setLens_same _ _ _
  have begins := beginOrWait_begins (ready.kept (f := fun l => { l with claim := .granted }) rfl rfl) (by rw [same])
    (by rw [same]; exact pending)
  have tested : (8 ≤ s.lenses[p].waits || s.fits p m) = true := by
    rw [Bool.or_eq_true, decide_eq_true_eq]
    exact passes
  simp only [State.lensGranted, same, pending, fits_setLens (f := fun l => { l with claim := .granted }) rfl, tested, if_true]
  rw [begins, moveBegun_setLens rfl, setLens_setLens]
  rfl

/-! ## The fit test and what follows it (R122 to R124) -/

/-- The lens holds its claim, or raises one that is granted at once. -/
abbrev Grants (s : State) (p : Port) : Prop :=
  s.lenses[p].claim = .granted ∨ (s.lenses[p].claim = .none ∧ SurgeFits s p)

/-- A pending move that fits, or has waited eight times, begins. -/
theorem fitOrWait_begins (ready : Ready s p m) (grants : Grants s p) (pending : s.lenses[p].pending = some m)
    (passes : 8 ≤ s.lenses[p].waits ∨ s.fits p m = true) : s.fitOrWait p = s.setLens p (moveBegun s p m) := by
  have tested : (8 ≤ s.lenses[p].waits || s.fits p m) = true := by
    rw [Bool.or_eq_true, decide_eq_true_eq]
    exact passes
  simp only [State.fitOrWait, pending, tested, if_true]
  rcases grants with granted | ⟨unclaimed, fits⟩
  · rw [granted]
    exact beginOrWait_begins ready granted pending
  · have begins : (s.setLens p claimRaised).lensGranted p =
        (s.setLens p claimRaised).setLens p (moveBegun (s.setLens p claimRaised) p m) := by
      refine lensGranted_begins (ready.kept rfl rfl) (by rw [setLens_same]; exact pending) ?_
      rw [setLens_same, fits_setLens rfl]
      exact passes
    rw [unclaimed]
    show s.raiseLensClaim p = _
    rw [raiseLensClaim_granted fits, begins, moveBegun_setLens rfl, setLens_setLens]
    rfl

/-- A pending move that does not fit waits for a window, up to the eighth time. -/
theorem fitOrWait_waits (pending : s.lenses[p].pending = some m) (few : s.lenses[p].waits < 8)
    (unfit : ¬ s.fits p m = true) : s.fitOrWait p = s.setLens p moveWaits := by
  have tested : (8 ≤ s.lenses[p].waits || s.fits p m) = false := by
    rw [Bool.or_eq_false_iff, decide_eq_false_iff_not]
    exact ⟨Nat.not_le.mpr few, Bool.eq_false_iff.mpr unfit⟩
  simp only [State.fitOrWait, pending, tested, Bool.false_eq_true, if_false]
  exact windowWait_counts few

/-! ## A move that becomes the pending move (R118, R121) -/

/-- The lens that a move has become pending for. -/
def posted (m : Move) (l : Lens) : Lens := { l with pending := some m, waits := 0 }

theorem startPending_moving (moving : s.lenses[p].state = .moving ∨ s.lenses[p].state = .homing) : s.startPending p = s := by
  refine if_neg ?_
  simp only [State.startable, (inMotion_iff _).mpr moving, Bool.not_true, Bool.and_false, Bool.false_and,
    Bool.false_eq_true, not_false_eq_true]

theorem setPending_moving (moving : s.lenses[p].state = .moving ∨ s.lenses[p].state = .homing)
    (clear : s.lenses[p].pending = none) : s.setPending p m = s.setLens p (posted m) := by
  simp only [State.setPending, clear]
  exact startPending_moving (s := s.setLens p (posted m)) (by rw [setLens_same]; exact moving)

/-- A move that supersedes a pending one at a lens in motion takes its place (R118). -/
theorem setPending_supersedes {old : Move} (moving : s.lenses[p].state = .moving ∨ s.lenses[p].state = .homing)
    (pending : s.lenses[p].pending = some old) (unbegun : s.lenses[p].toBegin = false) : s.setPending p m =
      (s.setLens p (fun l => { l with pending := some m })).post (some p)
        (.lensState .superseded s.lenses[p].state s.lenses[p].position (some old) none) := by
  have told : (s.setLens p (fun l => { l with pending := some m })).lensNotice p .superseded (some old) none =
      (s.setLens p (fun l => { l with pending := some m })).post (some p)
        (.lensState .superseded s.lenses[p].state s.lenses[p].position (some old) none) := by
    rw [State.lensNotice, setLens_same]
  simp only [State.setPending, pending, unbegun, Bool.false_eq_true, if_false, told]
  refine startPending_moving ?_
  rw [(post_changes _ _ _).lenses (by simp), setLens_same]
  exact moving

/-- A lens at rest with nothing pending or in flight, its port ON, has a move that becomes pending tested at once (R121). -/
structure Rests (s : State) (p : Port) : Prop where
  still : s.lenses[p].state.inMotion = false
  on : s.power[p].state = .on
  free : LensFree s p

theorem setPending_tests (rests : Rests s p) (m : Move) : s.setPending p m = (s.setLens p (posted m)).fitOrWait p := by
  obtain ⟨still, on, pending, stage, -, -, flight, halt⟩ := rests
  have same : (s.setLens p (posted m)).lenses[p] = posted m s.lenses[p] := setLens_same _ _ _
  have startable : (s.setLens p (posted m)).startable p = true := by
    simp only [State.startable, same, show (s.setLens p (posted m)).power[p].state = .on from on, posted, stage, flight,
      halt, still, Option.isSome_some, Option.isNone_none, Bool.not_false, decide_true, Bool.and_true]
  simp only [State.setPending, pending]
  exact if_pos startable

/-- A surge that fits goes on to fit where the lens changes but keeps its claim. -/
theorem surgeFits_kept (fits : SurgeFits s p) (claim : (f s.lenses[p]).claim = s.lenses[p].claim) :
    SurgeFits (s.setLens p f) p := by
  obtain ⟨unclaimed, normal, covers⟩ := fits
  have same : (s.setLens p f).committed = s.committed := committed_congr rfl (fun _ => rfl) (fun q => by
    rw [State.setLens_lenses, upd_get]
    split
    · next e => rw [claim, get_congr s.lenses e]
    · rfl) rfl rfl
  exact ⟨unclaimed, normal, by rw [same]; exact covers⟩

/-- A move that fits begins at once at a lens that rests. -/
theorem setPending_begins (rests : Rests s p) (ready : Ready s p m) (surge : SurgeFits s p) (fits : s.fits p m = true) :
    s.setPending p m = s.setLens p (moveBegun s p m) := by
  obtain ⟨-, -, -, -, -, unclaimed, -, -⟩ := id rests
  have grants : Grants (s.setLens p (posted m)) p := .inr ⟨by rw [setLens_same]; exact unclaimed, surgeFits_kept surge rfl⟩
  rw [setPending_tests rests, fitOrWait_begins (ready.kept rfl rfl) grants (by rw [setLens_same]; rfl)
    (.inr (by rw [fits_setLens rfl]; exact fits)), moveBegun_setLens rfl, setLens_setLens]
  rfl

/-- One that does not fit waits for the first time. -/
theorem setPending_waits (rests : Rests s p) (unfit : ¬ s.fits p m = true) :
    s.setPending p m = s.setLens p (fun l => moveWaits (posted m l)) := by
  rw [setPending_tests rests, fitOrWait_waits (m := m) (by rw [setLens_same]; rfl)
    (by rw [setLens_same]; exact Nat.succ_pos 7) (by rw [fits_setLens rfl]; exact unfit), setLens_setLens]

end Sys2Proof.Capture
end

section
/-!
PROOFS. The lens requests that are taken (R117 to R119): the fields of their bodies, and the move that becomes pending.
-/

namespace Sys2Proof.Capture

open Sys2Proof.Machine Sys2Proof.Safety Sys2Proof.Power

variable {s : State} {p : Port} {m : Move} {a : Axes} {tag : Byte}

/-! ## The targets of a LENS_MOVE (R117, R174) -/

theorem axesBytes_length (a : Axes) : (axesBytes a).length = 8 := by
  simp only [axesBytes, List.length_append, optNum_length]

theorem axesAt_body (fits : TargetsFit a) : axesAt (num1 p.val ++ axesBytes a) 1 = a := by
  obtain ⟨focus, iris, zoom⟩ := fits
  have zoomOnly := optAt_optNum (size := 2) [] zoom
  rw [List.append_nil] at zoomOnly
  simp [axesAt, axesBytes, optAt_skip, optNum_length, optAt_optNum (size := 2) _ focus, optAt_optNum (size := 1) _ iris,
    zoomOnly]

theorem axesOkAt_body (a : Axes) : axesOkAt (num1 p.val ++ axesBytes a) 1 = true := by
  have zoomOnly := flagOkAt_optNum 2 a.zoom []
  rw [List.append_nil] at zoomOnly
  simp [axesOkAt, axesBytes, flagOkAt_skip, optNum_length, flagOkAt_optNum, zoomOnly]

theorem hasFocus_iff (k : LensKind) : k.hasFocus = true ↔ k ≠ .none := by cases k <;> decide

theorem hasIris_iff (k : LensKind) : k.hasIris = true ↔ DrivesIris k := by cases k <;> decide

theorem hasZoom_iff (k : LensKind) : k.hasZoom = true ↔ DrivesZoom k := by cases k <;> decide

theorem fitKind_of {k : LensKind} (allowed : TargetsAllowed k a) : a.fitKind k = true := by
  obtain ⟨named, focus, iris, zoom⟩ := allowed
  simp only [Axes.fitKind, Bool.and_eq_true, Bool.or_eq_true, Option.isNone_iff_eq_none, Option.isSome_iff_ne_none,
    hasFocus_iff, hasIris_iff, hasZoom_iff]
  tauto

/-- The targets cut to the ranges of their axes: that of the iris is what its byte can carry. -/
theorem clamped_fit (fits : TargetsFit a) : a.clamped = ⟨a.focus.map (min 4095), a.iris, a.zoom.map (min 4095)⟩ := by
  have iris : a.iris.map (min 255) = a.iris := by
    cases h : a.iris with
    | none => rfl
    | some n => exact congrArg some (Nat.min_eq_right (Nat.le_of_lt_succ (fits.2.1 n h)))
  rw [Axes.clamped, iris]

/-! ## The requests as posts of a move -/

theorem seekRefused_free (takes : s.lenses[p].state = .idle ∨ s.lenses[p].state = .moving ∨ s.lenses[p].state = .homing)
    (free : s.seq.state.inService = false) : s.seekRefused p = none := by
  have unowned : s.seq.owns p = false := by rw [Sequencer.owns, free, Bool.false_and]
  unfold State.seekRefused
  rcases takes with h | h | h <;> simp only [h, unowned, Bool.false_eq_true, if_false]

/-- A LENS_MOVE taken posts the targets cut to their ranges, and tells where one was cut. -/
theorem lensMove_takes {status : Status} {fields : List Byte} (fits : TargetsFit a)
    (allowed : TargetsAllowed s.settings.ports[p].lensKind a) (serves : Serves s 0x16 tag (num1 p.val ++ axesBytes a))
    (takes : s.lenses[p].state = .idle ∨ s.lenses[p].state = .moving ∨ s.lenses[p].state = .homing)
    (free : s.seq.state.inService = false)
    (move : m = ⟨.seek, ⟨a.focus.map (min 4095), a.iris, a.zoom.map (min 4095)⟩, 0, .host, none⟩)
    (whole : m.targets = a → status = .ok ∧ fields = [])
    (cut : m.targets ≠ a → status = .clamped ∧ fields = axesBytes m.targets) :
    exec .lensMove s = .next ((s.setPending p m).answer status fields).transmit := by
  rw [← clamped_fit fits] at move
  have targets : m.targets = a.clamped := by rw [move]
  have taken : s.takeMove p a = (s.setPending p m).answer status fields := by
    unfold State.takeMove
    rw [← move]
    by_cases same : a.clamped = a
    · obtain ⟨rfl, rfl⟩ := whole (targets.trans same)
      exact if_pos same
    · obtain ⟨rfl, rfl⟩ := cut (fun e => same (targets.symm.trans e))
      rw [targets]
      exact if_neg same
  have size : (num1 p.val ++ axesBytes a).length = 9 := by
    rw [List.length_append, num1_length, axesBytes_length]
  refine (serve_owner serves size State.lensMove).trans ?_
  simp only [State.lensMove, portAt_num1, axesOkAt_body, Bool.not_true, Bool.false_eq_true, if_false,
    seekRefused_free takes free, axesAt_body fits, fitKind_of (k := (s.profileOf p).lensKind) allowed, if_true, taken]

/-- A LENS_PRESET taken posts the preset's entry, for the axes that the lens has. -/
theorem lensPreset_takes {i : Fin 8} (serves : Serves s 0x17 tag (num1 p.val ++ num1 i.val))
    (takes : s.lenses[p].state = .idle ∨ s.lenses[p].state = .moving ∨ s.lenses[p].state = .homing)
    (free : s.seq.state.inService = false) :
    exec .lensPreset s = .next ((s.setPending p (s.presetMove p i .host)).answer .ok []).transmit := by
  have index : finAt (num1 p.val ++ num1 i.val) 1 8 = some i := by
    rw [finAt, numAt_second (by have := i.isLt; omega)]
    exact dif_pos i.isLt
  refine (serve_owner serves (by simp) State.lensPreset).trans ?_
  simp only [State.lensPreset, portAt_num1, index, seekRefused_free takes free]
  rfl

/-- The move that a preset makes, by its fields (R117). -/
theorem presetMove_of {i : Fin 8} {e : PresetEntry} (entry : e = s.settings.presets[p][i]) (kind : m.kind = .seek)
    (settle : m.settle = e.settle) (origin : m.origin = .host) (preset : m.preset = some i)
    (focus : m.targets.focus = some e.focus) (iris : DrivesIris s.settings.ports[p].lensKind → m.targets.iris = e.iris)
    (noIris : ¬ DrivesIris s.settings.ports[p].lensKind → m.targets.iris = none)
    (zoom : DrivesZoom s.settings.ports[p].lensKind → m.targets.zoom = e.zoom)
    (noZoom : ¬ DrivesZoom s.settings.ports[p].lensKind → m.targets.zoom = none) : m = s.presetMove p i .host := by
  have hasIris : m.targets.iris = if (s.profileOf p).lensKind.hasIris then e.iris else none := by
    split
    · next has => exact iris ((hasIris_iff _).mp has)
    · next lacks => exact noIris (fun drives => lacks ((hasIris_iff _).mpr drives))
  have hasZoom : m.targets.zoom = if (s.profileOf p).lensKind.hasZoom then e.zoom else none := by
    split
    · next has => exact zoom ((hasZoom_iff _).mp has)
    · next lacks => exact noZoom (fun drives => lacks ((hasZoom_iff _).mpr drives))
  obtain ⟨k, ⟨f, i, z⟩, n, o, r⟩ := m
  simp only at kind settle origin preset focus hasIris hasZoom
  subst kind settle origin preset focus hasIris hasZoom entry
  rfl

theorem lensHome_takes (serves : Serves s 0x19 tag (num1 p.val)) (present : s.lenses[p].state ≠ .absent) :
    exec .lensHome s = .next ((s.setPending p ⟨.home, {}, 0, .host, none⟩).answer .ok []).transmit := by
  refine (serve_owner serves (num1_length _) State.lensHome).trans ?_
  simp only [State.lensHome, portAt_num1_only, if_neg present]
  rfl

end Sys2Proof.Capture
end

section
/-!
PROOFS. The moves of a plan (R67, R68, R122, R123): the slots of a port by their offsets, the presets posted at a cycle's start and
at the close of an exposure window, and the fit test in service.
-/

namespace Sys2Proof.Capture

open Sys2Proof.Machine Sys2Proof.Safety Sys2Proof.Power

variable {s : State} {p : Port} {m : Move} {q : Plan} {r : Sequencer}

/-! ## The slots of a port -/

theorem slots_of_plan (loaded : r.plan = some q) : r.slots = q.slots := by
  unfold Sequencer.slots
  rw [loaded]

theorem mem_slotsOf {j : Fin 4 × Slot} : j ∈ r.slotsOf p ↔ r.slots[j.1.val]? = some j.2 ∧ j.2.marks p = true := by
  obtain ⟨n, k⟩ := j
  have every : n ∈ ([0, 1, 2, 3] : List (Fin 4)) := by fin_cases n <;> decide
  simp only [Sequencer.slotsOf, Sequencer.numbered, List.mem_filter, List.mem_filterMap, Option.map_eq_some_iff, Prod.mk.injEq]
  constructor
  · rintro ⟨⟨_, -, _, found, rfl, rfl⟩, marks⟩
    exact ⟨found, marks⟩
  · rintro ⟨found, marks⟩
    exact ⟨⟨n, every, k, found, rfl, rfl⟩, marks⟩

/-- A slot of a plan of at most four has its number. -/
theorem slot_numbered (loaded : r.plan = some q) (few : q.slots.length ≤ 4) {k : Slot} (mem : k ∈ q.slots)
    (marks : k.marks p = true) : ∃ n : Fin 4, (n, k) ∈ r.slotsOf p := by
  obtain ⟨i, small, rfl⟩ := List.getElem_of_mem mem
  refine ⟨⟨i, Nat.lt_of_lt_of_le small few⟩, mem_slotsOf.mpr ⟨?_, marks⟩⟩
  rw [slots_of_plan loaded]
  exact List.getElem?_eq_getElem small

theorem slotsOf_mem (loaded : r.plan = some q) {j : Fin 4 × Slot} (mem : j ∈ r.slotsOf p) : j.2 ∈ q.slots := by
  have found := (mem_slotsOf.mp mem).1
  rw [slots_of_plan loaded] at found
  exact List.mem_of_getElem? found

/-- The earliest slot of some is one of them, with none before it. -/
theorem earliestSlot_spec : ∀ {ks : List (Fin 4 × Slot)}, ks ≠ [] →
    ∃ j, earliestSlot ks = some j ∧ j ∈ ks ∧ ∀ k ∈ ks, j.2.offset ≤ k.2.offset
  | [], some_slot => absurd rfl some_slot
  | k :: ks, _ => by
    by_cases last : ks = []
    · subst last
      exact ⟨k, rfl, List.mem_singleton_self k, fun o ho => by rw [List.mem_singleton.mp ho]⟩
    · obtain ⟨j, earliest, mem, before⟩ := earliestSlot_spec last
      by_cases earlier : j.2.offset < k.2.offset
      · refine ⟨j, by rw [earliestSlot, earliest]; exact if_pos earlier, List.mem_cons_of_mem _ mem, fun o ho => ?_⟩
        rcases List.mem_cons.mp ho with rfl | later
        · exact Nat.le_of_lt earlier
        · exact before o later
      · refine ⟨k, by rw [earliestSlot, earliest]; exact if_neg earlier, List.mem_cons_self, fun o ho => ?_⟩
        rcases List.mem_cons.mp ho with rfl | later
        · exact Nat.le_refl _
        · exact Nat.le_trans (Nat.not_lt.mp earlier) (before o later)

/-- The slot of a port that follows another, where the plan fixes it by its offset. -/
theorem slotAfter_eq (loaded : r.plan = some q) (few : q.slots.length ≤ 4) {slot : Fin 4} {k next : Slot}
    (current : q.slots[slot.val]? = some k) (mem : next ∈ q.slots) (marks : next.marks p = true) (later : k.offset < next.offset)
    (first : ∀ o ∈ q.slots, o.marks p = true → k.offset < o.offset → o = next ∨ next.offset < o.offset) :
    ∃ n, r.slotAfter p slot = some (n, next) := by
  obtain ⟨n, numbered⟩ := slot_numbered loaded few mem marks
  have some_slot : (n, next) ∈ (r.slotsOf p).filter (fun j => k.offset < j.2.offset) :=
    List.mem_filter.mpr ⟨numbered, decide_eq_true later⟩
  obtain ⟨j, earliest, follows, before⟩ := earliestSlot_spec (List.ne_nil_of_mem some_slot)
  obtain ⟨ofPort, past⟩ := List.mem_filter.mp follows
  have same : j.2 = next := (first j.2 (slotsOf_mem loaded ofPort) (mem_slotsOf.mp ofPort).2 (of_decide_eq_true past)).resolve_right
    (Nat.not_lt.mpr (before _ some_slot))
  refine ⟨j.1, ?_⟩
  unfold Sequencer.slotAfter Sequencer.slot?
  rw [slots_of_plan loaded, current, ← same]
  exact earliest

/-- A slot of a port with a preset bounds the earliest of them. -/
theorem firstPreset_le (loaded : r.plan = some q) (few : q.slots.length ≤ 4) {o : Slot} (mem : o ∈ q.slots)
    (marks : o.marks p = true) (preset : o.preset ≠ none) : ∃ j, r.firstPreset p = some j ∧ j.2.offset ≤ o.offset := by
  obtain ⟨n, numbered⟩ := slot_numbered loaded few mem marks
  have some_slot : (n, o) ∈ (r.slotsOf p).filter (fun k => k.2.preset.isSome) :=
    List.mem_filter.mpr ⟨numbered, Option.isSome_iff_ne_none.mpr preset⟩
  obtain ⟨j, earliest, -, before⟩ := earliestSlot_spec (List.ne_nil_of_mem some_slot)
  exact ⟨j, earliest, before _ some_slot⟩

/-- Where one slot alone names a preset, it is the first of each port that it marks. -/
theorem firstPreset_only (loaded : r.plan = some q) (few : q.slots.length ≤ 4) {first : Nat} {k : Slot}
    (found : q.slots[first]? = some k) (preset : k.preset ≠ none)
    (only : ∀ (j : Nat) (o : Slot), q.slots[j]? = some o → o.preset ≠ none → j = first) (o : Port) :
    (k.marks o = true → ∃ n, r.firstPreset o = some (n, k)) ∧ (k.marks o = false → r.firstPreset o = none) := by
  have named : ∀ j ∈ (r.slotsOf o).filter (fun j => j.2.preset.isSome), j.2 = k ∧ k.marks o = true := by
    intro j mem
    obtain ⟨ofPort, some_preset⟩ := List.mem_filter.mp mem
    obtain ⟨numbered, marks⟩ := mem_slotsOf.mp ofPort
    rw [slots_of_plan loaded] at numbered
    have place := only j.1.val j.2 numbered (Option.isSome_iff_ne_none.mp some_preset)
    rw [place, found] at numbered
    cases numbered
    exact ⟨rfl, marks⟩
  constructor
  · intro marks
    obtain ⟨n, numbered⟩ := slot_numbered loaded few (List.mem_of_getElem? found) marks
    obtain ⟨j, earliest, mem, -⟩ := earliestSlot_spec (List.ne_nil_of_mem (List.mem_filter.mpr
      ⟨numbered, Option.isSome_iff_ne_none.mpr preset⟩ : (n, k) ∈ (r.slotsOf o).filter (fun j => j.2.preset.isSome)))
    exact ⟨j.1, by rw [← (named j mem).1]; exact earliest⟩
  · intro unmarked
    have none_named : (r.slotsOf o).filter (fun j => j.2.preset.isSome) = [] :=
      List.eq_nil_iff_forall_not_mem.mpr (fun j mem => by
        have marks := (named j mem).2
        rw [unmarked] at marks
        cases marks)
    unfold Sequencer.firstPreset
    rw [none_named]
    rfl

/-! ## The posts of presets (R68, R118) -/

/-- A lens at rest away from a preset, with nothing pending, has the preset's move posted. -/
theorem postPreset_posts {i : Fin 8} (idle : s.lenses[p].state = .idle) (free : LensFree s p)
    (away : s.lenses[p].position.focus ≠ some s.settings.presets[p][i].focus) :
    s.postPreset p i = s.setPending p (s.presetMove p i .plan) := by
  obtain ⟨pending, -, -, -, flight, -⟩ := free
  have elsewhere : s.atPreset p i = false := by
    simp only [State.atPreset, decide_eq_false away, Bool.and_false, Bool.false_and]
  simp only [State.postPreset, idle, pending, flight, elsewhere, Option.any_none, Bool.or_self, Bool.false_eq_true, if_false]

/-- With no preset in the plan no slot is posted. -/
theorem postAfter_unset (unset : ∀ k ∈ s.seq.slots, k.preset = none) (p : Port) (slot : Fin 4) : s.postAfter p slot = s := by
  unfold State.postAfter
  extract_lets next
  rw [firstPreset_none unset]
  cases after : next with
  | none => exact if_pos rfl
  | some j =>
    have mem : j.2 ∈ s.seq.slots := by
      unfold next Sequencer.slotAfter at after
      split at after
      · cases after
      · next k _ =>
        by_cases later : (s.seq.slotsOf p).filter (fun j => k.offset < j.2.offset) = []
        · rw [later] at after
          cases after
        · obtain ⟨i, earliest, follows, -⟩ := earliestSlot_spec later
          rw [earliest] at after
          cases after
          exact List.mem_of_getElem? (mem_slotsOf.mp (List.mem_filter.mp follows).1).1
    rw [if_neg (fun e => by cases e)]
    simp only [State.postSlot, unset j.2 mem]

/-- Where one port's turn alone changes the state, the turns of all ports are that one. -/
theorem forPorts_one {f : Port → State → State} {P : State → Prop} {t : State} (p : Port) (before : P t) (after : P (f p t))
    (others : ∀ (o : Port) (u : State), o ≠ p → P u → f o u = u) :
    ∀ ps : List Port, ps.Nodup → p ∈ ps → State.forPorts f ps t = f p t
  | [], _, mem => by cases mem
  | o :: ps, distinct, mem => by
    obtain ⟨absent, rest⟩ := List.nodup_cons.mp distinct
    rcases List.mem_cons.mp mem with rfl | later
    · have still : ∀ (ps : List Port), p ∉ ps → State.forPorts f ps (f p t) = f p t := by
        intro ps
        induction ps with
        | nil => exact fun _ => rfl
        | cons a as ih =>
          intro away
          show State.forPorts f as (f a (f p t)) = _
          rw [others a _ (fun e => away (by rw [e]; exact List.mem_cons_self)) after]
          exact ih (fun h => away (List.mem_cons_of_mem _ h))
      exact still ps absent
    · show State.forPorts f ps (f o t) = f p t
      rw [others o t (fun e => absent (by rw [e]; exact later)) before]
      exact forPorts_one p before after others ps rest later

/-! ## The fit test in service (R122) -/

/-- What the fit test asks of a port of the plan that does not expose. -/
abbrev FitsPlan (s : State) (q : Plan) (p : Port) (m : Move) : Prop :=
  (q.mode = .lineTrigger ∧ s.seq.pending = none) ∨ (q.mode = .freeRun ∧
    ∀ at_, s.nextExposure p = some at_ → s.clock + (s.estimate p m + m.settle) * 1000 ≤ at_)

theorem fits_iff (loaded : s.seq.plan = some q) (service : s.seq.state.inService = true) (marks : s.seq.marks p = true)
    (unexposed : s.lanes[p].exposure = none) : s.fits p m = true ↔ FitsPlan s q p m := by
  have quiet : s.exposing p = false := by rw [State.exposing, unexposed]; rfl
  unfold State.fits
  rw [service, marks, quiet, freeRun_eq loaded]
  cases mode : q.mode with
  | lineTrigger => simp [FitsPlan, mode, State.triggerPending]
  | freeRun => cases next : s.nextExposure p <;> simp [FitsPlan, mode, next]

/-! ## The close of an exposure window (R40, R68, R123) -/

theorem exec_exposureWindowEnd {e : Exposure} (window : s.lanes[p].exposure = some e) (come : e.endAt ≤ s.clock) :
    exec (.exposureWindowEnd p) s = .next (s.exposureEnds p).transmit := by
  have due : s.exposureDue p = true := by simp only [State.exposureDue, window, come, decide_true]
  exact if_pos due

theorem waitingPorts_self : s.waitingPorts.filter (· = p) = if s.lenses[p].waitsWindow then [p] else [] := by
  unfold State.waitingPorts portsWhere
  rw [List.filter_filter]
  have alone : (fun o : Port => decide (o = p) && s.lenses[o].waitsWindow) =
      fun o => decide (o = p) && s.lenses[p].waitsWindow := by
    funext o
    by_cases e : o = p
    · rw [e]
    · rw [decide_eq_false e]; rfl
  rw [alone]
  cases s.lenses[p].waitsWindow with
  | false => simp
  | true =>
    simp only [Bool.and_true, if_true]
    fin_cases p <;> rfl

/-- With the bus taken, or nothing that waits for it, the bus takes up nothing. -/
theorem busPump_stands (h : s.lenses[p].bus.state ≠ .free ∨ (s.lenses[p].bus.waiting = [] ∧ s.lenses[p].toBegin = false)) :
    s.busPump p = s := by
  unfold State.busPump
  rcases h with taken | ⟨empty, unbegun⟩
  · exact if_neg taken
  · simp only [empty, unbegun, nextTxn, Bool.false_eq_true, if_false, ite_self]

/-- What remains to do when a window has closed and the lens has been served, where its bus takes up nothing. -/
theorem windowServed (f : Lens → Lens) (idle : s.sweeps.sweep = none)
    (bus : (f s.lenses[p]).bus.state ≠ .free ∨ ((f s.lenses[p]).bus.waiting = [] ∧ (f s.lenses[p]).toBegin = false)) :
    ((s.setLens p f).busPump p).sweepResume = s.setLens p f := by
  rw [busPump_stands (by rw [setLens_same]; exact bus)]
  exact sweepResume_idle idle

/-- A window closes on a lens whose move waits for it, with no preset to post: the move is tested. -/
theorem exposureEnds_tests {e : Exposure} (window : s.lanes[p].exposure = some e) (waits : s.lenses[p].waitsWindow = true)
    (unset : ∀ k ∈ s.seq.slots, k.preset = none) :
    s.exposureEnds p = (((s.closeExposure p).fitOrWait p).busPump p).sweepResume := by
  have tested : (s.closeExposure p).waitsEnd [p] = (s.closeExposure p).fitOrWait p := if_pos waits
  simp only [State.exposureEnds, window, postAfter_unset (s := s.closeExposure p) unset, ite_self, waitingPorts_self, waits,
    if_true, tested]

/-- A window closes on a lens with no move that waits for it: the preset of the port's next slot is posted. -/
theorem exposureEnds_posts {e : Exposure} {c : Cycle} {i : Fin 8} {n : Fin 4} {next : Slot}
    (window : s.lanes[p].exposure = some e) (service : s.seq.state.inService = true) (current : s.seq.current = some c)
    (number : c.number = e.cycle) (waits : s.lenses[p].waitsWindow = false) (after : s.seq.slotAfter p e.slot = some (n, next))
    (unposted : s.seq.firstPreset p ≠ some (n, next)) (preset : next.preset = some i) :
    s.exposureEnds p = ((((s.closeExposure p).postPreset p i)).busPump p).sweepResume := by
  have posts : (s.closeExposure p).postAfter p e.slot = (s.closeExposure p).postPreset p i := by
    unfold State.postAfter
    rw [show (s.closeExposure p).seq.slotAfter p e.slot = _ from after]
    refine (if_neg (fun same => unposted same.symm)).trans ?_
    simp only [State.postSlot, preset]
  have runs : ((s.closeExposure p).seq.state.inService && (s.closeExposure p).seq.current.any
      (fun c => c.number = e.cycle)) = true := by
    show (s.seq.state.inService && s.seq.current.any _) = true
    rw [service, current, Bool.true_and, Option.any_some, decide_eq_true_eq]
    exact number
  simp only [State.exposureEnds, window, runs, if_true, posts, waitingPorts_self, waits, Bool.false_eq_true, if_false]
  rfl

end Sys2Proof.Capture
end

section
/-!
PROOFS. The bounds of an estimate (R121) and the table of the exposure forecast (R67).
-/

namespace Sys2Proof.Capture

open Sys2Proof.Machine Sys2Proof.Safety Sys2Proof.Power

variable {s : State} {p : Port} {m : Move} {q : Plan} {r : Sequencer}

/-! ## The estimate as the least whole number of ms (R121) -/

theorem ceilDiv_le_iff {a b n : Nat} (some_speed : 1 ≤ b) : ceilDiv a b ≤ n ↔ a ≤ n * b := by
  rw [ceilDiv, Nat.div_le_iff_le_mul_add_pred some_speed, Nat.mul_comm n b]
  omega

theorem homeTime_le_iff {has : Bool} {position : Option Nat} {range speed n : Nat} (some_speed : 1 ≤ speed) :
    homeTime has position range speed ≤ n ↔ (has = true → position.getD range ≤ n * speed) := by
  cases has with
  | false => simp [homeTime]
  | true => simp [homeTime, ceilDiv_le_iff some_speed]

theorem axisTime_le_iff {position target : Option Nat} {speed n : Nat} (some_speed : 1 ≤ speed) :
    axisTime position target speed ≤ n ↔
      ∀ x y, position = some x → target = some y → (x - y) + (y - x) ≤ n * speed := by
  cases position <;> cases target <;> simp [axisTime, stepsApart, ceilDiv_le_iff some_speed]

/-- The three speeds of a port's axes are at least 1. -/
structure Moves (f : PortProfile) : Prop where
  focus : 1 ≤ f.focusSpeed
  iris : 1 ≤ f.irisSpeed
  zoom : 1 ≤ f.zoomSpeed

theorem estimate_home_le_iff (moves : Moves s.settings.ports[p]) (home : m.kind = .home) {n : Nat} : s.estimate p m ≤ n ↔
    (s.settings.ports[p].lensKind ≠ .none →
      s.lenses[p].position.focus.getD 4095 ≤ n * s.settings.ports[p].focusSpeed) ∧
    (DrivesIris s.settings.ports[p].lensKind → s.lenses[p].position.iris.getD 255 ≤ n * s.settings.ports[p].irisSpeed) ∧
    (DrivesZoom s.settings.ports[p].lensKind → s.lenses[p].position.zoom.getD 4095 ≤ n * s.settings.ports[p].zoomSpeed) := by
  unfold State.estimate State.profileOf
  simp only [home, max_le_iff, homeTime_le_iff moves.focus, homeTime_le_iff moves.iris, homeTime_le_iff moves.zoom,
    hasFocus_iff, hasIris_iff, hasZoom_iff]

theorem estimate_seek (seek : m.kind = .seek) (covered : s.lenses[p].position.covers m.targets = true) : s.estimate p m =
    max (axisTime s.lenses[p].position.focus m.targets.focus s.settings.ports[p].focusSpeed)
      (max (axisTime s.lenses[p].position.iris m.targets.iris s.settings.ports[p].irisSpeed)
        (axisTime s.lenses[p].position.zoom m.targets.zoom s.settings.ports[p].zoomSpeed)) := by
  simp only [State.estimate, seek, covered, if_true, State.profileOf]

theorem estimate_seek_le_iff (moves : Moves s.settings.ports[p]) (seek : m.kind = .seek)
    (covered : s.lenses[p].position.covers m.targets = true) {n : Nat} : s.estimate p m ≤ n ↔
    (∀ x y, s.lenses[p].position.focus = some x → m.targets.focus = some y →
      (x - y) + (y - x) ≤ n * s.settings.ports[p].focusSpeed) ∧
    (∀ x y, s.lenses[p].position.iris = some x → m.targets.iris = some y →
      (x - y) + (y - x) ≤ n * s.settings.ports[p].irisSpeed) ∧
    (∀ x y, s.lenses[p].position.zoom = some x → m.targets.zoom = some y →
      (x - y) + (y - x) ≤ n * s.settings.ports[p].zoomSpeed) := by
  rw [estimate_seek seek covered]
  simp only [max_le_iff, axisTime_le_iff moves.focus, axisTime_le_iff moves.iris, axisTime_le_iff moves.zoom]

/-! ## The exposure forecast by its table (R67) -/

theorem least_spec : ∀ {ns : List Nat}, ns ≠ [] → ∃ n, least ns = some n ∧ n ∈ ns ∧ ∀ k ∈ ns, n ≤ k
  | [], some_number => absurd rfl some_number
  | n :: ns, _ => by
    by_cases last : ns = []
    · subst last
      exact ⟨n, rfl, List.mem_singleton_self n, fun k hk => by rw [List.mem_singleton.mp hk]⟩
    · obtain ⟨a, lowest, mem, below⟩ := least_spec last
      refine ⟨min n a, by rw [least, lowest], ?_, fun k hk => ?_⟩
      · rcases min_choice n a with e | e
        · rw [e]; exact List.mem_cons_self
        · rw [e]; exact List.mem_cons_of_mem _ mem
      · rcases List.mem_cons.mp hk with rfl | later
        · exact Nat.min_le_left _ _
        · exact Nat.le_trans (Nat.min_le_right _ _) (below k later)

/-- The least offset of some slots is that of a slot among them that none precedes. -/
theorem leastOffset_eq {ks : List (Fin 4 × Slot)} {j : Fin 4 × Slot} (mem : j ∈ ks)
    (before : ∀ o ∈ ks, j.2.offset ≤ o.2.offset) : least (ks.map (·.2.offset)) = some j.2.offset := by
  have offset : j.2.offset ∈ ks.map (·.2.offset) := List.mem_map_of_mem mem
  obtain ⟨n, lowest, found, below⟩ := least_spec (List.ne_nil_of_mem offset)
  obtain ⟨o, ho, rfl⟩ := List.mem_map.mp found
  rw [lowest, Nat.le_antisymm (below _ offset) (before o ho)]

/-- The slots of a port that the current cycle has still to dispatch. -/
def undispatched (r : Sequencer) (p : Port) : List (Fin 4 × Slot) :=
  (r.slotsOf p).filter (fun k => match r.current with
    | none => false
    | some c => !c.dispatched.contains k.1)

theorem mem_undispatched {c : Cycle} (current : r.current = some c) {j : Fin 4 × Slot} :
    j ∈ undispatched r p ↔ j ∈ r.slotsOf p ∧ j.1 ∉ c.dispatched := by
  simp [undispatched, current]

theorem undispatched_nil (all : ∀ c, r.current = some c → ∀ j ∈ r.slotsOf p, j.1 ∈ c.dispatched) :
    undispatched r p = [] := by
  refine List.eq_nil_iff_forall_not_mem.mpr (fun j mem => ?_)
  cases current : r.current with
  | none => simp [undispatched, current] at mem
  | some c =>
    obtain ⟨ofPort, left⟩ := (mem_undispatched current).mp mem
    exact left (all c current j ofPort)

/-- With no plan in service, or none that marks the port, it has no next exposure. -/
theorem nextExposure_none (away : s.seq.state.inService = false ∨ s.seq.marks p = false) : s.nextExposure p = none := by
  have outside : (!s.seq.state.inService || !s.seq.marks p) = true := by
    rcases away with h | h <;> simp [h]
  exact if_pos outside

/-- The port is of the plan in service. -/
structure Forecasts (s : State) (p : Port) : Prop where
  service : s.seq.state.inService = true
  marks : s.seq.marks p = true

theorem nextExposure_held (of_plan : Forecasts s p) {g : PendingTrigger} (pending : s.seq.pending = some g)
    (held : g.held = true) : s.nextExposure p = some s.clock := by
  obtain ⟨service, marks⟩ := of_plan
  simp only [State.nextExposure, service, marks, pending, held, Bool.not_true, Bool.or_self, Bool.false_eq_true, if_false, if_true]

/-- The forecast from the next expiry of the period. -/
def expiryForecast (s : State) (p : Port) : Option Time :=
  if s.seq.freeRun && s.seq.state != .stopping then
    match s.seq.nextExpiry, least ((s.seq.slotsOf p).map (·.2.offset)) with
    | some t, some o => some (t + o)
    | _, _ => none
  else none

/-- The forecast of a port of the plan in service while no trigger is held. -/
def exposureForecast (s : State) (p : Port) : Option Time :=
  match s.seq.current, least ((undispatched s.seq p).map (·.2.offset)) with
  | some c, some o => some (c.start + o)
  | _, _ => expiryForecast s p

theorem nextExposure_unheld (of_plan : Forecasts s p) (unheld : ∀ g, s.seq.pending = some g → g.held = false) :
    s.nextExposure p = exposureForecast s p := by
  have ofPlan : ¬ (!s.seq.state.inService || !s.seq.marks p) = true := by simp [of_plan.service, of_plan.marks]
  refine (if_neg ofPlan).trans ((if_neg ?_).trans rfl)
  cases pending : s.seq.pending with
  | none => simp
  | some g => simp [unheld g pending]

theorem exposureForecast_current {c : Cycle} (current : s.seq.current = some c) {j : Fin 4 × Slot}
    (mem : j ∈ undispatched s.seq p) (before : ∀ o ∈ undispatched s.seq p, j.2.offset ≤ o.2.offset) :
    exposureForecast s p = some (c.start + j.2.offset) := by
  unfold exposureForecast
  rw [current, leastOffset_eq mem before]

theorem exposureForecast_dispatched (dispatched : undispatched s.seq p = []) : exposureForecast s p = expiryForecast s p := by
  unfold exposureForecast
  rw [dispatched]
  cases s.seq.current <;> rfl

theorem expiryForecast_none (loaded : s.seq.plan = some q) (ends : q.mode = .lineTrigger ∨ s.seq.state = .stopping) :
    expiryForecast s p = none := by
  refine if_neg ?_
  rw [freeRun_eq loaded]
  rcases ends with h | h <;> simp [h]

theorem expiryForecast_free (loaded : s.seq.plan = some q) (free : q.mode = .freeRun) (runs : s.seq.state ≠ .stopping)
    {expiry : Time} (next : s.seq.nextExpiry = some expiry) {j : Fin 4 × Slot} (mem : j ∈ s.seq.slotsOf p)
    (before : ∀ o ∈ s.seq.slotsOf p, j.2.offset ≤ o.2.offset) : expiryForecast s p = some (expiry + j.2.offset) := by
  refine (if_pos ?_).trans ?_
  · simp [freeRun_eq loaded, free, runs]
  · rw [next, leastOffset_eq mem before]

theorem marks_iff (loaded : r.plan = some q) : r.marks p = true ↔ ∃ k ∈ q.slots, k.marks p = true := by
  rw [Sequencer.marks, slots_of_plan loaded, List.any_eq_true]

/-- A slot of a port as the list of its slots holds it. -/
theorem mem_slotsOf_plan (loaded : r.plan = some q) {j : Fin 4} {k : Slot} :
    (j, k) ∈ r.slotsOf p ↔ q.slots[j.val]? = some k ∧ k.marks p = true := by
  rw [mem_slotsOf, slots_of_plan loaded]

end Sys2Proof.Capture
end

section
/-!
PROOFS. A plan's moves at the close of an exposure window and at a cycle's start (R63, R68, R122, R123).
-/

namespace Sys2Proof.Capture

open Sys2Proof.Machine Sys2Proof.Safety Sys2Proof.Power

variable {s : State} {p : Port} {m : Move} {q : Plan}

/-! ## A port's lens at the close of a window (R68, R122, R123) -/

theorem closeExposure_unexposed (s : State) (p : Port) : (s.closeExposure p).lanes[p].exposure = none :=
  congrArg Lane.exposure (upd_same _ _ _)

theorem surgeFits_closed : SurgeFits s p → SurgeFits (s.closeExposure p) p := fun ⟨unclaimed, normal, covers⟩ =>
  have same : (s.closeExposure p).committed = s.committed := committed_congr rfl (fun _ => rfl) (fun _ => rfl) rfl rfl
  ⟨unclaimed, normal, by rw [same]; exact covers⟩

/-- A lens that holds no claim and is granted one at once has its surge fit. -/
theorem surge_of_grants (grants : Grants s p) (free : LensFree s p) : SurgeFits s p := by
  obtain ⟨-, -, -, unclaimed, -⟩ := free
  exact grants.elim (fun granted => absurd (unclaimed.symm.trans granted) LensClaim.noConfusion) And.right

/-- A move that waits for the window is tested at its close. -/
theorem exposureEnds_waiting {e : Exposure} (window : s.lanes[p].exposure = some e) (idle : s.sweeps.sweep = none)
    (ready : Ready (s.closeExposure p) p m) (grants : Grants (s.closeExposure p) p) (waits : s.lenses[p].waitsWindow = true)
    (pending : s.lenses[p].pending = some m) (unset : ∀ k ∈ s.seq.slots, k.preset = none) :
    (¬ (s.closeExposure p).fits p m = true → s.lenses[p].waits < 8 →
      s.exposureEnds p = (s.closeExposure p).setLens p moveWaits) ∧
    ((s.closeExposure p).fits p m = true ∨ 8 ≤ s.lenses[p].waits →
      s.exposureEnds p = (s.closeExposure p).setLens p (moveBegun s p m)) := by
  have bus : s.lenses[p].bus = _ := ready.bus
  rw [exposureEnds_tests window waits unset]
  refine ⟨fun unfit few => ?_, fun passes => ?_⟩
  · rw [fitOrWait_waits (s := s.closeExposure p) pending few unfit]
    exact windowServed _ idle (.inr ⟨congrArg Bus.waiting bus, rfl⟩)
  · rw [fitOrWait_begins ready grants pending passes.symm]
    exact windowServed _ idle (.inl BusState.noConfusion)

/-- A preset posted at the close becomes a move that begins or waits. -/
theorem exposureEnds_posting {e : Exposure} {c : Cycle} {i : Fin 8} {n : Fin 4} {next : Slot} (idle : s.sweeps.sweep = none)
    (rests : Rests s p) (state : s.lenses[p].state = .idle) (ready : Ready (s.closeExposure p) p m)
    (surge : SurgeFits (s.closeExposure p) p)
    (window : s.lanes[p].exposure = some e) (service : s.seq.state.inService = true) (current : s.seq.current = some c)
    (number : c.number = e.cycle) (after : s.seq.slotAfter p e.slot = some (n, next))
    (unposted : s.seq.firstPreset p ≠ some (n, next)) (preset : next.preset = some i)
    (away : s.lenses[p].position.focus ≠ some s.settings.presets[p][i].focus) (move : m = s.presetMove p i .plan) :
    (¬ (s.closeExposure p).fits p m = true →
      s.exposureEnds p = (s.closeExposure p).setLens p (fun l => moveWaits (posted m l))) ∧
    ((s.closeExposure p).fits p m = true → s.exposureEnds p = (s.closeExposure p).setLens p (moveBegun s p m)) := by
  have bus : s.lenses[p].bus = _ := ready.bus
  have closed : Rests (s.closeExposure p) p := ⟨rests.still, rests.on, rests.free⟩
  have unwaiting : s.lenses[p].waitsWindow = false := by
    obtain ⟨-, stage, -⟩ := rests.free
    rw [Lens.waitsWindow, stage]
    rfl
  have posts : (s.closeExposure p).postPreset p i = (s.closeExposure p).setPending p m := by
    rw [move]
    exact postPreset_posts (s := s.closeExposure p) state rests.free away
  rw [exposureEnds_posts window service current number unwaiting after unposted preset, posts]
  refine ⟨fun unfit => ?_, fun fits => ?_⟩
  · rw [setPending_waits closed unfit]
    exact windowServed _ idle (.inr ⟨congrArg Bus.waiting bus, rfl⟩)
  · rw [setPending_begins closed ready surge fits]
    exact windowServed _ idle (.inl BusState.noConfusion)

/-! ## A port's lens at a cycle's start (R63, R68) -/

theorem cycleBegun_committed (armed : s.seq.state = .armed) (plan : Plan) (now : Time) (delayed : Bool) :
    (s.setSeq (cycleBegun plan now delayed)).committed ≤ s.committed := by
  refine committed_le rfl (fun _ => id) (fun _ => id) (Nat.le_of_eq ?_)
  have service : s.seq.state.inService = true := by rw [armed]; rfl
  unfold State.strobePart
  rw [service]
  rfl

/-- Where one slot alone names a preset, and marks one port alone, that port's turn is all that the posts of a cycle do. -/
theorem postSlots_one {i : Fin 8} {first : Nat} {k : Slot} {f : Lens → Lens} (loaded : s.seq.plan = some q)
    (few : q.slots.length ≤ 4) (found : q.slots[first]? = some k) (preset : k.preset = some i)
    (marks : ∀ o : Port, k.marks o = true ↔ o = p)
    (only : ∀ (j : Nat) (o : Slot), q.slots[j]? = some o → o.preset ≠ none → j = first)
    (posts : s.postPreset p i = s.setLens p f) :
    State.forPorts (fun p u => u.postSlot p (u.seq.firstPreset p)) allPorts s = s.setLens p f := by
  have named : k.preset ≠ none := by rw [preset]; exact Option.some_ne_none i
  have turn : s.postSlot p (s.seq.firstPreset p) = s.setLens p f := by
    obtain ⟨n, earliest⟩ := (firstPreset_only loaded few found named only p).1 ((marks p).mpr rfl)
    rw [earliest, ← posts]
    simp only [State.postSlot, preset]
  refine (forPorts_one (P := fun u => u.seq.plan = some q) p loaded ?_ (fun o u other plan => ?_) allPorts (by decide)
    (mem_allPorts p)).trans turn
  · show (s.postSlot p (s.seq.firstPreset p)).seq.plan = some q
    rw [turn]
    exact loaded
  · have unmarked : k.marks o = false := Bool.eq_false_iff.mpr (fun h => other ((marks o).mp h))
    rw [(firstPreset_only plan few found named only o).2 unmarked]
    rfl

/-- A cycle begins with the move of that port. -/
theorem beginCycle_moves {i : Fin 8} {first : Nat} {k : Slot} (loaded : s.seq.plan = some q) (line : q.mode = .lineTrigger)
    (armed : s.seq.state = .armed) (ofPlan : s.seq.marks p = true) (idle : s.sweeps.sweep = none)
    (small : s.seq.cycleCounter < 18446744073709551615) (few : q.slots.length ≤ 4) (found : q.slots[first]? = some k)
    (preset : k.preset = some i) (marks : ∀ o : Port, k.marks o = true ↔ o = p)
    (only : ∀ (j : Nat) (o : Slot), q.slots[j]? = some o → o.preset ≠ none → j = first)
    (rests : Rests s p) (state : s.lenses[p].state = .idle) (ready : Ready s p m) (surge : SurgeFits s p)
    (away : s.lenses[p].position.focus ≠ some s.settings.presets[p][i].focus) (move : m = s.presetMove p i .plan) :
    s.beginCycle false = (s.setSeq (cycleBegun q s.clock false)).setLens p (moveBegun s p m) := by
  obtain ⟨unclaimed, normal, covers⟩ := surge
  have fits : (s.setSeq (cycleBegun q s.clock false)).fits p m = true :=
    (fits_iff (s := s.setSeq (cycleBegun q s.clock false)) loaded rfl ofPlan ready.unexposed).mpr (.inl ⟨line, rfl⟩)
  have begins : (s.setSeq (cycleBegun q s.clock false)).setPending p m =
      (s.setSeq (cycleBegun q s.clock false)).setLens p (moveBegun s p m) :=
    setPending_begins (s := s.setSeq (cycleBegun q s.clock false)) ⟨rests.still, rests.on, rests.free⟩
      ⟨ready.covered, ready.unexposed, ready.bus⟩
      ⟨unclaimed, normal, Nat.le_trans (Nat.add_le_add_right (cycleBegun_committed armed _ _ _) _) covers⟩ fits
  have posts : (s.setSeq (cycleBegun q s.clock false)).postPreset p i =
      (s.setSeq (cycleBegun q s.clock false)).setLens p (moveBegun s p m) := by
    rw [← begins, move]
    exact postPreset_posts (s := s.setSeq (cycleBegun q s.clock false)) state rests.free away
  rw [beginCycle_posts loaded small, postSlots_one (s := s.setSeq (cycleBegun q s.clock false)) loaded few found preset marks
    only posts]
  exact sweepResume_idle idle

end Sys2Proof.Capture
end

section
/-!
PROOFS. What O41 says of a request, of a plan's moves, of an estimate and of a forecast.
-/

namespace Sys2Proof.Capture

open Sys2Proof.Machine Sys2Proof.Safety Sys2Proof.Power

/-- A lens at rest with nothing pending that begins a move, by the fields that change. -/
theorem moveBegun_rested {s : State} {p : Port} {m : Move} (free : LensFree s p) :
    moveBegun s p m s.lenses[p] = { s.lenses[p] with
      state := if m.kind = MoveKind.seek then LensState.moving else LensState.homing
      waits := 0
      claim := .granted
      flight := some ⟨m, s.estimate p m, s.clock + moveDeadline m.kind (s.estimate p m), s.clock + 10000, false, none⟩
      counts := { s.lenses[p].counts with begun := sat32 s.lenses[p].counts.begun }
      bus := ⟨.hub, some ⟨.motion, 0, motionBytes m⟩, []⟩ } := by
  obtain ⟨pending, stage, toBegin, -⟩ := free
  simp only [moveBegun, ← pending, ← stage, ← toBegin]

/-- A lens with a pending move that waits on, by the fields that change. -/
theorem moveWaits_pending {l : Lens} {m : Move} (pending : l.pending = some m) : moveWaits l = { l with
    pending := some m
    stage := .windowWait
    toBegin := false
    waits := l.waits + 1
    counts := { l.counts with waits := sat32 l.counts.waits } } := by
  simp only [moveWaits, ← pending]

/-- The bound on an axis that a seek moves, over the pairs that name it. -/
theorem forall_axis {position target : Option Nat} {g : Nat → Nat → Nat} {speed n : Nat} :
    (∀ a : Nat × Nat, (∃ x y, position = some x ∧ target = some y ∧ a = (g x y, speed)) → a.1 ≤ n * a.2) ↔
      ∀ x y, position = some x → target = some y → g x y ≤ n * speed :=
  ⟨fun h x y hx hy => h _ ⟨x, y, hx, hy, rfl⟩, fun h _ ⟨x, y, hx, hy, e⟩ => by rw [e]; exact h x y hx hy⟩

/-- Settles O41: a request and a post each make a move pending, the move is tested, and it begins or waits. -/
theorem lensMovesBeginOrPend : Obligations.LensMovesBeginOrPend := by
  refine ⟨fun s tag p c m status fields idle requested => ?_,
    fun s u p m q c waits fits begun loaded ofPlan unswept bus on state flight halt grants covered begins => ⟨?_, ?_⟩,
    fun s p m f at_ axes profile position focus iris zoom ofMove => ?_,
    fun s p => ⟨fun away => ?_, fun q loaded => ⟨?_, ?_⟩⟩⟩
  · have free : s.seq.state.inService = false := by rcases idle with e | e <;> rw [e] <;> rfl
    have takes : exec c s = .next ((s.setPending p m).answer status fields).transmit := by
      rcases requested with ⟨a, fit, allowed, serves, rfl, state, move, whole, cut⟩ |
        ⟨i, e, serves, rfl, state, entry, rfl, rfl, kind, settle, origin, preset, focus, iris, noIris, zoom, noZoom⟩ |
        ⟨serves, rfl, present, rfl, rfl, rfl⟩
      · exact lensMove_takes fit allowed serves state free move whole cut
      · rw [presetMove_of entry kind settle origin preset focus iris noIris zoom noZoom]
        exact lensPreset_takes serves state free
      · exact lensHome_takes serves present
    rw [takes]
    refine ⟨fun moving => ⟨fun clear => ?_, fun old pending unbegun => ?_⟩,
      fun unmoving unhoming on rests bus surge unexposed covered estimate deadline seeks homes => ?_⟩
    · rw [setPending_moving moving clear]
      rfl
    · rw [setPending_supersedes moving pending unbegun]
      rfl
    · have still : s.lenses[p].state.inMotion = false :=
        Bool.eq_false_iff.mpr (fun h => ((inMotion_iff _).mp h).elim unmoving unhoming)
      obtain ⟨rfl, rfl⟩ : estimate = s.estimate p m ∧ deadline = s.clock + moveDeadline m.kind (s.estimate p m) := by
        cases kind : m.kind with
        | seek =>
          obtain ⟨known, until_⟩ := seeks kind
          rw [← estimate_seek kind (covers_of (covered kind))] at known
          exact ⟨known, by rw [until_, known]; rfl⟩
        | home => exact homes kind
      have ready : Ready s p m := ⟨fun seek => covers_of (covered seek), unexposed, bus⟩
      rw [setPending_begins ⟨still, on, rests⟩ ready surge (fits_free free m)]
      exact congrArg (fun u : State => Host.Outcome.next (u.answer status fields).transmit)
        (setLens_congr (moveBegun_rested rests))
  · intro e isEnd window come closed service fitsIff waiting
    subst isEnd closed
    obtain rfl : begun = moveBegun s p m := funext begins
    have ready : Ready (s.closeExposure p) p m :=
      ⟨fun seek => covers_of (covered seek), closeExposure_unexposed s p, bus⟩
    have inService : s.seq.state.inService = true := (inService_iff _).mpr service
    have passes : fits ↔ (s.closeExposure p).fits p m = true :=
      fitsIff.trans (fits_iff (s := s.closeExposure p) loaded inService ofPlan (closeExposure_unexposed s p)).symm
    rw [exec_exposureWindowEnd window come, passes]
    rcases waiting with ⟨stage, unbegun, pending, rfl, unset⟩ | ⟨free, rfl, cycle, j, k, next, i, current, number, few, atSlot,
      atNext, marks, later, preset, first, ⟨o, mem, ofPort, named, before⟩, away, move⟩
    · have waits : s.lenses[p].waitsWindow = true := by rw [Lens.waitsWindow, stage, unbegun]; rfl
      obtain ⟨holds, goes⟩ := exposureEnds_waiting window unswept ready (grants.imp id (And.imp id surgeFits_closed)) waits
        pending (by rw [slots_of_plan loaded]; exact unset)
      refine ⟨fun unfit fewWaits => ?_, fun passed => by rw [goes passed]; rfl⟩
      rw [holds unfit fewWaits]
      exact congrArg (fun u : State => Host.Outcome.next u.transmit)
        (setLens_congr (s := s.closeExposure p) (moveWaits_pending pending))
    · obtain ⟨n, after⟩ := slotAfter_eq loaded few atSlot (List.mem_of_getElem? atNext) marks later first
      have unposted : s.seq.firstPreset p ≠ some (n, next) := fun posted => by
        obtain ⟨j, earliest, le⟩ := firstPreset_le loaded few mem ofPort named
        rw [posted] at earliest
        cases earliest
        exact Nat.not_le.mpr before le
      have still : s.lenses[p].state.inMotion = false := by rw [state]; rfl
      have surge := surgeFits_closed (surge_of_grants grants free)
      obtain ⟨holds, goes⟩ := exposureEnds_posting unswept ⟨still, on, free⟩ state ready surge window inService current number
        after unposted preset away move
      exact ⟨fun unfit _ => by rw [holds unfit]; rfl,
        fun passed => by rw [goes (passed.resolve_right (by decide))]; rfl⟩
  · rintro edge first k i rfl line takes armed clear loud small unexposed free few found preset marks only away move
    obtain rfl : begun = moveBegun s p m := funext begins
    have still : s.lenses[p].state.inMotion = false := by rw [state]; rfl
    have runs : RunsOnEdge s edge := ⟨q, loaded, line, takes⟩
    have ready : Ready s p m := ⟨fun seek => covers_of (covered seek), unexposed, bus⟩
    rw [(edge_starts runs).served (.inl armed), takeStart_started armed clear loud,
      beginCycle_moves loaded line armed ofPlan unswept small few found preset marks only ⟨still, on, free⟩ state ready
        (surge_of_grants grants free) away move]
    rfl
  · subst profile position
    have moves : Moves s.settings.ports[p] := ⟨focus, iris, zoom⟩
    have bound : ∀ n, s.estimate p m ≤ n ↔ ∀ a ∈ axes, a.1 ≤ n * a.2 := by
      intro n
      rcases ofMove with ⟨home, mem⟩ | ⟨seek, hasFocus, hasIris, hasZoom, mem⟩
      · rw [estimate_home_le_iff moves home]
        simp only [mem, or_imp, forall_and, and_imp, forall_eq_apply_imp_iff]
      · rw [estimate_seek_le_iff moves seek (covers_of ⟨hasFocus, hasIris, hasZoom⟩)]
        simp only [mem, or_imp, forall_and, forall_axis]
    exact ⟨(bound _).mp (Nat.le_refl _), fun n => (bound n).mpr⟩
  · rcases away with h | h | h
    · exact nextExposure_none (.inl (by rw [h]; rfl))
    · exact nextExposure_none (.inl (by rw [h]; rfl))
    · exact nextExposure_none (.inr (by simp [Sequencer.marks, Sequencer.slots, h]))
  · intro unmarked
    refine nextExposure_none (.inr (Bool.eq_false_iff.mpr (fun h => ?_)))
    obtain ⟨k, mem, marks⟩ := (marks_iff loaded).mp h
    rw [unmarked k mem] at marks
    cases marks
  · intro marked service
    have ofPlan : Forecasts s p := ⟨(inService_iff _).mpr service, (marks_iff loaded).mpr marked⟩
    refine ⟨fun g => nextExposure_held ofPlan, fun unheld => ?_⟩
    rw [nextExposure_unheld ofPlan unheld]
    refine ⟨fun c j k current atSlot marks left first => ?_, fun all => ?_⟩
    · exact exposureForecast_current current (j := (j, k))
        ((mem_undispatched current).mpr ⟨(mem_slotsOf_plan loaded).mpr ⟨atSlot, marks⟩, left⟩) (fun ⟨i, o⟩ mem => by
          obtain ⟨ofPort, still⟩ := (mem_undispatched current).mp mem
          obtain ⟨place, port⟩ := (mem_slotsOf_plan loaded).mp ofPort
          exact first i o place port still)
    · have none_left : undispatched s.seq p = [] := undispatched_nil (fun c current j mem =>
        have ⟨place, port⟩ := (mem_slotsOf_plan loaded).mp mem
        all c current j.1 j.2 place port)
      rw [exposureForecast_dispatched none_left]
      exact ⟨expiryForecast_none loaded, fun expiry j k free runs next atSlot marks first =>
        expiryForecast_free loaded free runs next (j := (j, k)) ((mem_slotsOf_plan loaded).mpr ⟨atSlot, marks⟩)
          (fun ⟨i, o⟩ mem => have ⟨place, port⟩ := (mem_slotsOf_plan loaded).mp mem; first i o place port)⟩

end Sys2Proof.Capture
end

section
/-!
PROOFS. The books of the frame store (R78 to R80): what each operation of the store's records and buffers leaves of
them.
-/

namespace Sys2Proof.FrameStore

open Sys2Proof.Machine Sys2Proof.Safety Sys2Proof.Power Sys2Proof.Reception

/-- The books of a store balance: `StoreSound`, said of the store alone. -/
structure Balanced (t : Store) : Prop where
  ids : (t.frames.map (·.id)).Nodup
  buffers : (t.frames.map (·.buffer)).Nodup
  list : t.freeList.Nodup
  free : ∀ b : Fin 48, t.buffers[b] = .free ↔ b ∈ t.freeList
  listed : ∀ b : Fin 48, b ∈ t.freeList ↔ b ∉ t.frames.map (·.buffer)

theorem storeSound_iff (s : State) : StoreSound s ↔ Balanced s.store := by
  have unheld : ∀ b : Fin 48, b ∉ s.store.frames.map (·.buffer) ↔ ∀ f ∈ s.store.frames, f.buffer ≠ b := by simp
  constructor
  · rintro ⟨ids, buffers, ⟨list, free⟩, listed⟩
    exact ⟨ids, buffers, list, free, fun b => (listed b).trans (unheld b).symm⟩
  · rintro ⟨ids, buffers, list, free, listed⟩
    exact ⟨ids, buffers, ⟨list, free⟩, fun b => (listed b).trans (unheld b)⟩

variable {t u : Store} {id : Nat} {f r : FrameRecord}

/-- The records, the buffers and the free list are all that the books are about. -/
theorem Balanced.of_same (h : Balanced t) (frames : u.frames = t.frames) (buffers : u.buffers = t.buffers)
    (list : u.freeList = t.freeList) : Balanced u := by
  obtain ⟨ids, held, once, free, listed⟩ := h
  rw [← list] at once free listed
  rw [← frames] at ids held listed
  rw [← buffers] at free
  exact ⟨ids, held, once, free, listed⟩

/-! ## The records that ids name -/

/-- An id names one record. -/
theorem Balanced.names_one (h : Balanced t) (found : t.frame? id = some f) (mem : r ∈ t.frames) (named : r.id = id) :
    r = f := by
  obtain ⟨held, name⟩ := Store.frame?_spec found
  exact List.inj_on_of_nodup_map h.ids mem held (named.trans name.symm)

/-- The buffer of a record is not FREE. -/
theorem Balanced.held (h : Balanced t) (mem : f ∈ t.frames) : t.buffers[f.buffer] ≠ .free := fun free =>
  (h.listed f.buffer).mp ((h.free f.buffer).mp free) (List.mem_map_of_mem mem)

/-- A buffer that a record holds goes to a state other than FREE. -/
theorem Balanced.move (h : Balanced t) {st : BufferState} (st_used : st ≠ .free) : Balanced (t.move id st) := by
  unfold Store.move
  cases found : t.frame? id with
  | none => exact h
  | some f =>
    have held := h.held (Store.frame?_spec found).1
    refine { h with free := fun b => ?_ }
    rw [upd_get, ← h.free b]
    split
    · next same => exact ⟨fun free => absurd free st_used, fun free => absurd free (same ▸ held)⟩
    · exact Iff.rfl

/-- Records changed in place keep their buffers, and their ids stay different. -/
theorem Balanced.mapFrames (h : Balanced t) {g : FrameRecord → FrameRecord}
    (buffer : ∀ r ∈ t.frames, (g r).buffer = r.buffer) (ids : (t.frames.map (fun r => (g r).id)).Nodup) :
    Balanced { t with frames := t.frames.map g } := by
  have same : (t.frames.map g).map (·.buffer) = t.frames.map (·.buffer) := by
    rw [List.map_map]
    exact List.map_congr_left buffer
  refine { h with ids := ?_, buffers := ?_, listed := ?_ }
  · rwa [List.map_map]
  · rw [same]
    exact h.buffers
  · rw [same]
    exact h.listed

/-- A record changed in place that keeps its id and buffer. -/
theorem Balanced.setFrame (h : Balanced t) {g : FrameRecord → FrameRecord}
    (keeps : ∀ r, (g r).id = r.id ∧ (g r).buffer = r.buffer) : Balanced (t.setFrame id g) := by
  refine h.mapFrames (fun r _ => ?_) ?_
  · split
    · exact (keeps r).2
    · rfl
  · rw [List.map_congr_left (g := fun r : FrameRecord => r.id)]
    · exact h.ids
    · intro r _
      split
      · exact (keeps r).1
      · rfl

/-- A record given another in its place, with its buffer, under its own id or one that names no record. -/
theorem Balanced.replace (h : Balanced t) (found : t.frame? id = some r) (buffer : f.buffer = r.buffer)
    (names : f.id = id ∨ f.id ∉ t.frames.map (·.id)) : Balanced (t.setFrame id (fun _ => f)) := by
  refine h.mapFrames (fun o mem => ?_) ?_
  · split
    · next named => rw [buffer, h.names_one found mem named]
    · rfl
  · refine (h.ids.of_map _).map_on (fun a ha b hb same => ?_)
    have unnamed : ∀ o ∈ t.frames, o.id ≠ id → f.id ≠ o.id := fun o mem other same => by
      rcases names with own | fresh
      · exact other (same.symm.trans own)
      · exact fresh (same ▸ List.mem_map_of_mem mem)
    by_cases first : a.id = id <;> by_cases second : b.id = id
    · exact (h.names_one found ha first).trans (h.names_one found hb second).symm
    · exact absurd (by simpa [first, second] using same) (unnamed b hb second)
    · exact absurd (by simpa [first, second] using same.symm) (unnamed a ha first)
    · exact List.inj_on_of_nodup_map h.ids ha hb (by simpa [first, second] using same)

/-! ## Freeing and opening (R78, R79, R82) -/

theorem Balanced.freed (h : Balanced t) : Balanced (t.free id) := by
  unfold Store.free
  cases found : t.frame? id with
  | none => exact h
  | some f =>
    obtain ⟨mem, named⟩ := Store.frame?_spec found
    have unlisted : f.buffer ∉ t.freeList := fun on => (h.listed _).mp on (List.mem_map_of_mem mem)
    have kept : (t.frames.filter (fun r => r.id ≠ id)).Sublist t.frames := List.filter_sublist
    refine ⟨h.ids.sublist (kept.map _), h.buffers.sublist (kept.map _), ?_, fun b => ?_, fun b => ?_⟩
    · exact List.nodup_append.mpr ⟨h.list, List.nodup_singleton _,
        by simpa using fun b on (same : b = f.buffer) => unlisted (same ▸ on)⟩
    · rw [upd_get, List.mem_append, List.mem_singleton, ← h.free b]
      split
      · next same => simp [same]
      · next other => simp [other]
    · rw [List.mem_append, List.mem_singleton, h.listed b]
      simp only [List.mem_map, List.mem_filter, decide_eq_true_eq, ne_eq, not_exists, not_and]
      constructor
      · rintro (unheld | rfl) r ⟨on, other⟩ same
        · exact unheld r on same
        · exact other (List.inj_on_of_nodup_map h.buffers on mem same ▸ named)
      · intro unheld
        by_cases same : b = f.buffer
        · exact .inr same
        · refine .inl (fun r on holds => unheld r ⟨on, fun name => same ?_⟩ holds)
          rw [← holds, h.names_one found on name]

theorem Balanced.freedAll : ∀ {ids : List Nat} {t : Store}, Balanced t → Balanced (t.freeAll ids)
  | [], _, h => h
  | _ :: ids, _, h => Balanced.freedAll (ids := ids) h.freed

theorem nextFrameId_lt (n : Nat) : nextFrameId n < 4294967296 := by
  unfold nextFrameId
  split <;> omega

theorem nextFrameId_nextFrameId (n : Nat) : nextFrameId (nextFrameId n) = (nextFrameId n + 1) % 4294967296 := by
  have small := nextFrameId_lt n
  rw [nextFrameId]
  split <;> omega

/-- The search for an id ends at one that names a record only past that many ids in a row that do. -/
theorem freshFrameId_taken {frames : List FrameRecord} : ∀ {fuel n : Nat},
    freshFrameId frames fuel n ∈ frames.map (·.id) →
    ∀ j ≤ fuel, (nextFrameId n + j) % 4294967296 ∈ frames.map (·.id)
  | 0, n, taken, j, last => by
    rw [Nat.le_zero.mp last, Nat.add_zero, Nat.mod_eq_of_lt (nextFrameId_lt n)]
    exact taken
  | fuel + 1, n, taken, j, last => by
    have first : nextFrameId n ∈ frames.map (·.id) := by
      unfold freshFrameId at taken
      split at taken
      · next used => simpa [List.any_eq_true] using used
      · exact taken
    have used : frames.any (fun f => f.id = nextFrameId n) = true := by simpa [List.any_eq_true] using first
    cases j with
    | zero => rwa [Nat.add_zero, Nat.mod_eq_of_lt (nextFrameId_lt n)]
    | succ j =>
      rw [freshFrameId, if_pos used] at taken
      have later := freshFrameId_taken taken j (Nat.le_of_succ_le_succ last)
      rwa [nextFrameId_nextFrameId, Nat.mod_add_mod, Nat.add_right_comm, Nat.add_assoc] at later

/-- At most 48 records stand. -/
theorem Balanced.frames_length (h : Balanced t) : t.frames.length ≤ 48 := by
  simpa using h.buffers.length_le_card

/-- The id that the store gives next names no record (R80): one more id was tried than records stand. -/
theorem Balanced.newId_fresh (h : Balanced t) : t.newId ∉ t.frames.map (·.id) := by
  intro taken
  let tried := (List.range (t.frames.length + 1)).map (fun j => (nextFrameId t.idCounter + j) % 4294967296)
  have few := h.frames_length
  have differ : tried.Nodup := List.nodup_range.map_on (fun i hi j hj same => by
    rw [List.mem_range] at hi hj
    omega)
  have named : tried ⊆ t.frames.map (·.id) := fun n mem => by
    obtain ⟨j, range, rfl⟩ := List.mem_map.mp mem
    exact freshFrameId_taken taken j (Nat.le_of_lt_succ (List.mem_range.mp range))
  have short := (List.subperm_of_subset differ named).length_le
  simp only [tried, List.length_map, List.length_range] at short
  omega

theorem Balanced.opened {q : OpenRequest} {hold : Bool} {b : Fin 48} (h : Balanced t)
    (opens : t.openFrame q hold = some (u, b, id)) : Balanced u := by
  unfold Store.openFrame at opens
  split at opens
  · cases opens
  · next first rest list =>
    cases opens
    have unheld := (h.listed b).mp (list ▸ List.mem_cons_self)
    have once := h.list
    rw [list, List.nodup_cons] at once
    obtain ⟨absent, once⟩ := once
    refine ⟨?_, ?_, once, fun c => ?_, fun c => ?_⟩
    · rw [List.map_append]
      exact List.nodup_append.mpr ⟨h.ids, List.nodup_singleton _,
        by simpa using fun f mem same => h.newId_fresh (List.mem_map.mpr ⟨f, mem, same⟩)⟩
    · rw [List.map_append]
      exact List.nodup_append.mpr ⟨h.buffers, List.nodup_singleton _,
        by simpa using fun f mem same => unheld (List.mem_map.mpr ⟨f, mem, same⟩)⟩
    · rw [upd_get]
      split
      · next same => exact iff_of_false nofun (same ▸ absent)
      · next other => rw [h.free c, list, List.mem_cons, or_iff_right other]
    · rw [List.map_append, List.mem_append, not_or, ← h.listed c, list, List.mem_cons]
      constructor
      · intro mem
        exact ⟨.inr mem, by simpa using fun same : c = b => absent (same ▸ mem)⟩
      · rintro ⟨same | mem, other⟩
        · exact absurd (by simpa using same) other
        · exact mem

/-! ## Sends, combines and the reset -/

theorem Balanced.beginSend {rest : List Nat} (h : Balanced t) : Balanced (t.beginSend id rest f) := by
  have left : Balanced { t with outputQueue := rest } := h.of_same rfl rfl rfl
  have moved := left.move (id := id) (st := .sending) nofun
  have placed := moved.setFrame (id := id) (g := fun r => { r with heldPlace := true }) (fun _ => ⟨rfl, rfl⟩)
  unfold Store.beginSend
  simp only
  split
  · split
    · exact placed.of_same rfl rfl rfl
    · exact moved.setFrame (fun _ => ⟨rfl, rfl⟩)
  · exact moved

theorem Balanced.endSend (h : Balanced t) : Balanced (t.endSend id) := by
  unfold Store.endSend
  split
  · exact h
  · split
    · exact h.move nofun
    · exact h.freed

theorem Balanced.combining : ∀ {members : List (Sign × Nat)} {t : Store}, Balanced t → Balanced (t.combining members)
  | [], _, h => h
  | _ :: members, _, h => Balanced.combining (members := members) (h.move nofun)

theorem balanced_initial (t : Store) (frames : t.frames = []) (buffers : t.buffers = Vector.replicate 48 .free)
    (list : t.freeList = List.finRange 48) : Balanced t where
  ids := by simp [frames]
  buffers := by simp [frames]
  list := list ▸ List.nodup_finRange 48
  free b := by simp [buffers, list]
  listed b := by simp [frames, list]

end Sys2Proof.FrameStore
end

section
/-!
PROOFS. The books of the frame store through the operations of the store, of the uplink and of the lanes (R82 to R92,
R105, R109, R41 to R45).
-/

namespace Sys2Proof.FrameStore

open Sys2Proof.Machine Sys2Proof.Safety Sys2Proof.Power Sys2Proof.Reception

/-- The books of the state's frame store balance. -/
def Accounted (s : State) : Prop := Balanced s.store

variable {s t : State}

theorem Accounted.of_store (h : Accounted s) (store : t.store = s.store) : Accounted t := by
  unfold Accounted
  rw [store]
  exact h

/-- A change that leaves the frame store as it was. -/
theorem Accounted.through {F : List Part} (h : Accounted s) (c : Changes F s t) (away : .store ∉ F) :
    Accounted t := h.of_store (c.store away)

theorem Accounted.ite {c : Prop} [Decidable c] (h : c → Accounted s) (g : ¬ c → Accounted t) :
    Accounted (if c then s else t) := by
  split
  · exact h ‹_›
  · exact g ‹_›

theorem Accounted.forPorts {f : Port → State → State}
    (each : ∀ {t : State} (p : Port), Accounted t → Accounted (f p t)) :
    ∀ {ps : List Port} {t : State}, Accounted t → Accounted (State.forPorts f ps t)
  | [], _, h => h
  | p :: ps, _, h => Accounted.forPorts (ps := ps) each (each p h)

/-- A change of the store that keeps its records, buffers and free list. -/
theorem Accounted.setStore {f : Store → Store} (h : Accounted t)
    (frames : (f t.store).frames = t.store.frames) (buffers : (f t.store).buffers = t.store.buffers)
    (list : (f t.store).freeList = t.store.freeList) : Accounted (t.setStore f) :=
  Balanced.of_same h frames buffers list

/-! ## The updates of the other parts -/

section
variable {p : Port}

theorem Accounted.setPower {f : PortPower → PortPower} (h : Accounted t) : Accounted (t.setPower p f) := h

theorem Accounted.setLane {f : Lane → Lane} (h : Accounted t) : Accounted (t.setLane p f) := h

theorem Accounted.laneCount {f : LaneCounts → LaneCounts} (h : Accounted t) : Accounted (t.laneCount p f) := h

theorem Accounted.laneEnters {st : LaneState} (h : Accounted t) : Accounted (t.laneEnters p st) := h

theorem Accounted.startTraining {start : Time} (h : Accounted t) : Accounted (t.startTraining p start) := h

theorem Accounted.laneDataError (h : Accounted t) : Accounted (t.laneDataError p) :=
  h.through (laneDataError_changes t p) (by decide)

theorem Accounted.lockLoss (h : Accounted t) : Accounted (t.lockLoss p) := h.laneCount.laneDataError

theorem Accounted.setLens {f : Lens → Lens} (h : Accounted t) : Accounted (t.setLens p f) := h

theorem Accounted.setUplink {f : Uplink → Uplink} (h : Accounted t) : Accounted (t.setUplink f) := h

theorem Accounted.setSeq {f : Sequencer → Sequencer} (h : Accounted t) : Accounted (t.setSeq f) := h

theorem Accounted.answer {st : Status} {fields : List Byte} (h : Accounted t) : Accounted (t.answer st fields) := h

theorem Accounted.reply {st : Status} (h : Accounted t) : Accounted (t.reply st) := h

theorem Accounted.post {port : Option Port} {body : NoticeBody} (h : Accounted t) : Accounted (t.post port body) :=
  h.through (post_changes t port body) (by decide)

theorem Accounted.laneNotice {prev : LaneState} {cause : LaneCause} (h : Accounted t) :
    Accounted (t.laneNotice p prev cause) := h.post

theorem Accounted.planNotice {prev : PlanState} {cause : PlanCause} (h : Accounted t) :
    Accounted (t.planNotice prev cause) := h.post

theorem Accounted.setPowerState {new : PowerState} {reason : OffReason} (h : Accounted t) :
    Accounted (t.setPowerState p new reason) := h.setPower.post

end

/-! ## The uplink (R105, R109) -/

theorem Accounted.sendChoice (h : Accounted t) : Accounted t.sendChoice := by
  unfold State.sendChoice
  split
  · exact h
  split
  · exact h.setUplink.through (beginPacket_changes _) (by decide)
  split
  · exact h
  split
  · exact h
  · next id rest _ _ f _ =>
    have begun : Accounted (t.setStore (·.beginSend id rest f)) := Balanced.beginSend h
    exact begun.setUplink.through (beginPacket_changes _) (by decide)

theorem Accounted.uplinkNext (h : Accounted t) : Accounted t.uplinkNext := by
  unfold State.uplinkNext
  exact .ite (fun _ => h.through (beginPacket_changes _) (by decide)) (fun _ => h.sendChoice)

theorem Accounted.endItem {i : Item} (h : Accounted t) : Accounted (t.endItem i) := by
  unfold State.endItem
  simp only
  split
  · exact Balanced.endSend h
  · exact h

theorem Accounted.packetEnded {p : Packet} (h : Accounted t) : Accounted (t.packetEnded p) := by
  unfold State.packetEnded
  extract_lets u
  have ended : Accounted u := h
  split
  · exact ended
  · exact ended
  · exact ended
  · split
    · exact ended
    · exact ended.endItem
  · exact ended

theorem Accounted.linkDown {cause : UplinkCause} (h : Accounted t) : Accounted (t.linkDown cause) := by
  have stopped : Accounted t.stopFrame := by
    unfold State.stopFrame
    split
    · exact Balanced.endSend h
    · exact h
  exact stopped.setUplink.post

theorem Accounted.linkUp {grant : Nat} (h : Accounted t) : Accounted (t.linkUp grant) :=
  h.through (linkUp_changes _ _) (by decide)

/-! ## The output queue, the groups and the combines (R84 to R92) -/

theorem Accounted.joinOutput {id : Nat} (h : Accounted t) : Accounted (t.joinOutput id) := by
  have moved : Balanced (t.store.move id .queued) := Balanced.move h nofun
  have queued : Accounted (t.setStore (fun u => { u.move id .queued with outputQueue := u.outputQueue ++ [id] })) :=
    moved.of_same rfl rfl rfl
  exact queued.sendChoice

theorem Accounted.sendUncombined : ∀ {ids : List Nat} {t : State}, Accounted t → Accounted (State.sendUncombined ids t)
  | [], _, h => h
  | id :: ids, t, h => by
    have flagged : Accounted (t.setStore (fun u =>
        u.setFrame id (fun r => { r with flags := { r.flags with uncombined := true } }))) :=
      Balanced.setFrame h (fun _ => ⟨rfl, rfl⟩)
    exact Accounted.sendUncombined (ids := ids) flagged.joinOutput

theorem Accounted.abandon {g : Group} (h : Accounted t) : Accounted (t.abandon g) :=
  (h.setStore rfl rfl rfl).sendUncombined

theorem Accounted.groupFor {slot : Fin 4} {p : Port} {cycle : Nat} (h : Accounted t) :
    Accounted (t.groupFor slot p cycle).1 := by
  unfold State.groupFor
  simp only
  cases t.store.group? slot p with
  | none => exact h
  | some g =>
    simp only
    split
    · exact h
    · exact .ite (fun _ => h.setStore rfl rfl rfl) (fun _ => (h.setStore rfl rfl rfl).abandon)

theorem Accounted.reportLoss {slot : Fin 4} {p : Port} {cycle position : Nat} {member : Option Nat} (h : Accounted t) :
    Accounted (t.reportLoss slot p cycle position member) := by
  unfold State.reportLoss
  extract_lets found g out
  have left : Accounted out := .ite (fun _ => h.groupFor.sendUncombined) (fun _ => h.groupFor.abandon)
  refine left.setStore ?_ ?_ ?_ <;> split <;> rfl

theorem Accounted.reportAbsence {slot : Fin 4} {p : Port} {cycle position : Nat} (h : Accounted t) :
    Accounted (t.reportAbsence slot p cycle position) := by
  unfold State.reportAbsence
  exact .ite (fun _ => h.reportLoss) (fun _ => h)

theorem Accounted.takeCombine (h : Accounted t) : Accounted t.takeCombine := by
  unfold State.takeCombine
  split
  · next g _ _ _ =>
    have taken : Balanced (t.store.combining g.members) := Balanced.combining h
    exact taken.of_same rfl rfl rfl
  · exact h

theorem Accounted.joinCombine {g : Group} (h : Accounted t) : Accounted (t.joinCombine g) := by
  unfold State.joinCombine
  exact .ite (fun _ => (h.setStore rfl rfl rfl).takeCombine) (fun _ => (h.setStore rfl rfl rfl).abandon)

theorem Accounted.joinGroup {f : FrameRecord} (h : Accounted t) : Accounted (t.joinGroup f) := by
  have found : Accounted (t.groupFor f.slot f.port f.cycle).1 := h.groupFor
  have grouped : Accounted ((t.groupFor f.slot f.port f.cycle).1.setStore (·.move f.id .grouped)) :=
    Balanced.move found nofun
  unfold State.joinGroup
  simp only
  split
  · exact .ite (fun _ => found.sendUncombined.setStore rfl rfl rfl) (fun _ => found.sendUncombined)
  · refine .ite (fun _ => ?_) (fun _ => grouped.setStore rfl rfl rfl)
    exact .ite (fun _ => (grouped.setStore rfl rfl rfl).joinCombine) (fun _ => (grouped.setStore rfl rfl rfl).abandon)

theorem Accounted.freeAll {ids : List Nat} (h : Accounted t) : Accounted (t.setStore (·.freeAll ids)) :=
  Balanced.freedAll h

/-- The first record among those that some ids name is named by its own id. -/
theorem first_named {ids : List Nat} {t : Store} {first : FrameRecord} {others : List FrameRecord}
    (records : ids.filterMap t.frame? = first :: others) : t.frame? first.id = some first := by
  have mem : first ∈ ids.filterMap t.frame? := records ▸ List.mem_cons_self
  obtain ⟨id, _, found⟩ := List.mem_filterMap.mp mem
  rwa [(Store.frame?_spec found).2]

/-- The first member's record gives way to the result's, under an id that names no record, and the others are freed. -/
theorem Accounted.completeCombine {c : Combine} (h : Accounted t) : Accounted (t.completeCombine c) := by
  unfold State.completeCombine
  simp only
  split
  · exact (h.setStore rfl rfl rfl).takeCombine
  · next first others records =>
    have found : t.store.frame? first.id = some first :=
      first_named (ids := c.members.map (·.2)) (by rw [List.filterMap_map]; exact records)
    have result := fun records => Balanced.replace h found (f := combineResult first records t.store.newId) rfl
      (.inr h.newId_fresh)
    refine Accounted.takeCombine (Accounted.freeAll (Accounted.joinOutput ?_))
    exact (result _).of_same rfl rfl rfl

theorem Accounted.endGroups : ∀ {gs : List (Fin 4 × Port)} {t : State}, Accounted t → Accounted (State.endGroups gs t)
  | [], _, h => h
  | (k, p) :: gs, t, h => by
    unfold State.endGroups
    cases t.store.group? k p with
    | none => exact Accounted.endGroups h
    | some g =>
      have dropped : Accounted (t.setStore (·.dropGroup k p)) := h.setStore rfl rfl rfl
      exact Accounted.endGroups (.ite (fun _ => dropped) (fun _ => dropped.abandon))

theorem Accounted.storePlanEnded (h : Accounted t) : Accounted t.storePlanEnded := by
  have ended : Accounted (State.endGroups slotPorts t) := h.endGroups
  unfold State.storePlanEnded
  generalize State.endGroups slotPorts t = u at ended
  exact ended.setStore rfl rfl rfl

theorem Accounted.dropFrame {q : OpenRequest} (h : Accounted t) : Accounted (t.dropFrame q) := by
  unfold State.dropFrame
  extract_lets member dropped told
  have drops : Accounted dropped := h.setStore rfl rfl rfl
  have tells : Accounted told := .ite (fun _ => drops) (fun _ => (drops.setStore rfl rfl rfl).post)
  exact tells.reportAbsence

theorem Accounted.handOver {id : Nat} (h : Accounted t) : Accounted (t.handOver id) := by
  unfold State.handOver
  split
  · exact h
  · next f0 found =>
    extract_lets _ f u
    have same : f.id = f0.id ∧ f.buffer = f0.buffer := by
      unfold f
      split <;> exact ⟨rfl, rfl⟩
    have suspected : Accounted u :=
      Balanced.replace h found same.2 (.inl (same.1.trans (Store.frame?_spec found).2))
    refine .ite (fun _ => ?_) (fun _ => suspected.joinOutput)
    exact .ite (fun _ => .ite (fun _ => suspected.reportLoss) (fun _ => suspected.joinGroup))
      (fun _ => suspected.sendUncombined)

/-! ## The lanes (R41 to R45) -/

section
variable {p : Port}

theorem Accounted.closeFrame {f : RxFrame} {cut : FrameFlags → FrameFlags} (h : Accounted t) :
    Accounted (t.closeFrame p f cut) := by
  unfold State.closeFrame
  extract_lets _ flags filled counted checked
  have checks : Accounted checked.1 := Accounted.through (s := counted) h (ambientCheck_changes _ _ _ _ _) (by decide)
  have taken : Accounted (checked.1.setStore (fun t => t.setFrame f.id (fun r => { r with
      mean := some f.mean, flags := checked.2 }))) := Balanced.setFrame checks (fun _ => ⟨rfl, rfl⟩)
  exact taken.handOver.setLane

theorem Accounted.closeWindow (h : Accounted t) : Accounted (t.closeWindow p) :=
  h.through (closeWindow_changes _ _) (by decide)

theorem Accounted.deadlineClose (h : Accounted t) : Accounted (t.deadlineClose p) := by
  unfold State.deadlineClose
  split
  · exact h
  · refine Accounted.closeWindow ?_
    split
    · exact h.laneCount.reportAbsence
    · exact h
    · split
      · exact h
      · exact Accounted.closeFrame (.ite (fun _ => h) (fun _ => h.laneCount))

theorem Accounted.cutWindow {cut : FrameFlags → FrameFlags} (h : Accounted t) : Accounted (t.cutWindow p cut) := by
  unfold State.cutWindow
  split
  · exact h
  · refine Accounted.closeWindow ?_
    split
    · exact h.reportAbsence
    · exact h
    · split
      · exact h
      · exact h.closeFrame

theorem Accounted.laneGoesDown (h : Accounted t) : Accounted (t.laneGoesDown p) := by
  unfold State.laneGoesDown
  extract_lets prev closed down
  have closes : Accounted closed := (h.cutWindow (p := p) (cut := cutTruncated)).setLane
  have downs : Accounted down := closes.setLane
  exact .ite (fun _ => downs) (fun _ => downs.laneEnters.laneNotice)

theorem Accounted.sendTrigger {q : TriggerRequest} (h : Accounted t) : Accounted (t.sendTrigger p q).1 := by
  unfold State.sendTrigger
  split
  · have closed : Accounted (t.deadlineClose p) := h.deadlineClose
    unfold State.trigger
    exact .ite (fun _ => closed.setLane.setPower) (fun _ => closed.setLane)
  · exact h

theorem Accounted.openWindowFrame {w : RxWindow} (h : Accounted t) : Accounted (t.openWindowFrame p w) := by
  unfold State.openWindowFrame
  simp only
  split
  · next u _ _ opened =>
    have opens : Accounted (t.setStore (fun _ => u)) := Balanced.opened h opened
    exact opens.setLane.setLane.laneCount
  · exact h.setLane.laneCount.dropFrame

theorem Accounted.takeFrameStart {tag : Byte} {width height depth : Nat} (h : Accounted t) :
    Accounted (t.takeFrameStart p tag width height depth) := by
  unfold State.takeFrameStart
  split
  · exact h.laneCount
  · split
    · exact .ite (fun _ => h.openWindowFrame) (fun _ => h.laneCount)
    · exact h.laneCount
    · exact h.laneCount

theorem Accounted.losesLock (h : Accounted t) : Accounted (t.losesLock p) := by
  unfold State.losesLock
  extract_lets lost
  have loses : Accounted lost := h.lockLoss.startTraining.laneNotice
  split
  · exact loses
  · exact loses.laneCount.laneDataError.closeFrame

end

end Sys2Proof.FrameStore
end

section
/-!
PROOFS. The books of the frame store through the sequencer and the power switch (R57, R60 to R65, R8, R11, R25 to R27).
-/

namespace Sys2Proof.FrameStore

open Sys2Proof.Machine Sys2Proof.Safety Sys2Proof.Power Sys2Proof.Reception

variable {s t : State}

/-! ## The sequencer (R57, R60 to R65) -/

theorem Accounted.beginCycle {delayed : Bool} (h : Accounted t) : Accounted (t.beginCycle delayed) :=
  h.of_store (beginCycle_stock t delayed).1

theorem Accounted.overrun {source : StartSource} (h : Accounted t) : Accounted (t.overrun source) :=
  h.setSeq.post

theorem Accounted.takeStart {source : StartSource} (h : Accounted t) : Accounted (t.takeStart source).1 := by
  unfold State.takeStart
  split
  · exact h
  · exact h
  · exact h.setSeq
  · split
    · exact h.overrun
    split
    · exact h.setSeq
    · exact h.beginCycle
  · split
    · exact h.overrun
    · exact h.setSeq

theorem Accounted.walk (h : Accounted t) : Accounted t.walk := h.through (walk_follows t).toChanges (by decide)

theorem Accounted.sweepResume (h : Accounted t) : Accounted t.sweepResume := h.of_store (sweepResume_stock t).1

theorem Accounted.busPump {p : Port} (h : Accounted t) : Accounted (t.busPump p) :=
  h.through (busPump_follows t p).toChanges (by decide)

theorem Accounted.planEnds {cause : PlanCause} (h : Accounted t) : Accounted (t.planEnds cause) := by
  have told := fun f => ((h.setSeq (f := f)).planNotice (prev := t.seq.state) (cause := cause))
  exact ((told _).storePlanEnded.walk.of_store (waitsEnd_stock _ _).1).sweepResume

theorem Accounted.checkCycle (h : Accounted t) : Accounted t.checkCycle := by
  rcases checkCycle_stock t with same | ⟨u, before, after⟩
  · exact h.of_store same.1
  · exact (h.of_store before.1).storePlanEnded.of_store after.1

section
variable {p : Port}

theorem Accounted.postAfter {slot : Fin 4} (h : Accounted t) : Accounted (t.postAfter p slot) :=
  h.through (postAfter_follows t p slot).toChanges (by decide)

theorem Accounted.exposureEnds (h : Accounted t) : Accounted (t.exposureEnds p) := by
  unfold State.exposureEnds
  split
  · exact h
  · extract_lets closed posted
    have closes : Accounted closed := h.setLane
    have posts : Accounted posted := .ite (fun _ => closes.postAfter) (fun _ => closes)
    exact (posts.of_store (waitsEnd_stock _ _).1).busPump.sweepResume

theorem Accounted.takeFrameEnd {tag : Byte} {lineCount : Nat} (h : Accounted t) :
    Accounted (t.takeFrameEnd p tag lineCount) := by
  unfold State.takeFrameEnd
  split
  · exact h.laneCount
  · split
    · exact h.laneCount
    · exact .ite (fun _ => h.closeWindow.checkCycle) (fun _ => h.laneCount)
    · refine .ite (fun _ => Accounted.checkCycle (Accounted.closeWindow ?_)) (fun _ => h.laneCount)
      split
      · exact h
      · exact h.laneCount.closeFrame

theorem Accounted.skipSlot {slot : Fin 4} {c : Cycle} (h : Accounted t) : Accounted (t.skipSlot p slot c) :=
  h.setSeq.reportAbsence.postAfter

theorem Accounted.dispatchPort {slot : Fin 4} {k : Slot} {c : Cycle} (h : Accounted t) :
    Accounted (State.dispatchPort slot k c p t) := by
  unfold State.dispatchPort
  refine .ite (fun _ => h) (fun _ => .ite (fun _ => ?_) (fun _ => h.skipSlot))
  have sent : ∀ q, Accounted (t.sendTrigger p q).1 := fun q => h.sendTrigger
  exact .ite (fun _ => (sent _).setSeq) (fun _ => (sent _).skipSlot)

theorem Accounted.dispatch {slot : Fin 4} {k : Slot} {c : Cycle} (h : Accounted t) : Accounted (t.dispatch slot k c) :=
  (Accounted.forPorts (fun _ g => g.dispatchPort) h.setSeq).checkCycle

theorem Accounted.armPlan (h : Accounted t) : Accounted t.armPlan := by
  have armed := fun f => (h.setSeq (f := f)).planNotice (prev := .loaded) (cause := .arm)
  exact .ite (fun _ => (armed _).takeStart) (fun _ => (armed _).sweepResume)

theorem Accounted.abortLane (h : Accounted t) : Accounted (State.abortLane p t) := h.cutWindow.setLane

theorem Accounted.abortPlan (h : Accounted t) : Accounted t.abortPlan := by
  have cut : Accounted (State.forPorts State.abortLane (portsWhere t.seq.marks) t) :=
    h.forPorts (fun _ g => g.abortLane)
  exact (cut.planEnds (cause := .abort)).forPorts (fun _ g => g.busPump)

/-! ## The power switch (R8, R11, R25 to R27) -/

theorem Accounted.leftOn (h : Accounted t) : Accounted (t.leftOn p) := by
  have off := (h.laneGoesDown (p := p)).through (lensOff_changes _ p) (by decide)
  have discarded := off.walk.through (discardAcquisitions_changes _ p) (by decide)
  exact (discarded.checkCycle.through (laneLeftQuiet_follows _ p).toChanges (by decide)).sweepResume

theorem Accounted.portGoes {new : PowerState} {reason : OffReason} (h : Accounted t) :
    Accounted (t.portGoes p new reason) := by
  have goes : Accounted (t.setPowerState p new reason) := h.setPowerState
  unfold State.portGoes
  refine .ite (fun _ => h.setPower) (fun _ => ?_)
  simp only
  split
  · exact goes.leftOn
  · exact goes.walk
  · exact Accounted.walk (t := State.dropClaim _ p .power) goes
  · exact goes

theorem Accounted.openLoad (h : Accounted t) : Accounted (t.openLoad p) :=
  h.portGoes.through (powerOpen_changes _ p) (by decide)

theorem Accounted.trip {cause : TripCause} {current : Nat} (h : Accounted t) : Accounted (t.trip p cause current) := by
  have told := fun f body => (h.setPower (p := p) (f := f)).post (port := some p) (body := body)
  exact (told _ _).portGoes.through (tripEvidence_changes _ p _) (by decide)

theorem Accounted.portEntersOn (h : Accounted t) : Accounted (t.portEntersOn p) := by
  have powered : Accounted (t.setPowerState p .on t.power[p].reason) := h.setPowerState
  have entered := powered.through (laneEntersOn_changes _ p) (by decide)
  have driven := entered.through (lensOn_follows _ p).toChanges (by decide)
  exact (driven.through (discardAcquisitions_changes _ p) (by decide)).sweepResume

theorem Accounted.shed (h : Accounted t) : Accounted (State.shed p t) :=
  h.portGoes.setPower

theorem Accounted.raisePowerClaim (h : Accounted t) : Accounted (t.raisePowerClaim p) := by
  have joined := (h.through (joinClaim_changes t p .power (t.profileOf p).baseReservation) (by decide)).walk
  exact .ite (fun _ => joined.setPowerState) (fun _ => joined)

end

theorem Accounted.shedPorts {event : SupplyEvent} {ps : List Port} (h : Accounted t) :
    Accounted (t.shedPorts event ps) :=
  (Accounted.forPorts (ps := ps) (fun _ g => g.shed) h).post

end Sys2Proof.FrameStore
end

section
/-!
PROOFS. The books of the frame store through the resets, the owners of the requests and the events of the ports (R98,
R183).
-/

namespace Sys2Proof.FrameStore

open Sys2Proof.Machine Sys2Proof.Safety Sys2Proof.Power Sys2Proof.Reception

variable {s t : State}

/-! ## The resets (R98, R183) -/

/-- The cell reset frees every buffer, whatever the books were. -/
theorem cellReset_accounted (s : State) : Accounted s.cellReset := by
  have freed : ∀ u : State, Accounted (u.setStore (·.cellReset)) := fun u => balanced_initial _ rfl rfl rfl
  unfold State.cellReset
  exact ((freed _).through (resetMonitor_changes _) (by decide)).uplinkNext

theorem startUp_accounted (s : State) : Accounted s.startUp := by
  have reset : Accounted s.rebooted := balanced_initial _ rfl rfl rfl
  have loaded : Accounted s.rebooted.loadProfile := by
    unfold State.loadProfile
    split
    · exact reset
    · have defaults : Accounted { s.rebooted with
          settings := {}, profile := { s.rebooted.profile with origin := .defaults } } := reset
      exact defaults.post.through (usedFree_changes _) (by decide)
  have claimed : Accounted (booted s).autoPower :=
    (loaded.through (booted_changes s) (by decide)).forPorts (fun _ g => g.raisePowerClaim)
  exact claimed.post

/-! ## The owners of the requests -/

theorem Accounted.setSettings {x : Settings} (h : Accounted s) : Accounted { s with settings := x } := h

theorem Accounted.setSweeps {e : SweepEngine} (h : Accounted s) : Accounted { s with sweeps := e } := h

theorem Accounted.setSupply {x : Supply} (h : Accounted s) : Accounted { s with supply := x } := h

section
variable {p : Port}

theorem Accounted.portPowerOn (h : Accounted s) : Accounted (State.portPowerOn p s) := by
  unfold State.portPowerOn
  split
  case h_1 => exact h.raisePowerClaim.reply
  case h_2 => exact h.raisePowerClaim.reply
  all_goals exact h.reply

theorem Accounted.portPowerOff (h : Accounted s) : Accounted (State.portPowerOff p s) := by
  unfold State.portPowerOff
  split
  · exact h.reply
  · exact h.portGoes.setPower.reply

theorem Accounted.portPowerProbe (h : Accounted s) : Accounted (State.portPowerProbe p s) := by
  unfold State.portPowerProbe
  split
  · exact h.reply
  · exact h.setPower.reply
  · exact h.portGoes.setPower.reply

theorem Accounted.takeProfile {f : PortProfile} (h : Accounted s) : Accounted (s.takeProfile p f) :=
  h.setSettings.setPower.setLens

theorem Accounted.setPending {m : Move} (h : Accounted s) : Accounted (s.setPending p m) :=
  h.through (setPending_follows s p m).toChanges (by decide)

theorem Accounted.takeMove {a : Axes} (h : Accounted s) : Accounted (s.takeMove p a) := by
  unfold State.takeMove
  exact .ite (fun _ => h.setPending.reply) (fun _ => h.setPending.answer)

theorem Accounted.sendStop (h : Accounted s) : Accounted (s.sendStop p) :=
  h.through (sendStop_follows s p).toChanges (by decide)

theorem Accounted.beginHaltRead {move : Option Move} (h : Accounted s) : Accounted (s.beginHaltRead p move) :=
  h.through (beginHaltRead_follows s p move).toChanges (by decide)

theorem Accounted.haltEnds {move : Option Move} (h : Accounted s) : Accounted (s.haltEnds p move) :=
  h.through (haltEnds_follows s p move).toChanges (by decide)

theorem Accounted.haltLens (h : Accounted s) : Accounted (s.haltLens p) := by
  have halted : Accounted (s.haltPending p) := h.setLens.through (withdrawLensClaim_follows _ p).toChanges (by decide)
  unfold State.haltLens
  extract_lets u flight move
  split
  · exact halted.beginHaltRead
  · exact .ite (fun _ => halted.setLens.haltEnds) (fun _ => halted.setLens.sendStop.beginHaltRead)
  · exact halted.setLens.sendStop.haltEnds
  case h_7 => exact halted
  all_goals exact Accounted.haltEnds (.ite (fun _ => halted.sendStop) (fun _ => halted))

end

section
variable {body : List Byte}

theorem Accounted.portConfig (h : Accounted s) : Accounted (s.portConfig body) := by
  unfold State.portConfig
  split
  · exact h.reply
  · exact .ite (fun _ => h.reply) (fun _ => .ite (fun _ => h.reply) (fun _ => h.takeProfile.reply))

theorem Accounted.portUnlock (h : Accounted s) : Accounted (s.portUnlock body) := by
  unfold State.portUnlock
  split
  · exact h.reply
  · exact .ite (fun _ => h.setPower.setPowerState.reply) (fun _ => h.reply)

theorem Accounted.setCapacity (h : Accounted s) : Accounted (s.setCapacity body) := by
  unfold State.setCapacity
  exact .ite (fun _ => h.reply) (fun _ => .ite (fun _ => h.answer) (fun _ => h.setSettings.walk.reply))

theorem Accounted.setSupplyPolicy (h : Accounted s) : Accounted (s.setSupplyPolicy body) := by
  unfold State.setSupplyPolicy
  exact .ite (fun _ => h.setSettings.reply) (fun _ => h.reply)

/-- A plan state set, told and followed by the sweep engine's test. -/
theorem Accounted.planSet {f : Sequencer → Sequencer} {prev : PlanState} {cause : PlanCause} (h : Accounted s) :
    Accounted ((s.setSeq f).planNotice prev cause).sweepResume := h.setSeq.planNotice.sweepResume

theorem Accounted.planLoad (h : Accounted s) : Accounted (s.planLoad body) := by
  unfold State.planLoad
  refine .ite (fun _ => h.reply) (fun _ => .ite (fun _ => h.reply) (fun _ => ?_))
  split
  · exact h.answer
  · exact h.planSet.answer

theorem Accounted.planArm (h : Accounted s) : Accounted s.planArm := by
  unfold State.planArm
  split
  · split
    · exact h.answer
    · exact .ite (fun _ => h.answer) (fun _ => h.armPlan.answer)
  · exact h.reply

theorem Accounted.planStop (h : Accounted s) : Accounted s.planStop := by
  unfold State.planStop
  split
  · exact h.planEnds.reply
  · exact h.planSet.reply
  all_goals exact h.reply

theorem Accounted.planAbort (h : Accounted s) : Accounted s.planAbort :=
  .ite (fun _ => h.abortPlan.reply) (fun _ => h.reply)

theorem Accounted.planClear (h : Accounted s) : Accounted s.planClear := by
  unfold State.planClear
  split
  · exact h.planSet.reply
  all_goals exact h.reply

theorem Accounted.planFire (h : Accounted s) : Accounted s.planFire := by
  have fires : Accounted (if s.seq.lineTrigger then
      (s.takeStart .fire).1.answer .ok (num1 (s.takeStart .fire).2.code) else s.reply .wrongState) :=
    .ite (fun _ => h.takeStart.answer) (fun _ => h.reply)
  unfold State.planFire
  split
  · exact fires
  · exact fires
  all_goals exact h.reply

theorem Accounted.signalConfig (h : Accounted s) : Accounted (s.signalConfig body) := by
  unfold State.signalConfig
  exact .ite (fun _ => h.setSettings.reply) (fun _ => h.reply)

theorem Accounted.frameHold (h : Accounted s) : Accounted (s.frameHold body) := by
  have held : Accounted (s.setStore (fun t => t.setFrame (numAt body 0 4) (fun f => { f with hold := true }))) :=
    Balanced.setFrame h (fun _ => ⟨rfl, rfl⟩)
  exact .ite (fun _ => held.reply) (fun _ => h.reply)

theorem Accounted.frameRelease (h : Accounted s) : Accounted (s.frameRelease body) := by
  have freed : Accounted (s.freeFrame (numAt body 0 4)) := Balanced.freed h
  exact .ite (fun _ => .ite (fun _ => h.reply) (fun _ => freed.reply)) (fun _ => h.reply)

theorem Accounted.storeStatus (h : Accounted s) : Accounted (s.storeStatus body) := by
  unfold State.storeStatus
  refine .ite (fun _ => h.reply) (fun _ => ?_)
  split
  · exact h.answer
  · split
    · exact h.reply
    · exact h.answer

theorem Accounted.joinRegion {e : RegionEntry} (h : Accounted s) : Accounted (s.joinRegion e) := h.setUplink.sendChoice

theorem Accounted.regionRead (h : Accounted s) : Accounted (s.regionRead body) := by
  unfold State.regionRead
  extract_lets id start mode count
  split
  · exact h.reply
  · exact .ite (fun _ => h.reply) (fun _ => .ite (fun _ => h.reply) (fun _ => .ite (fun _ => h.reply)
      (fun _ => h.joinRegion.answer)))

theorem Accounted.lensMove (h : Accounted s) : Accounted (s.lensMove body) := by
  unfold State.lensMove
  split
  · exact h.reply
  · refine .ite (fun _ => h.reply) (fun _ => ?_)
    split
    · exact h.reply
    · exact .ite (fun _ => h.takeMove) (fun _ => h.reply)

theorem Accounted.lensPreset (h : Accounted s) : Accounted (s.lensPreset body) := by
  unfold State.lensPreset
  split
  · split
    · exact h.reply
    · exact h.setPending.reply
  · exact h.reply

theorem Accounted.lensPresetSet (h : Accounted s) : Accounted (s.lensPresetSet body) := by
  unfold State.lensPresetSet
  split
  · exact h.setSettings.reply
  · exact h.reply

theorem Accounted.lensHome (h : Accounted s) : Accounted (s.lensHome body) := by
  unfold State.lensHome
  split
  · exact h.reply
  · exact .ite (fun _ => h.reply) (fun _ => h.setPending.reply)

theorem Accounted.lensHalt (h : Accounted s) : Accounted (s.lensHalt body) := by
  unfold State.lensHalt
  split
  · exact h.reply
  · exact .ite (fun _ => h.reply) (fun _ => .ite (fun _ => h.reply) (fun _ => h.haltLens.reply))

theorem Accounted.motionSegment (h : Accounted s) : Accounted (s.motionSegment body) := by
  have moved : ∀ m, Accounted { s with monitor := m } := fun _ => h
  unfold State.motionSegment
  split
  · exact h.reply
  · exact .ite (fun _ => h.reply) (fun _ => (moved _).sweepResume.reply)

theorem Accounted.evidenceConfig (h : Accounted s) : Accounted (s.evidenceConfig body) := by
  unfold State.evidenceConfig
  exact .ite (fun _ => h.setSettings.reply) (fun _ => h.reply)

theorem Accounted.breakList (h : Accounted s) : Accounted (s.breakList body) := by
  unfold State.breakList
  refine .ite (fun _ => h.answer) (fun _ => ?_)
  split
  · exact h.reply
  · exact h.answer

theorem Accounted.clearWhere {f : BreakRecord → Bool} (h : Accounted s) : Accounted (s.clearWhere f) :=
  Accounted.answer ((h.through (forPlaces_changes clearBreak_changes _ s) (by decide)).through
    (forPorts_changes restartCounts_changes _ _) (by decide))

theorem Accounted.breakClear (h : Accounted s) : Accounted (s.breakClear body) := by
  unfold State.breakClear
  extract_lets target
  split
  · exact .ite (fun _ => h.clearWhere) (fun _ => h.reply)
  · exact .ite (fun _ => h.clearWhere) (fun _ => h.reply)
  · exact h.clearWhere
  · exact h.reply

theorem Accounted.cableSet (h : Accounted s) : Accounted (s.cableSet body) := by
  unfold State.cableSet
  split
  · exact .ite (fun _ => h.reply) (fun _ => h.setSettings.reply)
  · exact h.reply

theorem Accounted.joinSweepQueue {e : SweepEntry} (h : Accounted s) : Accounted (s.joinSweepQueue e) :=
  h.through (joinSweepQueue_changes s e) (by decide)

theorem Accounted.endSweep {p : Port} {outcome : SweepState} {f : SweepResult → SweepResult} (h : Accounted s) :
    Accounted (s.endSweep p outcome f) := h.through (endSweep_changes s p outcome f) (by decide)

theorem Accounted.sweepRequest (h : Accounted s) : Accounted (s.sweepRequest body) := by
  unfold State.sweepRequest
  split
  · exact h.reply
  · refine .ite (fun _ => h.reply) (fun _ => .ite (fun _ => h.reply) (fun _ => ?_))
    split
    · exact h.setSweeps.answer
    · exact h.joinSweepQueue.answer

theorem Accounted.sweepCancel (h : Accounted s) : Accounted (s.sweepCancel body) := by
  unfold State.sweepCancel
  split
  · exact h.reply
  · exact .ite (fun _ => h.setSweeps.reply) (fun _ => .ite (fun _ => h.endSweep.reply) (fun _ => h.reply))

end

theorem Accounted.setProfile {x : ProfileStore} (h : Accounted s) : Accounted { s with profile := x } := h

theorem Accounted.profileSave (h : Accounted s) : Accounted s.profileSave := by
  unfold State.profileSave
  exact .ite (fun _ => h.reply) (fun _ => h.setProfile.reply)

theorem Accounted.writeEnds {w : ProfileWrite} {agrees : Bool} (h : Accounted s) : Accounted (s.writeEnds w agrees) :=
  h.setProfile.post

/-- The settings and the profile store put at other values. -/
theorem Accounted.setDefaults {x : Settings} {y : ProfileStore} (h : Accounted s) :
    Accounted { s with settings := x, profile := y } := h

theorem Accounted.restoreDefaults (h : Accounted s) : Accounted s.restoreDefaults := by
  have defaults : ∀ {u : State}, Accounted u →
      Accounted ({ u with settings := {}, profile := { u.profile with origin := .defaults } } : State).walk :=
    fun g => g.setDefaults.walk
  exact defaults (h.forPorts (f := fun p t => t.takeProfile p {}) (fun _ g => g.takeProfile))

/-! ## The events of the ports -/

section
variable {p : Port}

theorem Accounted.attachNotice {event : PortEvent} (h : Accounted s) : Accounted (s.attachNotice p event) := h.post

theorem Accounted.probeResult {milliamps : Nat} (h : Accounted s) : Accounted (s.probeResult p milliamps) := by
  unfold State.probeResult
  extract_lets u was absent present told
  have ended : Accounted u := h.setPower
  have tells : Accounted told := .ite (fun _ => ended.setPower) (fun _ => ended.setPower.attachNotice)
  exact .ite (fun _ => .ite (fun _ => ended.setPower.attachNotice) (fun _ => ended.setPower))
    (fun _ => .ite (fun _ => .ite (fun _ => tells.raisePowerClaim) (fun _ => tells))
      (fun _ => ended.through (powerShort_changes _ p .suspect) (by decide)))

theorem Accounted.overdrawCheck (h : Accounted s) : Accounted (s.overdrawCheck p) := by
  unfold State.overdrawCheck
  extract_lets average base
  exact .ite (fun _ => .ite (fun _ => h.setPower) (fun _ => h)) (fun _ => .ite (fun _ => h.setPower.post) (fun _ => h))

theorem Accounted.sample {milliamps : Nat} (h : Accounted s) : Accounted (s.sample p milliamps) := by
  unfold State.sample
  extract_lets st v u
  have taken : Accounted u := h.setPower
  exact .ite (fun _ => .ite (fun _ => taken.setPower.setPower.overdrawCheck) (fun _ => taken.setPower)) (fun _ => taken)

theorem Accounted.storeLine {f : RxFrame} {number : Nat} {pixels : List Byte} {crc : BitVec 32} (h : Accounted s) :
    Accounted (s.storeLine p f number pixels crc) := by
  unfold State.storeLine
  extract_lets values stored clamped bad written _ framed counted
  have writes : Accounted written := h
  have counts : Accounted counted := .ite (fun _ => writes.setLane.laneCount) (fun _ => writes.setLane)
  exact .ite (fun _ => counts.laneCount.laneDataError) (fun _ => counts)

theorem Accounted.takeLine {number : Nat} {pixels : List Byte} {crc : BitVec 32} (h : Accounted s) :
    Accounted (s.takeLine p number pixels crc) := by
  unfold State.takeLine
  split
  · exact h.laneCount
  · split
    · exact h.laneCount
    · exact h
    · split
      · exact h.laneCount
      · exact .ite (fun _ => h.storeLine) (fun _ => h.setLane)

theorem Accounted.failedRunUp (h : Accounted s) : Accounted (s.failedRunUp p) := by
  unfold State.failedRunUp
  exact .ite (fun _ => h.setLane) (fun _ => h.setLane.through (usedFree_changes _) (by decide))

theorem Accounted.trainingFails (h : Accounted s) : Accounted (s.trainingFails p) := by
  unfold State.trainingFails
  extract_lets failed
  have fails : Accounted failed := h.laneEnters.setLane.lockLoss.failedRunUp
  exact .ite (fun _ => fails.laneNotice) (fun _ => fails)

theorem Accounted.lockReached (h : Accounted s) : Accounted (s.lockReached p) :=
  h.laneEnters.setLane.laneNotice.setLane

theorem Accounted.laneLeftQuiet (h : Accounted s) : Accounted (s.laneLeftQuiet p) :=
  h.through (laneLeftQuiet_follows s p).toChanges (by decide)

theorem Accounted.retrained {hasLock : Bool} (h : Accounted s) : Accounted (s.retrained p hasLock) :=
  Accounted.laneLeftQuiet (.ite (fun _ => h.laneEnters.setLane) (fun _ => h.startTraining.laneNotice))

theorem Accounted.laneAfterAcquisition {a : Acquisition} (h : Accounted s) : Accounted (s.laneAfterAcquisition a) := by
  unfold State.laneAfterAcquisition
  extract_lets l
  split
  · exact h.setLane
  · exact .ite (fun _ => h.startTraining) (fun _ => .ite (fun _ => h.setLane.startTraining.laneNotice) (fun _ => h))
  · exact h
  · exact h

theorem Accounted.acquisitionEnds {a : Acquisition} {deviations : List Int} (h : Accounted s) :
    Accounted (s.acquisitionEnds a deviations) := by
  have ended : Accounted { s with sweeps := { s.sweeps with acquisition := none } } := h.setSweeps
  have gathered := ended.through (gather_changes _ a deviations) (by decide)
  exact gathered.laneAfterAcquisition.through (sweepAfterAcquisition_follows _ a.port).toChanges (by decide)

end

/-! ## The supply -/

theorem Accounted.becomeLow (h : Accounted s) : Accounted s.becomeLow := h.setSupply.shedPorts

theorem Accounted.fullCheck {millivolts : Nat} (h : Accounted s) : Accounted (s.fullCheck millivolts) := by
  unfold State.fullCheck
  exact .ite (fun _ => h.setSupply.setSupply.setSupply.shedPorts) (fun _ => h.setSupply.setSupply)

theorem Accounted.recover (h : Accounted s) : Accounted s.recover := by
  have walked := fun x body => ((h.setSupply (x := x)).post (port := none) (body := body)).walk
  unfold State.recover
  simp only
  split
  · exact walked _ _
  · exact (walked _ _).forPorts (fun _ g => g.setPower.raisePowerClaim)

end Sys2Proof.FrameStore
end

section
/-!
PROOFS. The commands one by one, and the step: the books of the frame store always balance (R78 to R80).
-/

namespace Sys2Proof.FrameStore

open Sys2Proof.Machine Sys2Proof.Safety Sys2Proof.Power Sys2Proof.Reception

variable {s t : State}

/-! ## The results of the commands -/

/-- The state that a command leaves, if it leaves one, has books that balance. -/
def Balances (r : Result) : Prop := ∀ t, r = .next t → Accounted t

theorem balances_next (h : Accounted t) : Balances (.next t) := by
  rintro u ⟨⟩
  exact h

theorem balances_finish (h : Accounted t) : Balances (finish t) := balances_next (t := t.transmit) h

theorem balances_ite {c : Prop} [Decidable c] {a b : Result} (h : Balances a) (g : Balances b) :
    Balances (if c then a else b) := by
  split
  · exact h
  · exact g

/-- A command that acts only when it is due. -/
theorem balances_due {c : Prop} [Decidable c] (h : Accounted s) (g : Accounted t) :
    Balances (if c then finish t else .next s) := balances_ite (balances_finish g) (balances_next h)

theorem balances_serveWhen {kind : Byte} {lengthOk ofRow : List Byte → Bool} {owner : List Byte → State → State}
    (h : Accounted s) (g : ∀ body, Accounted (owner body s)) : Balances (s.serveWhen kind lengthOk ofRow owner) := by
  unfold State.serveWhen
  split
  · exact balances_next h
  · exact balances_ite (balances_ite (balances_due h (g _)) (balances_finish h.reply)) (balances_next h)

theorem balances_serve {kind : Byte} {size : Nat} {owner : List Byte → State → State} (h : Accounted s)
    (g : ∀ body, Accounted (owner body s)) : Balances (s.serve kind size owner) := balances_serveWhen h g

theorem balances_portPower {value : Nat} {owner : Port → State → State} (h : Accounted s)
    (g : ∀ p, Accounted (owner p s)) : Balances (s.servePortPower value owner) := by
  refine balances_serveWhen h (fun body => ?_)
  split
  · exact h.reply
  · exact .ite (fun _ => h.reply) (fun _ => g _)

/-- A status request about a port. -/
theorem balances_status {kind : Byte} {fields : State → Port → List Byte} (h : Accounted s) :
    Balances (s.serve kind 1 (fun b s =>
      match portAt b 0 with
      | none => s.reply .outOfRange
      | some p => s.answer .ok (fields s p))) := by
  refine balances_serve h (fun body => ?_)
  split
  · exact h.reply
  · exact h.answer

/-- A status request with no body. -/
theorem balances_answers {kind : Byte} {fields : State → List Byte} (h : Accounted s) :
    Balances (s.serve kind 0 (fun _ s => s.answer .ok (fields s))) :=
  balances_serve h (fun _ => h.answer)

/-! ## The commands that are more than one operation -/

theorem execPlanLoad_balances (h : Accounted s) : Balances (execPlanLoad s) :=
  balances_serveWhen h (fun _ => h.planLoad)

theorem execCableSet_balances (h : Accounted s) : Balances (execCableSet s) :=
  balances_serveWhen h (fun _ => h.cableSet)

theorem execCellReset_balances (h : Accounted s) : Balances (execCellReset s) :=
  balances_serve h (fun _ => (cellReset_accounted s).reply)

theorem execMoveDeadline_balances (h : Accounted s) (p : Port) : Balances (execMoveDeadline p s) := by
  have stopped : Accounted (s.sendStop p) := h.sendStop
  exact balances_due h (stopped.through (stall_follows _ p .stall).toChanges (by decide))

theorem execHaltDeadline_balances (h : Accounted s) (p : Port) : Balances (execHaltDeadline p s) :=
  balances_due h (h.through (lensFails_follows s p .fault .stall .halted).toChanges (by decide))

theorem execRampEnd_balances (h : Accounted s) (p : Port) : Balances (execRampEnd p s) :=
  balances_due h (.ite (fun _ => h.openLoad) (fun _ => h.portEntersOn))

theorem execSupplyLow_balances (h : Accounted s) (millivolts heldMicros : Nat) :
    Balances (execSupplyLow millivolts heldMicros s) :=
  have measured : Accounted (s.measured millivolts) := h.setSupply
  balances_ite (balances_finish measured.becomeLow) (balances_finish measured)

theorem execSupplyRecovered_balances (h : Accounted s) (millivolts heldMicros : Nat) :
    Balances (execSupplyRecovered millivolts heldMicros s) :=
  have measured : Accounted (s.measured millivolts) := h.setSupply
  balances_ite (balances_finish measured.recover) (balances_finish measured)

theorem execReady_balances (h : Accounted s) (grant : BitVec 16) : Balances (execReady grant s) := by
  have down : Accounted (if s.uplink.up then s.linkDown .restart else s) := .ite (fun _ => h.linkDown) (fun _ => h)
  exact balances_finish down.linkUp.sendChoice

theorem execGrant_balances (h : Accounted s) (grant : BitVec 16) : Balances (execGrant grant s) := by
  have good : Accounted s.goodWord := h.setUplink
  exact balances_ite (balances_finish good.setUplink.uplinkNext) (balances_finish good.setUplink)

theorem execBusTimeout_balances (h : Accounted s) (hang : BusHang) : Balances (execBusTimeout hang s) := by
  have recovers : ∀ {u : State} stop, Accounted u → Accounted ((u.enterRecovery hang.port).hang hang.port stop) :=
    fun stop g => by
      have recovering := g.through (enterRecovery_follows _ hang.port).toChanges (by decide)
      exact recovering.through (hang_follows _ _ stop).toChanges (by decide)
  have taken : Accounted
      (if hang.addressAcked && s.lenses[hang.port].bus.state = .hub then s.answered hang.port else s) :=
    .ite (fun _ => h.setLens) (fun _ => h)
  unfold execBusTimeout
  extract_lets bus t
  split
  · exact balances_next h
  · exact balances_next h
  all_goals exact balances_finish (recovers _ taken)

theorem execUnknownRequest_balances (h : Accounted s) : Balances (execUnknownRequest s) := by
  unfold execUnknownRequest
  split
  · exact balances_next h
  · exact balances_ite (balances_next h) (balances_finish h.reply)

theorem execEvidenceWindowClose_balances (h : Accounted s) : Balances (execEvidenceWindowClose s) := by
  have judged := h.through (forPorts_changes judgePort_changes allPorts s) (by decide)
  exact balances_due h (judged.through (beginWindow_changes _) (by decide))

theorem execProfileRestoreDefaults_balances (h : Accounted s) : Balances (execProfileRestoreDefaults s) :=
  balances_serve h (fun _ => .ite (fun _ => h.restoreDefaults.reply) (fun _ => h.reply))

theorem execHeadMessage_balances (h : Accounted s) (p : Port) (bytes : List Byte) :
    Balances (execHeadMessage p bytes s) := by
  have taken := h.through (headMessage_follows s p bytes).toChanges (by decide)
  exact balances_due h (taken.through (busFree_follows _ p).toChanges (by decide)).busPump

theorem execControlFrameReceived_balances (h : Accounted s) (bytes : List LineByte) :
    Balances (execControlFrameReceived bytes s) := balances_finish (t := { s with link := _ }) h

/-! ## The commands that act on what is due -/

theorem execTxFrameEnd_balances (h : Accounted s) : Balances (execTxFrameEnd s) := by
  unfold execTxFrameEnd
  split
  · exact balances_finish (t := { s with link := _ }) h
  · exact balances_next h

theorem execSlotDispatch_balances (h : Accounted s) (slot : Fin 4) : Balances (execSlotDispatch slot s) := by
  unfold execSlotDispatch
  split
  · exact balances_finish h.dispatch
  · exact balances_next h

theorem execCombineComplete_balances (h : Accounted s) : Balances (execCombineComplete s) := by
  unfold execCombineComplete
  split
  · exact balances_finish h.completeCombine
  · exact balances_next h

theorem execUplinkPacketEnd_balances (h : Accounted s) : Balances (execUplinkPacketEnd s) := by
  unfold execUplinkPacketEnd
  split
  · exact balances_finish h.packetEnded.uplinkNext
  · exact balances_next h

theorem execPollSlot_balances (h : Accounted s) (p : Port) : Balances (execPollSlot p s) := by
  unfold execPollSlot
  split
  · exact balances_finish (h.through (poll_follows s p _).toChanges (by decide))
  · exact balances_next h

theorem execSidebandTransactionEnd_balances (h : Accounted s) (p : Port) (outcome : BusOutcome) :
    Balances (execSidebandTransactionEnd p outcome s) := by
  have freed := h.through (busFree_follows s p).toChanges (by decide)
  unfold execSidebandTransactionEnd
  split
  · exact balances_finish (freed.through (txnOutcome_follows _ p _ outcome).toChanges (by decide)).busPump
  · exact balances_next h

theorem execSettleEnd_balances (h : Accounted s) (p : Port) : Balances (execSettleEnd p s) := by
  unfold execSettleEnd
  split
  · exact balances_finish (h.through (moveDone_follows s p _ _).toChanges (by decide))
  · exact balances_next h

theorem execHaltReadPoll_balances (h : Accounted s) (p : Port) : Balances (execHaltReadPoll p s) := by
  unfold execHaltReadPoll
  split
  · exact balances_finish (h.through (haltPoll_follows s p _).toChanges (by decide))
  · exact balances_next h

theorem execArbitrationLost_balances (h : Accounted s) (p : Port) : Balances (execArbitrationLost p s) := by
  unfold execArbitrationLost
  split
  · exact balances_finish (h.through (loseBus_follows s p _).toChanges (by decide))
  · exact balances_next h

theorem execCalibrationEnd_balances (h : Accounted s) (count : Nat) : Balances (execCalibrationEnd count s) := by
  unfold execCalibrationEnd
  split
  · exact balances_finish (h.through (calibrated_follows s _ count).toChanges (by decide))
  · exact balances_next h

theorem execAcquisitionEnd_balances (h : Accounted s) (deviations : List Int) :
    Balances (execAcquisitionEnd deviations s) := by
  unfold execAcquisitionEnd
  split
  · exact balances_finish h.acquisitionEnds
  · exact balances_next h

theorem execSweepDeadline_balances (h : Accounted s) : Balances (execSweepDeadline s) := by
  unfold execSweepDeadline
  split
  · exact balances_finish (h.through (gatheringEnds_changes s _) (by decide))
  · exact balances_next h

theorem execAnalysisEnd_balances (h : Accounted s) : Balances (execAnalysisEnd s) := by
  unfold execAnalysisEnd
  split
  · exact balances_finish (h.through (analysed_changes s _) (by decide))
  · exact balances_next h

theorem execProfileWriteEnd_balances (h : Accounted s) (agrees : Bool) : Balances (execProfileWriteEnd agrees s) := by
  unfold execProfileWriteEnd
  split
  · exact balances_finish h.writeEnds
  · exact balances_next h

/-! ## Every command, and every step -/

theorem exec_balances (h : Accounted s) (i : Instr) : Balances (exec i s) := by
  cases i with
  | powerOnReset => exact balances_finish (startUp_accounted s)
  | nreset => exact balances_finish (startUp_accounted s)
  | controlFrameReceived bytes => exact execControlFrameReceived_balances h bytes
  | unknownRequest => exact execUnknownRequest_balances h
  | txFrameEnd => exact execTxFrameEnd_balances h
  | portConfig => exact balances_serve h (fun _ => h.portConfig)
  | portPowerOn => exact balances_portPower h (fun _ => h.portPowerOn)
  | portPowerOff => exact balances_portPower h (fun _ => h.portPowerOff)
  | portPowerProbe => exact balances_portPower h (fun _ => h.portPowerProbe)
  | portUnlock => exact balances_serve h (fun _ => h.portUnlock)
  | portStatus => exact balances_status h
  | setCapacity => exact balances_serve h (fun _ => h.setCapacity)
  | setSupplyPolicy => exact balances_serve h (fun _ => h.setSupplyPolicy)
  | supplyStatus => exact balances_answers h
  | probePulseStart p => exact balances_due h h.setPower
  | probePulseEnd p milliamps => exact balances_due h h.probeResult
  | rampEnd p => exact execRampEnd_balances h p
  | currentSample p milliamps => exact balances_due h h.sample
  | thresholdTrip p => exact balances_due h h.trip
  | hardLimitTrip p milliamps => exact balances_due h h.trip
  | openLoad p => exact balances_due h h.openLoad
  | cooldownEnd p => exact balances_due h h.raisePowerClaim
  | tripDecay p => exact balances_due h h.setPower
  | supplyLow millivolts heldMicros => exact execSupplyLow_balances h millivolts heldMicros
  | supplyFullShedCheck millivolts => exact balances_due h h.fullCheck
  | supplyRecovered millivolts heldMicros => exact execSupplyRecovered_balances h millivolts heldMicros
  | laneStatus => exact balances_status h
  | laneLockAcquired p => exact balances_due h h.lockReached
  | trainingDeadline p => exact balances_due h h.trainingFails
  | trainingRetry p => exact balances_due h h.startTraining
  | lockLost p => exact balances_due h h.losesLock
  | quietRetrainEnd p hasLock => exact balances_due h h.retrained
  | packetUnknownType p => exact balances_due h h.laneCount
  | frameStart p tag width height depth => exact balances_due h h.takeFrameStart
  | line p number pixels crc => exact balances_due h h.takeLine
  | frameEnd p tag lineCount => exact balances_due h h.takeFrameEnd
  | receptionDeadline p => exact balances_due h h.deadlineClose.checkCycle
  | exposureWindowEnd p => exact balances_due h h.exposureEnds
  | planLoad => exact execPlanLoad_balances h
  | planArm => exact balances_serve h (fun _ => h.planArm)
  | planStop => exact balances_serve h (fun _ => h.planStop)
  | planAbort => exact balances_serve h (fun _ => h.planAbort)
  | planClear => exact balances_serve h (fun _ => h.planClear)
  | planFire => exact balances_serve h (fun _ => h.planFire)
  | planStatus => exact balances_answers h
  | signalConfig => exact balances_serve h (fun _ => h.signalConfig)
  | periodExpiry => exact balances_due h h.takeStart
  | trigInEdge edge => exact balances_due h h.takeStart
  | heldCycleStart => exact balances_due h h.beginCycle
  | slotDispatch slot => exact execSlotDispatch_balances h slot
  | frameHold => exact balances_serve h (fun _ => h.frameHold)
  | frameRelease => exact balances_serve h (fun _ => h.frameRelease)
  | storeStatus => exact balances_serve h (fun _ => h.storeStatus)
  | combineComplete => exact execCombineComplete_balances h
  | regionRead => exact balances_serve h (fun _ => h.regionRead)
  | uplinkStatus => exact balances_answers h
  | ready grant => exact execReady_balances h grant
  | grant grant => exact execGrant_balances h grant
  | idle => exact balances_finish h.setUplink
  | returnError => exact balances_finish h.setUplink
  | returnSilence => exact balances_due h h.linkDown
  | uplinkPacketEnd => exact execUplinkPacketEnd_balances h
  | lensMove => exact balances_serve h (fun _ => h.lensMove)
  | lensPreset => exact balances_serve h (fun _ => h.lensPreset)
  | lensPresetSet => exact balances_serve h (fun _ => h.lensPresetSet)
  | lensHome => exact balances_serve h (fun _ => h.lensHome)
  | lensHalt => exact balances_serve h (fun _ => h.lensHalt)
  | lensStatus => exact balances_status h
  | pollSlot p => exact execPollSlot_balances h p
  | sidebandTransactionEnd p outcome => exact execSidebandTransactionEnd_balances h p outcome
  | settleEnd p => exact execSettleEnd_balances h p
  | moveDeadline p => exact execMoveDeadline_balances h p
  | haltReadPoll p => exact execHaltReadPoll_balances h p
  | haltDeadline p => exact execHaltDeadline_balances h p
  | busTimeout hang => exact execBusTimeout_balances h hang
  | arbitrationLost p => exact execArbitrationLost_balances h p
  | headMessage p bytes => exact execHeadMessage_balances h p bytes
  | motionSegment => exact balances_serve h (fun _ => h.motionSegment)
  | evidenceConfig => exact balances_serve h (fun _ => h.evidenceConfig)
  | breakList => exact balances_serve h (fun _ => h.breakList)
  | breakClear => exact balances_serve h (fun _ => h.breakClear)
  | evidenceWindowClose => exact execEvidenceWindowClose_balances h
  | cableSet => exact execCableSet_balances h
  | sweepRequest => exact balances_serve h (fun _ => h.sweepRequest)
  | sweepCancel => exact balances_serve h (fun _ => h.sweepCancel)
  | sweepResult => exact balances_status h
  | calibrationEnd count => exact execCalibrationEnd_balances h count
  | acquisitionEnd deviations => exact execAcquisitionEnd_balances h deviations
  | sweepDeadline => exact execSweepDeadline_balances h
  | analysisEnd => exact execAnalysisEnd_balances h
  | identify => exact balances_answers (fields := State.identifyFields) h
  | linkStatus => exact balances_answers (fields := fun s => s.link.statusFields) h
  | cellReset => exact execCellReset_balances h
  | profileSave => exact balances_serve h (fun _ => h.profileSave)
  | profileWriteEnd agrees => exact execProfileWriteEnd_balances h agrees
  | profileRestoreDefaults => exact execProfileRestoreDefaults_balances h
  | headStart p => exact balances_due h h.setLens
  | busRecoveryEnd p => exact balances_due h (h.through (busFree_follows s p).toChanges (by decide)).busPump
  | gatheredContentOverlong => exact balances_ite (balances_finish (t := { s with link := _ }) h) (balances_next h)

theorem Accounted.tick (h : Accounted s) : Accounted s.tick := by
  unfold State.tick
  exact .ite (fun _ => h) (fun _ => h)

theorem step_balances (h : Accounted s) : Balances (step s) := by
  unfold step
  split
  · next rest _ => exact exec_balances (s := { s with pending := rest }) h _
  · split
    · exact exec_balances h _
    · exact balances_next h.tick

/-- Settles O56: each operation of the store keeps the books, an id given next names no record, and no other operation
of the part changes a record, a buffer or the free list. -/
theorem storeBooksBalance : Obligations.StoreBooksBalance := fun s t sound moved =>
  (storeSound_iff t).mpr (step_balances ((storeSound_iff s).mp sound) t moved)

end Sys2Proof.FrameStore
end

section
/-!
PROOFS. FRAME_HOLD and FRAME_RELEASE by the state of the frame's buffer (R94, R95, R108).
-/

namespace Sys2Proof.FrameStore

open Sys2Proof.Machine Sys2Proof.Safety Sys2Proof.Power

variable {s : State} {tag : Byte} {id : Nat} {f : FrameRecord}

theorem stateOf_none {t : Store} (absent : t.frame? id = none) : t.stateOf id = none := by
  rw [Store.stateOf, absent, Option.map_none]

theorem stateOf_some {t : Store} (found : t.frame? id = some f) : t.stateOf id = some t.buffers[f.buffer] := by
  rw [Store.stateOf, found, Option.map_some]

theorem takesHold_iff (st : BufferState) :
    st.takesHold = true ↔ st = .filling ∨ st = .grouped ∨ st = .combining ∨ st = .queued := by
  cases st <;> simp [BufferState.takesHold]

/-- A region read of a frame stands on the region queue or in flight (R108). -/
theorem reads_iff (u : Uplink) (id : Nat) : u.reads id = true ↔
    (∃ e ∈ u.regions, e.frame = id) ∨ ∃ i, u.item = some i ∧ i.frame = id ∧ i.kind ≠ .frame := by
  simp only [Uplink.reads, Bool.or_eq_true, List.any_eq_true, decide_eq_true_eq, Option.any_eq_true, Bool.and_eq_true,
    bne_iff_ne]

/-! ## FRAME_HOLD (R94) -/

/-- A request to hold a frame acts by the state of the buffer that the id names. -/
theorem frameHold_serves (serves : Serves s 0x11 tag (num4 id)) (small : id < 4294967296) :
    exec .frameHold s = .next (if (s.store.stateOf id).any (·.takesHold)
      then (s.setStore (·.setFrame id (fun r => { r with hold := true }))).reply .ok
      else s.reply .notFound).transmit := by
  refine (serve_owner serves (num4_length id) State.frameHold).trans ?_
  simp only [State.frameHold, numAt_num4_only id small]

theorem frameHold_taken (serves : Serves s 0x11 tag (num4 id)) (small : id < 4294967296)
    (takes : (s.store.stateOf id).any (·.takesHold) = true) :
    exec .frameHold s = .next ((s.setStore (·.setFrame id (fun r => { r with hold := true }))).reply .ok).transmit := by
  rw [frameHold_serves serves small, if_pos takes]

theorem frameHold_refused (serves : Serves s 0x11 tag (num4 id)) (small : id < 4294967296)
    (refuses : (s.store.stateOf id).any (·.takesHold) = false) :
    exec .frameHold s = .next (s.reply .notFound).transmit := by
  rw [frameHold_serves serves small, if_neg (by simp [refuses])]

/-! ## FRAME_RELEASE (R95) -/

/-- A request to release a frame acts by the state of its buffer, and by the region reads of it. -/
theorem frameRelease_serves (serves : Serves s 0x12 tag (num4 id)) (small : id < 4294967296) :
    exec .frameRelease s = .next (if s.store.stateOf id = some .held
      then (if s.uplink.reads id then s.reply .busy else (s.freeFrame id).reply .ok)
      else s.reply .notFound).transmit := by
  refine (serve_owner serves (num4_length id) State.frameRelease).trans ?_
  simp only [State.frameRelease, numAt_num4_only id small]

theorem frameRelease_refused (serves : Serves s 0x12 tag (num4 id)) (small : id < 4294967296)
    (unheld : s.store.stateOf id ≠ some .held) : exec .frameRelease s = .next (s.reply .notFound).transmit := by
  rw [frameRelease_serves serves small, if_neg unheld]

theorem frameRelease_busy (serves : Serves s 0x12 tag (num4 id)) (small : id < 4294967296)
    (held : s.store.stateOf id = some .held) (reads : s.uplink.reads id = true) :
    exec .frameRelease s = .next (s.reply .busy).transmit := by
  rw [frameRelease_serves serves small, if_pos held, if_pos reads]

theorem frameRelease_frees (serves : Serves s 0x12 tag (num4 id)) (small : id < 4294967296)
    (held : s.store.stateOf id = some .held) (unread : ¬ s.uplink.reads id = true) :
    exec .frameRelease s = .next ((s.freeFrame id).reply .ok).transmit := by
  rw [frameRelease_serves serves small, if_pos held, if_neg unread]

/-- The store with a frame freed. -/
theorem free_some {t : Store} (found : t.frame? id = some f) : t.free id = { t with
    buffers := upd t.buffers f.buffer (fun _ => .free)
    frames := t.frames.filter (fun r => r.id ≠ id)
    freeList := t.freeList ++ [f.buffer]
    heldSet := t.heldSet.filter (fun n => n ≠ id) } := by
  rw [Store.free, found]

/-- Settles O35: each request acts by the state of the buffer that the id names, and a release by the region reads
too. -/
theorem holdAndReleaseByBufferState : Obligations.HoldAndReleaseByBufferState := by
  refine fun s tag id small => ⟨fun absent => ?_, fun f found => ?_⟩
  · have unnamed := stateOf_none absent
    exact ⟨fun serves => frameHold_refused serves small (by rw [unnamed]; rfl),
      fun serves => frameRelease_refused serves small (by rw [unnamed]; exact nofun)⟩
  · have state := stateOf_some found
    refine ⟨fun serves => ⟨fun takes => ?_, fun refuses => ?_⟩, fun serves => ⟨fun unheld => ?_, fun held => ⟨?_, ?_⟩⟩⟩
    · exact frameHold_taken serves small (by rw [state, Option.any_some, takesHold_iff]; exact takes)
    · refine frameHold_refused serves small ?_
      rw [state, Option.any_some]
      rcases refuses with e | e | e <;> rw [e] <;> rfl
    · exact frameRelease_refused serves small (by rw [state]; simpa using unheld)
    · exact fun reads => frameRelease_busy serves small (by rw [state, held]) ((reads_iff _ _).mpr reads)
    · intro regions item
      have unread : ¬ s.uplink.reads id = true := fun reads => by
        rcases (reads_iff _ _).mp reads with ⟨e, mem, same⟩ | ⟨i, inFlight, same, region⟩
        · exact regions e mem same
        · exact region (item i inFlight same)
      rw [frameRelease_frees serves small (by rw [state, held]) unread, State.freeFrame, State.setStore,
        free_some found]

end Sys2Proof.FrameStore
end

section
/-!
PROOFS. The close of a whole frame at the last signed position of a new pass, in a state whose idle engine stands beside
a group on the combine queue. The statement's clause about the members of the older group does not exclude it. The older
group's member goes to the output queue, and the engine then takes the queued group, which names that member, so that its
buffer leaves QUEUED for COMBINING.
-/

namespace Sys2Proof.FrameStore

open Sys2Proof.Machine Sys2Proof.Safety

/-- A slot of one signed position, on port 0. -/
def plusSlot : Slot := ⟨Vector.ofFn (fun p => p = 0), 0, 50000, 0, 0, 20, 10000, [false], [.plus], none, false, 0⟩

/-- The places of a group whose first position a frame holds. -/
def placesOf (id : Nat) : Vector (Option Nat) 8 := (Vector.replicate 8 none).set 0 (some id)

/-- The group of port 0 left from pass 5, with frame 1 for its member. -/
def olderGroup : Group := ⟨0, 0, 5, false, [.plus], placesOf 1⟩

/-- A complete group on the combine queue that names frame 1 as well. -/
def waitingGroup : Group := ⟨1, 0, 0, false, [.plus], placesOf 1⟩

/-- The new group of pass 0, before its frame joins. -/
def newGroup : Group := ⟨0, 0, 0, false, [.plus], Vector.replicate 8 none⟩

/-- A record of a frame of one line for the slot, port and cycle of the window. -/
def lineRecord (id : Nat) (buffer : Fin 48) : FrameRecord :=
  ⟨id, buffer, 0, 0, 0, 0, 0, 16, 1, 8, none, {}, false, false, none⟩

/-- The reception window of port 0, in cycle 0 and at its deadline. -/
def dueWindow : RxWindow := ⟨0, 0, 0, 0, 0, 0, 0, {}, .receiving⟩

/-- Frame 2 in reception, its one line stored. -/
def wholeFrame : RxFrame where
  tag := 0
  buffer := 1
  id := 2
  slot := 0
  cycle := 0
  position := 0
  triggerTime := 0
  width := 16
  height := 1
  depth := 8
  stored := [0]
  flags := {}

/-- Frame 1 waits in its older group, and frame 2 fills its buffer; the engine is idle beside the waiting group. -/
def idleBesideQueue : State :=
  { State.reset with
    lanes := Vector.ofFn (fun p => if p = 0 then { window := some dueWindow, frame := some wholeFrame } else {})
    seq := { state := .running, plan := some ⟨.lineTrigger, none, some .rising, 1, [plusSlot]⟩ }
    store := {
      buffers := Vector.ofFn (fun b => if b = 0 then .grouped else if b = 1 then .filling else .free)
      frames := [lineRecord 1 0, lineRecord 2 1]
      freeList := (List.finRange 48).drop 2
      groups := [olderGroup]
      combineQueue := [waitingGroup] } }

/-- The state of a buffer after a command. -/
def bufferAfter (c : Instr) (s : State) (b : Fin 48) : Option BufferState :=
  match exec c s with
  | .next t => some t.store.buffers[b]
  | _ => none

theorem bufferAfter_eq {c : Instr} {s t : State} (h : exec c s = .next t) (b : Fin 48) :
    bufferAfter c s b = some t.store.buffers[b] := by
  simp only [bufferAfter, h]

theorem idleBesideQueue_meets :
    idleBesideQueue.seq.state = .running ∧ idleBesideQueue.uplink.up = false ∧ StoreSound idleBesideQueue ∧
      idleBesideQueue.lanes[(0 : Port)].window = some dueWindow ∧
      idleBesideQueue.lanes[(0 : Port)].frame = some wholeFrame ∧
      idleBesideQueue.seq.slots[dueWindow.slot.val]? = some plusSlot ∧
      idleBesideQueue.store.frame? 1 = some (lineRecord 1 0) ∧
      idleBesideQueue.store.frame? 2 = some (lineRecord 2 1) ∧
      dueWindow.deadline ≤ idleBesideQueue.clock := by decide +kernel

theorem idleBesideQueue_takes_member : bufferAfter (.receptionDeadline 0) idleBesideQueue 0 = some .combining := by
  decide +kernel

/-- Refutes O36: a member that the end of an older group sends out need not stay QUEUED, where the idle engine finds a
group on the combine queue that names it. -/
theorem not_combineWritesClampedSums : ¬ Obligations.CombineWritesClampedSums := by
  unfold Obligations.CombineWritesClampedSums
  rintro ⟨-, groups⟩
  obtain ⟨running, down, sound, window, frame, slot, member, record, due⟩ := idleBesideQueue_meets
  obtain ⟨-, closes⟩ := groups idleBesideQueue 0 (.receptionDeadline 0) dueWindow plusSlot 1 [] (some olderGroup)
    newGroup [1] (sat32 0) true 0 (.inr running) down sound window slot rfl rfl (.inl rfl) (by decide) rfl rfl
    (.inr (.inr ⟨olderGroup, rfl, by decide, rfl, nofun, fun _ => by decide⟩))
  obtain ⟨t, runs, -, -, -, sent⟩ := closes wholeFrame (lineRecord 2 1) true _ rfl frame record rfl rfl rfl rfl rfl
    (by decide) (by decide) rfl (.inr ⟨rfl, due⟩)
  obtain ⟨queued, -⟩ := sent 1 List.mem_cons_self _ member
  have combining := idleBesideQueue_takes_member
  rw [bufferAfter_eq runs] at combining
  exact absurd (queued.symm.trans (Option.some.inj combining)) (by decide)

end Sys2Proof.FrameStore
end
